-- ==== Sys2Proof/Word.lean ====
section
/-!
DEFINITION. The word types of the Georer 9460 (R8, R9): bytes, the little-endian words built of
them, and the one unit of time, the TSCLK tick of 2 ns (R15).
-/
namespace Sys2Proof

/-- One byte of a packet, a frame or a memory. -/
abbrev Byte := BitVec 8

/-- A 16-bit field, such as a ring pointer or a unit identifier. -/
abbrev Half := BitVec 16

/-- A 32-bit field, such as SEQ or a CRC-32C. -/
abbrev Word := BitVec 32

/-- A 64-bit field, such as a counter or an address. -/
abbrev Dword := BitVec 64

/-- A byte string, first byte first. -/
abbrev Bytes := List Byte

/-- An instant or a length of device time in whole TSCLK ticks of 2 ns (R15). -/
abbrev Tick := Nat

end Sys2Proof
end

