-- ==== Sys2Proof/Syntax.lean ====
section
/-!
DEFINITION. The commands of the Georer 9460: one constructor per row of the operation table. Every
command carries the instant `t` (a 2 ns period of the device clock) at which it takes effect. A Sprinaz
command carries the partner `p` that issued it and the packet `k` as Pair A fetched it; an event
carries what the wires, the pins or the engine concerned supply.
-/
namespace Sys2Proof

/-- A Sprinaz packet as fetched (R53). OPCODE is the command's own; UNIT is as received. -/
structure Packet where
  version : Byte
  flags : Byte
  tag : Half
  unit : Half
  plen : Half
  /-- Bytes 0x0A and 0x0B, TXN in a command. -/
  txn : Half
  seq : Word
  /-- The parameter area, PLEN bytes. -/
  params : Bytes
  /-- The trailer as received. -/
  crc : Word
deriving DecidableEq, Repr

/-- A CAN or LIN frame in the fields of the host record (R198). `fmt`: 0 CC, 1 FD, 2 XL, 3 LIN. -/
structure CanFrame where
  id : Nat
  ide : Bool
  rtr : Bool
  fmt : Nat
  brs : Bool
  esi : Bool
  sec : Bool
  /-- LIN enhanced checksum. -/
  enh : Bool
  /-- DLC as received, for CC and FD. -/
  dlc : Nat
  dlen : Nat
  af : Nat
  sdt : Nat
  vcid : Nat
  data : Bytes
deriving DecidableEq, Repr


/-- A packet of the Masaton link (R696, R697), with whether its CRC and blocks are good. -/
structure LinkPacket where
  typ : Nat
  vc : Nat
  lseq : Nat
  lack : Nat
  src : Nat
  dst : Nat
  hops : Nat
  pflags : Nat
  arg : Nat
  payload : Bytes
  good : Bool
deriving DecidableEq, Repr

/-- A mirror record (R720, R721), by its kind. -/
inductive MirrorRec where
  /-- A commit with its GEN and content: object numbers and bytes, `none` a removal. -/
  | commit (gen : Nat) (content : List (Nat × Option Bytes))
  /-- A learned FDB entry: key, gport, lock; gport 0xFF a removal. -/
  | learned (key gport : Nat) (locked : Bool)
  /-- A built PDU: image, PENDING, E2E counter, last trigger and next due instant. -/
  | pdu (i : Nat) (image : Bytes) (pending : Bool) (e2e last due : Nat)
  /-- An entry added to an open container: its bytes and the container's earliest deadline. -/
  | container (c : Nat) (entry : Bytes) (deadline : Nat)
  /-- A LIN commander's table, slot and slot start. -/
  | lin (g table slot start : Nat)
  /-- A quarantine's start (true) or end. -/
  | quarantine (kind target cause holdMs : Nat) (starts : Bool)
  | macsecPn (sa pn : Nat)
  | securedFv (profile fv : Nat)
  | frerSeq (func next : Nat)
  | ownAddress (g sa : Nat) (name : Nat)
deriving DecidableEq, Repr
/-- The commands: one constructor per row of the operation table. -/
inductive Instr where
  /-- ECHO (R112). Returns the command's parameters unchanged in the reply. -/
  | echo (t p : Nat) (k : Packet)
  /-- VERSION_QUERY (R112). Returns the protocol version, firmware version, image slot, stepping and partner index. -/
  | versionQuery (t p : Nat) (k : Packet)
  /-- PARTNER_SET (R114). Attaches, changes or detaches a partner, resets its queues, aborts its transaction and raises PARTNER_CHANGE. -/
  | partnerSet (t p : Nat) (k : Packet)
  /-- PARTNER_QUERY (R112). Returns a partner's settings in the PARTNER_SET layout. -/
  | partnerQuery (t p : Nat) (k : Packet)
  /-- EVENT_SUBSCRIBE (R90). Enables or disables delivery of a unit's events to the issuing partner. -/
  | eventSubscribe (t p : Nat) (k : Packet)
  /-- EVQ_CONFIG (R115). Sets the issuer's event queue half size, coalescing time and mirror base. -/
  | evqConfig (t p : Nat) (k : Packet)
  /-- TXN_ABORT (R116). Discards every staged member of the issuer's open transaction. -/
  | txnAbort (t p : Nat) (k : Packet)
  /-- EVQ_RESET (R101). Resets the issuer's event queue and writes QUEUE_RESET with reason 2. -/
  | evqReset (t p : Nat) (k : Packet)
  /-- HOST_CMD_DB (R101). A write of the request-ring tail posts commands, or resets the command queue when its complement is wrong. -/
  | hostCmdDb (t p : Nat) (v : Word)
  /-- HOST_RPL_DB (R101). A write of the reply-ring head frees reply room, or resets the command queue when its complement is wrong. -/
  | hostRplDb (t p : Nat) (v : Word)
  /-- HOST_EVQ_MARK_DB (R98). Sets MARK to the written pointer, or resets the event queue when its complement is wrong. -/
  | hostEvqMarkDb (t p : Nat) (v : Word)
  /-- HOST_EVQ_REWIND_DB (R98). Rewinds RD to MARK or re-mirrors records with REWOUND set. -/
  | hostEvqRewindDb (t p : Nat) (v : Word)
  /-- HOST_EVQ_RELEASE_DB (R98). Releases records up to the written pointer and overwrites mirrored slots with IDLE items. -/
  | hostEvqReleaseDb (t p : Nat) (v : Word)
  /-- EVENT_WINDOW_READ (R97). A read of event window offset 0x00 latches the record at RD and advances RD. -/
  | eventWindowRead (t p off : Nat)
  /-- TXN_TIMEOUT (R82). An open transaction with no member for 1 s is aborted and TXN_ABORTED is raised. -/
  | txnTimeout (t p : Nat)
  /-- EVQ_COALESCE_EXPIRY (R95). A partially filled half is signalled when the partner's coalescing time has passed. -/
  | evqCoalesceExpiry (t p : Nat)
  /-- RING_CONFIG (R170). Configures a descriptor ring and gives it to the issuer. -/
  | ringConfig (t p : Nat) (k : Packet)
  /-- RING_ENABLE (R172). Enables a ring or stops it at a frame boundary. -/
  | ringEnable (t p : Nat) (k : Packet)
  /-- RING_RESTART (R146). Resumes a stopped ring at the fault offset or skips the faulted frame. -/
  | ringRestart (t p : Nat) (k : Packet)
  /-- RING_FREE (R171). Releases a disabled ring from its owner. -/
  | ringFree (t p : Nat) (k : Packet)
  /-- RING_QUERY (R170). Returns a ring's configuration and ring block. -/
  | ringQuery (t p : Nat) (k : Packet)
  /-- DMMU_CTX_SET (R171). Allocates or frees a DMMU context of 16-63, removing its mappings when freed. -/
  | dmmuCtxSet (t p : Nat) (k : Packet)
  /-- DMMU_MAP (R142). Adds page translations to a DMMU context. -/
  | dmmuMap (t p : Nat) (k : Packet)
  /-- DMMU_UNMAP (R142). Removes page translations so that no later access uses them. -/
  | dmmuUnmap (t p : Nat) (k : Packet)
  /-- DMMU_QUERY (R170). Returns the translation of one virtual address in a context. -/
  | dmmuQuery (t p : Nat) (k : Packet)
  /-- WINDOW_SET (R159). Sets or disables a bridge window onto a DMMU context. -/
  | windowSet (t p : Nat) (k : Packet)
  /-- WINDOW_QUERY (R170). Returns a window's settings. -/
  | windowQuery (t p : Nat) (k : Packet)
  /-- HOSTPORT_QUERY (R173). Returns link or octal-SPI state and error counts of a host port. -/
  | hostportQuery (t p : Nat) (k : Packet)
  /-- HOSTS_CONFIG (R158). Changes the octal-SPI latency LAT from the next transaction after the reply. -/
  | hostsConfig (t p : Nat) (k : Packet)
  /-- RING_DB (R123). A write of the host tail posts descriptors, or stops the ring with DB_CORRUPT or DB_RANGE. -/
  | ringDb (t ring : Nat) (v : Word) (wr : List (Nat × Bytes))
  /-- TX_DMA_FETCH (R135). Once a whole frame is posted and credited, the TX DMA fetches it in 256-byte chunks and admits it. -/
  | txDmaFetch (t n : Nat) (err : Bool)
  /-- RX_DMA_DELIVER (R133). Once enough descriptors are posted, a waiting RX frame is written to host buffers and completed. -/
  | rxDmaDeliver (t : Nat) (err : Option Nat)
  /-- RING_COALESCE_EXPIRY (R132). Raises ring vector n once the coalescing time has passed since the first unsignalled frame. -/
  | ringCoalesceExpiry (t n : Nat)
  /-- PCIE_LINK_DOWN (R121). The HOSTP link leaves L0 other than into L1: HOSTP rings stop with LINK_DOWN and requests are discarded. -/
  | pcieLinkDown (t : Nat)
  /-- PCIE_LINK_UP (R174). The HOSTP link comes up and PCIE_LINK is raised. -/
  | pcieLinkUp (t width speed : Nat)
  /-- PCIE_PERST (R767). PCIE_PERST_N low ends the HOSTP link without resetting other blocks. -/
  | pciePerst (t : Nat) (low : Bool)
  /-- PCIE_COMPLETION_TIMEOUT (R117). A device read towards the host receives no completion within the completion timeout. -/
  | pcieCompletionTimeout (t : Nat) (ring : Option Nat)
  /-- BAR0_ACCESS (R119). A host access to BAR0 that is not one aligned word reads bytes of the word or is ignored. -/
  | bar0Access (t p off len : Nat) (write : Option Bytes)
  /-- WINDOW_READ (R162). A host read through a window is translated and served, with prefetch when typed prefetchable. -/
  | windowRead (t off len : Nat)
  /-- WINDOW_WRITE (R160). A host write through a window is dropped, posted or performed as the window's write mode gives. -/
  | windowWrite (t off : Nat) (data : Bytes)
  /-- PREFETCH_DISCARD (R162). A partner's prefetch buffer is discarded after 2 µs without access, setting LOST_READ for read-sensitive data. -/
  | prefetchDiscard (t p : Nat)
  /-- NONPOSTED_WRITE_DONE (R156). A non-posted window write completes internally and its outcome is recorded. -/
  | nonpostedWriteDone (t p : Nat)
  /-- OSPI_READ (R155). An octal-SPI READ transaction returns data, or RETRY and keeps the read for 10 µs. -/
  | ospiRead (t part addr len : Nat) (crc cmd ready : Bool)
  /-- OSPI_WRITE (R153). An octal-SPI WRITE transaction is checked and performed or posted. -/
  | ospiWrite (t part addr : Nat) (data : Bytes) (crc fast : Bool)
  /-- OSPI_STATUS_READ (R153). An octal-SPI STATUS_READ transaction returns HOST_SPI_STATUS. -/
  | ospiStatusRead (t part : Nat) (crc : Bool)
  /-- OSPI_FRAMING_ERROR (R157). OSPI_CS_N rises before a transaction ends and the transaction is discarded. -/
  | ospiFramingError (t : Nat)
  /-- KEPT_READ_EXPIRY (R155). A kept read expires 10 µs after its status phase, setting LOST_READ for read-sensitive data. -/
  | keptReadExpiry (t p : Nat)
  /-- PORT_ADMIN (R178). Sets a port's admin state up or down. -/
  | portAdmin (t p : Nat) (k : Packet)
  /-- PORT_QUERY (R238). Returns a port's kind, admin and oper state, config and status words. -/
  | portQuery (t p : Nat) (k : Packet)
  /-- PORT_COUNTERS (R181). Returns every counter of a port captured in one FABCLK cycle. -/
  | portCounters (t p : Nat) (k : Packet)
  /-- PORT_TS_CORR (R226). Sets the external receive and transmit timestamp corrections of a port. -/
  | portTsCorr (t p : Nat) (k : Packet)
  /-- TRX_MODE_SET (R231). Sets the transceiver mode of a CAN or LIN port at the end of the frame on the bus. -/
  | trxModeSet (t p : Nat) (k : Packet)
  /-- WAKE_DETECT_SET (R235). Enables a port's wake sources and sets FILT and TO. -/
  | wakeDetectSet (t p : Nat) (k : Packet)
  /-- CAN_CONFIG (R187). Writes a CAN port's configuration word. -/
  | canConfig (t p : Nat) (k : Packet)
  /-- CAN_BITTIME (R187). Writes a CAN port's bit timing and transmitter delay compensation. -/
  | canBittime (t p : Nat) (k : Packet)
  /-- CAN_RESTRICT (R194). Enters restricted operation or bus monitoring, or returns to normal operation. -/
  | canRestrict (t p : Nat) (k : Packet)
  /-- CAN_RECOVER (R190). Starts bus-off recovery on a port without AUTO_RECOVER. -/
  | canRecover (t p : Nat) (k : Packet)
  /-- LIN_CONFIG (R200). Sets a LIN port's role, break, bit rate, checksum and length maps. -/
  | linConfig (t p : Nat) (k : Packet)
  /-- LIN_SCHEDULE_SET (R201). Writes a LIN schedule table that is not active. -/
  | linScheduleSet (t p : Nat) (k : Packet)
  /-- LIN_SCHEDULE_SELECT (R203). Changes or stops the active LIN schedule table at a slot or pass end. -/
  | linScheduleSelect (t p : Nat) (k : Packet)
  /-- ETH_CONFIG (R233). Sets an Ethernet port's speed, pre-emption, maximum frame and PHY reset time. -/
  | ethConfig (t p : Nat) (k : Packet)
  /-- ETH_FLOWCTL (R239). Sets pause or PFC mode and closes pause windows in force. -/
  | ethFlowctl (t p : Nat) (k : Packet)
  /-- T1S_PLCA (R210). Writes a T1S port's PLCA settings. -/
  | t1sPlca (t p : Nat) (k : Packet)
  /-- MDIO_ACCESS (R234). Performs one Clause 22 or Clause 45 management read or write. -/
  | mdioAccess (t p : Nat) (k : Packet)
  /-- CAN_INTEGRATED (R177). A CAN controller sees 11 recessive bits and integrates, taking its oper state up. -/
  | canIntegrated (t g : Nat)
  /-- CAN_RX_FRAME (R199). A CAN frame on the bus is received, checked against R222 and passed to classification or counted. -/
  | canRxFrame (t g : Nat) (c : CanFrame) (shown cap sofDelta rxErr : Nat)
  /-- CAN_TX_ATTEMPT_END (R191). A CAN transmission attempt succeeds, loses arbitration or fails with an error and is retried. -/
  | canTxAttemptEnd (t g res cap tdc : Nat)
  /-- BUS_OFF_RECOVERED (R190). After 128 occurrences of 11 recessive bits the controller returns to error-active. -/
  | busOffRecovered (t g : Nat)
  /-- TRAILER_PRESENCE_EXPIRY (R196). A presence window ends without a valid frame and TRAILER goes to 0. -/
  | trailerPresenceExpiry (t g : Nat)
  /-- GTS_HOLD_END (R230). Go-to-sleep has been held for GTS_US and the transceiver moves to Standby levels. -/
  | gtsHoldEnd (t g : Nat)
  /-- LIN_SLOT_START (R201). A commander's schedule slot begins and its header is sent, subject to its gate. -/
  | linSlotStart (t g : Nat) (ok : Bool) (cap : Nat)
  /-- LIN_RX_FRAME (R206). A LIN header or response is received, checked against R222 and passed to classification or counted. -/
  | linRxFrame (t g : Nat) (hdr : Bool) (id err baud : Nat) (ok : Bool) (data : Bytes) (cap sofDelta : Nat)
  /-- LIN_RESPONSE_TIMEOUT (R200). A subscribed response is absent or incomplete at the response timeout. -/
  | linResponseTimeout (t g : Nat)
  /-- ETH_RX_FRAME (R212). An Ethernet frame is received, checked against R222 and passed to classification or counted. -/
  | ethRxFrame (t g : Nat) (data : Bytes) (shown cap : Nat) (lane4 head : Bool)
  /-- PAUSE_WINDOW_END (R215). A pause window ends and frames of its scope may start again. -/
  | pauseWindowEnd (t g : Nat)
  /-- PCS_LOCK_CHANGE (R177). The PCS gains or loses block lock or synchronisation, changing the oper state and raising PORT_OPER. -/
  | pcsLockChange (t g : Nat) (ok : Bool)
  /-- PLCA_STATUS (R177). A T1S port's PLCA status changes and PLCA_STATUS is raised. -/
  | plcaStatus (t g : Nat) (ok : Bool)
  /-- PREEMPT_VERIFY (R211). IEEE 802.3br verification succeeds or fails after its attempts. -/
  | preemptVerify (t g : Nat) (ok : Bool)
  /-- PHY_RESET_RELEASE (R233). The PHY reset pin is released after PRST_US at admin up. -/
  | phyResetRelease (t g : Nat)
  /-- WAKE_DETECT (R235). A port's wake detector completes a detection and hands it to the sleep unit. -/
  | wakeDetect (t g src n k : Nat)
  /-- WAKE_PATTERN_TIMEOUT (R235). A CAN wake-up pattern fails to complete within TO of its first dominant phase. -/
  | wakePatternTimeout (t g : Nat)
  /-- CADENCE_MISS (R458). An acceptance window without an ON_TIME arrival is judged missed, giving LOSS. -/
  | cadenceMiss (t f : Nat)
  /-- CONTAIN_HOLD_END (R463). A hold window ends and the quarantine ends or is extended. -/
  | containHoldEnd (t kind target : Nat)
  /-- PFC_REFRESH (R342). While XOFF lasts the PAUSE or PFC frame is ordered again every QUANTA × quantum / 2. -/
  | pfcRefresh (t g c : Nat)
  /-- FRER_RESET_TIMER (R375). The RESET_MS window ends without a passed frame and the recovery function resets. -/
  | frerResetTimer (t f : Nat)
  /-- FDB_LEARN (R410). The learner takes a waiting learn from its queue and learns, moves, locks or counts it. -/
  | fdbLearn (t : Nat)
  /-- PATINA_EPOCH (R416). The Patina epoch advances at the end of each TICK_S window. -/
  | patinaEpoch (t : Nat)
  /-- FDB_AGE_VISIT (R417). The ager visits an entry and removes it when it has aged. -/
  | fdbAgeVisit (t pos : Nat)
  /-- EGRESS_SELECT (R327). A port selects the highest eligible head frame and starts or hands off its transmission. -/
  | egressSelect (t g cap : Nat) (lane4 : Bool)
  /-- TX_COMPLETE (R357). A replica's transmission ends and the frame is freed when its last replica is done. -/
  | txComplete (t g coll : Nat)
  /-- GATE_WITHDRAW (R366). A CAN frame whose SOF was not driven before its fit test fails is withdrawn to its queue. -/
  | gateWithdraw (t g : Nat)
  /-- GATE_CYCLE_START (R499). A gate list reaches a cycle start and chooses the next one. -/
  | gateCycleStart (t : Nat) (stream : Bool) (n : Nat)
  /-- GATE_APPLIED (R363). An admin gate list becomes operational at its first cycle start after CHANGE. -/
  | gateApplied (t : Nat) (stream : Bool) (n : Nat)
  /-- GATE_ENTRY_CHANGE (R361). The next entry of an operational gate list takes effect. -/
  | gateEntryChange (t : Nat) (stream : Bool) (n : Nat)
  /-- PREEMPT_FRAGMENT (R368). A pre-emptable frame is pre-empted at a window end or by an express frame. -/
  | preemptFragment (t g n : Nat)
  /-- RESIDENCE_SWEEP (R351). The background sweep drops expired frames from a queue. -/
  | residenceSweep (t g : Nat)
  /-- SPILL_OUT (R335). A frame queued above HI_CELLS is copied to the spill region and its cells freed. -/
  | spillOut (t g c : Nat)
  /-- SPILL_IN (R335). A spilled frame is read back whole once its queue falls to LO_CELLS. -/
  | spillIn (t g c : Nat) (bad : Bool)
  /-- LPDDR5_UNAVAILABLE (R337). LPDDR5 becomes unavailable: spill is disabled and spilled frames dropped. -/
  | lpddr5Unavailable (t : Nat)
  /-- ECC_SCRUB (R332). The scrubber reads a frame-buffer cell, correcting or retiring it. -/
  | eccScrub (t cell kind : Nat) (fid : Option Nat) (unsent : Bool)
  /-- PAUSE_RESPONSE_WINDOW_END (R344). The R_MAX window of an XOFF ends and its response-time sample is taken. -/
  | pauseResponseWindowEnd (t g : Nat)
  /-- BUF_ACCOUNT_SET (R341). Sets a source account's share and recomputes its reservation. -/
  | bufAccountSet (t p : Nat) (k : Packet)
  /-- BUF_FC_SET (R381). Sets a port's pause quanta and pause response parameters. -/
  | bufFcSet (t p : Nat) (k : Packet)
  /-- BUF_QUERY (R380). Returns an account's reservation, share and usage. -/
  | bufQuery (t p : Nat) (k : Packet)
  /-- QUEUE_SET (R350). Sets an egress queue's residence limit and cell cap. -/
  | queueSet (t p : Nat) (k : Packet)
  /-- SPILL_CONFIG (R334). Places or disables the spill region in LPDDR5. -/
  | spillConfig (t p : Nat) (k : Packet)
  /-- SPILL_QUEUE (R334). Sets a queue's spill thresholds. -/
  | spillQueue (t p : Nat) (k : Packet)
  /-- CUT_THROUGH_SET (R359). Enables or disables cut-through on an Ethernet port. -/
  | cutThroughSet (t p : Nat) (k : Packet)
  /-- PREEMPT_CLASSES (R369). Marks a port's pre-emptable classes. -/
  | preemptClasses (t p : Nat) (k : Packet)
  /-- GATE_LIST_SET (R363). Stores a new admin gate list for a port. -/
  | gateListSet (t p : Nat) (k : Packet)
  /-- GATE_ENABLE (R362). Opens every gate of a port or returns control to its operational list. -/
  | gateEnable (t p : Nat) (k : Packet)
  /-- GATE_QUERY (R363). Returns a port's operational or admin gate list. -/
  | gateQuery (t p : Nat) (k : Packet)
  /-- REPL_SET (R358). Stages a replication set's gport mask. -/
  | replSet (t p : Nat) (k : Packet)
  /-- REPL_QUERY (R380). Returns a replication set's mask. -/
  | replQuery (t p : Nat) (k : Packet)
  /-- FRER_SEQGEN_SET (R374). Stages a sequence generation function. -/
  | frerSeqgenSet (t p : Nat) (k : Packet)
  /-- FRER_RECOVERY_SET (R375). Stages a sequence recovery function. -/
  | frerRecoverySet (t p : Nat) (k : Packet)
  /-- FRER_QUERY (R380). Returns a FRER function's state and counts. -/
  | frerQuery (t p : Nat) (k : Packet)
  /-- FRER_RESET (R375). Resets a recovery function and raises FRER_RESET. -/
  | frerReset (t p : Nat) (k : Packet)
  /-- SW_COUNTERS (R379). Returns a gport's switch counters. -/
  | swCounters (t p : Nat) (k : Packet)
  /-- GW_TAKE_FRAME (R347). The gateway engine takes a frame from RECIRC when its account allows and does its GW_REF work. -/
  | gwTakeFrame (t : Nat)
  /-- CONTAINER_RELEASE (R271). A release comparator fires at rel(c) and the open container is released. -/
  | containerRelease (t c : Nat)
  /-- CYCLIC_DUE (R264). The cyclic timer wheel finds a due instant and emits the PDU or makes it pending. -/
  | cyclicDue (t n : Nat)
  /-- MIN_GAP_END (R265). A deferred on-change or on-update send is made at the end of its gap. -/
  | minGapEnd (t n : Nat)
  /-- PDU_TIMEOUT (R260). A source PDU's reception window ends and its timeout action is applied. -/
  | pduTimeout (t n : Nat)
  /-- TP_TIMER_EXPIRY (R298). A transport session timer expires and the session aborts or ends. -/
  | tpTimerExpiry (t n : Nat)
  /-- TP_SEGMENT_RELEASE (R303). A send session releases its next segment after STmin or GAP_MS. -/
  | tpSegmentRelease (t n : Nat)
  /-- J1939_CLAIM_RX (R287). Pair B receives an address claim copy and updates its claim table. -/
  | j1939ClaimRx (t g sa name stamp : Nat)
  /-- J1939_BINDING_COMMIT (R290). Pair B rewrites and commits entries naming a binding whose address changed, once a commit is possible. -/
  | j1939BindingCommit (t : Nat)
  /-- PDU_DEFINE (R249). Stages a PDU definition. -/
  | pduDefine (t p : Nat) (k : Packet)
  /-- PDU_REMOVE (R323). Stages removal of a PDU. -/
  | pduRemove (t p : Nat) (k : Packet)
  /-- PDU_QUERY (R322). Returns a PDU's definition, state and image. -/
  | pduQuery (t p : Nat) (k : Packet)
  /-- MAP_ADD (R256). Stages signal mappings. -/
  | mapAdd (t p : Nat) (k : Packet)
  /-- MAP_REMOVE (R316). Stages removal of signal mappings. -/
  | mapRemove (t p : Nat) (k : Packet)
  /-- MAP_QUERY (R322). Returns signal mappings. -/
  | mapQuery (t p : Nat) (k : Packet)
  /-- CONT_DEFINE (R268). Stages a container definition. -/
  | contDefine (t p : Nat) (k : Packet)
  /-- CONT_REMOVE (R323). Stages removal of a container definition. -/
  | contRemove (t p : Nat) (k : Packet)
  /-- CONT_QUERY (R322). Returns a container definition and its open container. -/
  | contQuery (t p : Nat) (k : Packet)
  /-- CONT_FLUSH (R276). Releases a definition's open container in the next cycle. -/
  | contFlush (t p : Nat) (k : Packet)
  /-- E2E_PROFILE_SET (R307). Stages an E2E profile. -/
  | e2eProfileSet (t p : Nat) (k : Packet)
  /-- E2E_COMPUTE (R315). Computes an E2E check value over supplied data on a direct unit. -/
  | e2eCompute (t p : Nat) (k : Packet)
  /-- TP_CHANNEL_SET (R295). Stages a transport channel. -/
  | tpChannelSet (t p : Nat) (k : Packet)
  /-- TP_CHANNEL_REMOVE (R323). Stages removal of a transport channel. -/
  | tpChannelRemove (t p : Nat) (k : Packet)
  /-- TP_SESSION_QUERY (R322). Returns the open sessions of a channel. -/
  | tpSessionQuery (t p : Nat) (k : Packet)
  /-- TP_ABORT (R306). Ends a transport session with reason 4. -/
  | tpAbort (t p : Nat) (k : Packet)
  /-- J1939_BIND (R288). Stages a binding of a NAME on a gport. -/
  | j1939Bind (t p : Nat) (k : Packet)
  /-- J1939_UNBIND (R323). Stages removal of a binding. -/
  | j1939Unbind (t p : Nat) (k : Packet)
  /-- J1939_CLAIMS (R287). Returns a gport's J1939 claim table. -/
  | j1939Claims (t p : Nat) (k : Packet)
  /-- J1939_REWRITE_SET (R292). Stages a J1939 rewrite rule. -/
  | j1939RewriteSet (t p : Nat) (k : Packet)
  /-- J1939_OWN_ADDRESS (R291). Stages an own address and NAME for a gport. -/
  | j1939OwnAddress (t p : Nat) (k : Packet)
  /-- GW_COUNTERS (R321). Returns the gateway counters. -/
  | gwCounters (t p : Nat) (k : Packet)
  /-- GW_E2E_CTRL (R320). Writing START loads INIT and clears COUNT of a direct E2E unit. -/
  | gwE2eCtrl (t u : Nat) (v : Word)
  /-- GW_E2E_FEED (R315). A byte, half-word or word fed to a direct E2E unit is processed when the unit is free. -/
  | gwE2eFeed (t u size : Nat) (v : Word)
  /-- TABLE_COMMIT (R387). Makes the issuer's staging current as the next generation. -/
  | tableCommit (t p : Nat) (k : Packet)
  /-- TABLE_DISCARD (R394). Drops the issuer's staging. -/
  | tableDiscard (t p : Nat) (k : Packet)
  /-- TABLE_GEN_QUERY (R436). Returns current and oldest generations and staging owners. -/
  | tableGenQuery (t p : Nat) (k : Packet)
  /-- TABLE_REHASH (R421). Starts migrating the FDB or CAN exact table to a new seed. -/
  | tableRehash (t p : Nat) (k : Packet)
  /-- REHASH_COMPLETE (R422). A rehash migration completes or is reversed and CMD_COMPLETE is sent. -/
  | rehashComplete (t : Nat)
  /-- GENERATION_RETIRE (R390). A generation that is no longer current retires once nothing tagged with it remains. -/
  | generationRetire (t n : Nat)
  /-- SIEVE_RULE_SET (R397). Stages a Sieve rule. -/
  | sieveRuleSet (t p : Nat) (k : Packet)
  /-- SIEVE_RULE_QUERY (R436). Returns a Sieve rule. -/
  | sieveRuleQuery (t p : Nat) (k : Packet)
  /-- SIEVE_PORT_SET (R403). Stages a gport's key selection, default flow and PVID. -/
  | sievePortSet (t p : Nat) (k : Packet)
  /-- FLOW_SET (R402). Stages a flow entry. -/
  | flowSet (t p : Nat) (k : Packet)
  /-- FLOW_QUERY (R403). Returns a flow entry. -/
  | flowQuery (t p : Nat) (k : Packet)
  /-- FDB_ADD (R408). Stages a static FDB entry. -/
  | fdbAdd (t p : Nat) (k : Packet)
  /-- FDB_DELETE (R436). Stages deletion of a static FDB entry. -/
  | fdbDelete (t p : Nat) (k : Packet)
  /-- FDB_SEARCH (R436). Returns one FDB record. -/
  | fdbSearch (t p : Nat) (k : Packet)
  /-- FDB_NEXT (R437). Walks FDB entries from a cursor. -/
  | fdbNext (t p : Nat) (k : Packet)
  /-- FDB_FLUSH (R420). Starts removing matching learned FDB entries. -/
  | fdbFlush (t p : Nat) (k : Packet)
  /-- FDB_FLUSH_COMPLETE (R420). A flush completes and CMD_COMPLETE is sent. -/
  | fdbFlushComplete (t : Nat)
  /-- FDB_AGE_SET (R416). Sets aging and move parameters. -/
  | fdbAgeSet (t p : Nat) (k : Packet)
  /-- FDB_UNLOCK (R415). Unlocks a learned entry and ends its flap window. -/
  | fdbUnlock (t p : Nat) (k : Packet)
  /-- CAN_ROUTE_ADD (R423). Stages an exact CAN route entry. -/
  | canRouteAdd (t p : Nat) (k : Packet)
  /-- CAN_ROUTE_DELETE (R436). Stages deletion of an exact CAN route entry. -/
  | canRouteDelete (t p : Nat) (k : Packet)
  /-- CAN_ROUTE_SEARCH (R436). Returns an exact CAN route entry. -/
  | canRouteSearch (t p : Nat) (k : Packet)
  /-- CAN_ROUTE_NEXT (R437). Walks CAN route entries from a cursor. -/
  | canRouteNext (t p : Nat) (k : Packet)
  /-- CAN_MASK_SET (R426). Stages a masked CAN route entry. -/
  | canMaskSet (t p : Nat) (k : Packet)
  /-- LPM_ADD (R428). Stages an LPM prefix. -/
  | lpmAdd (t p : Nat) (k : Packet)
  /-- LPM_DELETE (R436). Stages deletion of an LPM prefix. -/
  | lpmDelete (t p : Nat) (k : Packet)
  /-- LPM_SEARCH (R436). Returns an exact or longest-matching prefix. -/
  | lpmSearch (t p : Nat) (k : Packet)
  /-- LPM_NEXT (R436). Walks LPM prefixes from a cursor. -/
  | lpmNext (t p : Nat) (k : Packet)
  /-- MAQUETTE_SET (R431). Enables or disables Maquette comparison and sets its period. -/
  | maquetteSet (t p : Nat) (k : Packet)
  /-- MAQUETTE_SCAN (R431). A scan begins at each PERIOD_MS window and compares the Maquette with the current generation. -/
  | maquetteScan (t : Nat)
  /-- TBL_COUNTERS (R435). Returns the tables counters. -/
  | tblCounters (t p : Nat) (k : Packet)
  /-- POLICER_SET (R447). Defines a meter with full buckets. -/
  | policerSet (t p : Nat) (k : Packet)
  /-- POLICER_QUERY (R472). Returns a meter's settings, buckets and counts. -/
  | policerQuery (t p : Nat) (k : Packet)
  /-- POLICER_RESET (R447). Refills a meter's buckets and clears all_red. -/
  | policerReset (t p : Nat) (k : Packet)
  /-- SF_SET (R449). Sets a stream filter. -/
  | sfSet (t p : Nat) (k : Packet)
  /-- SGATE_LIST_SET (R450). Stores a stream gate's admin list. -/
  | sgateListSet (t p : Nat) (k : Packet)
  /-- SF_QUERY (R472). Returns a stream filter's state and counts. -/
  | sfQuery (t p : Nat) (k : Packet)
  /-- SF_RESET (R449). Unblocks a stream filter and reopens its gate. -/
  | sfReset (t p : Nat) (k : Packet)
  /-- CADENCE_PROFILE_SET (R469). Sets a cadence profile, relearning flows when learning parameters change. -/
  | cadenceProfileSet (t p : Nat) (k : Packet)
  /-- CADENCE_SET (R478). Names a flow's cadence profile and relearns it. -/
  | cadenceSet (t p : Nat) (k : Packet)
  /-- CADENCE_QUERY (R472). Returns a flow's cadence state. -/
  | cadenceQuery (t p : Nat) (k : Packet)
  /-- CADENCE_RELEARN (R469). Returns one or all flows to LEARNING. -/
  | cadenceRelearn (t p : Nat) (k : Packet)
  /-- SOURCE_SET (R474). Sets a source's frame limit and action. -/
  | sourceSet (t p : Nat) (k : Packet)
  /-- CONTAIN_BUDGET_SET (R477). Sets the containment budget. -/
  | containBudgetSet (t p : Nat) (k : Packet)
  /-- CONTAIN_RELEASE (R463). Ends a quarantine at once. -/
  | containRelease (t p : Nat) (k : Packet)
  /-- CONTAIN_QUERY (R472). Returns the quarantines in force. -/
  | containQuery (t p : Nat) (k : Packet)
  /-- POL_COUNTERS (R471). Returns the policing counters. -/
  | polCounters (t p : Nat) (k : Packet)
  /-- FLOW_COUNTERS (R442). Returns per-flow frame and drop counters. -/
  | flowCounters (t p : Nat) (k : Packet)
  /-- TIME_QUERY (R529). Returns IT, domain mappings and legal time captured in one tick. -/
  | timeQuery (t p : Nat) (k : Packet)
  /-- TIME_DOMAIN_SET (R530). Configures or disables a gPTP domain. -/
  | timeDomainSet (t p : Nat) (k : Packet)
  /-- TIME_REF_SELECT (R496). Sets the reference domain mode. -/
  | timeRefSelect (t p : Nat) (k : Packet)
  /-- TIME_RTC_SET (R502). Sets the residence-time correction entries. -/
  | timeRtcSet (t p : Nat) (k : Packet)
  /-- LEGAL_SOURCE_SET (R511). Sets the legal time sources and adjustment limits. -/
  | legalSourceSet (t p : Nat) (k : Packet)
  /-- LEGAL_TIME_PROPOSE (R511). A partner proposes a legal time, decided by the proposal rows. -/
  | legalTimePropose (t p : Nat) (k : Packet)
  /-- LEGAL_TIME_FORCE (R516). Forces legal time to a value and records it. -/
  | legalTimeForce (t p : Nat) (k : Packet)
  /-- TCAP_SET (R517). Enables a capture input for edges. -/
  | tcapSet (t p : Nat) (k : Packet)
  /-- TCAP_QUERY (R529). Returns a capture input's history. -/
  | tcapQuery (t p : Nat) (k : Packet)
  /-- TCMP_SET (R521). Programs a compare output. -/
  | tcmpSet (t p : Nat) (k : Packet)
  /-- MOTION_INPUT_SET (R523). Configures a motion pulse input. -/
  | motionInputSet (t p : Nat) (k : Packet)
  /-- MOTION_SOURCE_SET (R524). Configures a PDU-field speed source. -/
  | motionSourceSet (t p : Nat) (k : Packet)
  /-- MOTION_PAIR_SET (R525). Configures a speed plausibility pair. -/
  | motionPairSet (t p : Nat) (k : Packet)
  /-- MOTION_QUERY (R529). Returns source speeds and pair states. -/
  | motionQuery (t p : Nat) (k : Packet)
  /-- TIME_COUNTERS (R528). Returns the time counters. -/
  | timeCounters (t p : Nat) (k : Packet)
  /-- TIME_IT_NS (R490). A read latches the whole of IT for the seconds registers. -/
  | timeItNs (t reader : Nat)
  /-- TIME_LEGAL_LO (R490). A read latches legal time into TIME_LEGAL_HI. -/
  | timeLegalLo (t reader : Nat)
  /-- GPTP_SYNC_RX (R494). Pair B handles a received Sync, updating the domain mapping, state and RATE_ADJ. -/
  | gptpSyncRx (t d stamp : Nat) (master rr adj : Int) (utc : Option Int) (leap : Int)
  /-- SYNC_TIMEOUT (R493). A LOCKED domain receives no Sync in SYNC_TIMEOUT_MS and enters HOLDOVER. -/
  | syncTimeout (t d : Nat)
  /-- GPTP_SYNC_TX (R491). Pair B sends Sync on master ports at each sync interval. -/
  | gptpSyncTx (t d : Nat) (frames : List (Nat × Bytes))
  /-- LEGAL_CHECK (R510). Pair B proposes legal time from the source domain every CHECK_S seconds. -/
  | legalCheck (t : Nat)
  /-- LEGAL_FLOOR_WRITE (R509). Herax writes the legal-time floor at each whole minute. -/
  | legalFloorWrite (t : Nat)
  /-- LEAP_SECOND (R515). An announced leap second is applied at the end of the UTC day. -/
  | leapSecond (t : Nat)
  /-- TCAP_EDGE (R517). An edge on a capture input is stamped and recorded. -/
  | tcapEdge (t n edge : Nat)
  /-- TCMP_EDGE (R520). A compare output reaches its programmed instant and drives an edge. -/
  | tcmpEdge (t n : Nat)
  /-- MPUL_EDGE (R523). A filtered motion pulse edge is counted. -/
  | mpulEdge (t n edge : Nat)
  /-- MOTION_WINDOW (R525). At each 100 ms window end speeds are computed and every pair evaluated. -/
  | motionWindow (t : Nat)
  /-- LC_QUERY (R568). Returns lifecycle, class, boot count and DEVICE_ID. -/
  | lcQuery (t p : Nat) (k : Packet)
  /-- LC_ADVANCE (R535). Advances the lifecycle with journal, wipe, fuse blow and record. -/
  | lcAdvance (t p : Nat) (k : Packet)
  /-- LC_CHALLENGE (R534). Returns a fresh lifecycle challenge. -/
  | lcChallenge (t p : Nat) (k : Packet)
  /-- TAMPER_CONFIG (R569). Sets the tamper source actions. -/
  | tamperConfig (t p : Nat) (k : Packet)
  /-- KEK_LOAD_CLEAR (R544). Loads the KEK in the clear. -/
  | kekLoadClear (t p : Nat) (k : Packet)
  /-- KEK_ROTATE (R544). Replaces the KEK with one unwrapped under the current KEK. -/
  | kekRotate (t p : Nat) (k : Packet)
  /-- KEY_STAGE (R545). Unwraps a key into a slot's pending half. -/
  | keyStage (t p : Nat) (k : Packet)
  /-- KEY_DERIVE (R547). Derives a key from a parent into a slot's pending half. -/
  | keyDerive (t p : Nat) (k : Packet)
  /-- KEY_COMMIT (R548). Makes a slot's pending key active through the journal. -/
  | keyCommit (t p : Nat) (k : Packet)
  /-- KEY_DISCARD (R568). Clears a slot's pending half. -/
  | keyDiscard (t p : Nat) (k : Packet)
  /-- KEY_REVOKE (R552). Revokes a slot and orphans its descendants. -/
  | keyRevoke (t p : Nat) (k : Packet)
  /-- KEY_ERASE (R552). Erases a slot and orphans its descendants. -/
  | keyErase (t p : Nat) (k : Packet)
  /-- KEY_QUERY (R568). Returns a slot's state and attributes. -/
  | keyQuery (t p : Nat) (k : Packet)
  /-- ATTEST (R558). Returns a signed attestation statement. -/
  | attest (t p : Nat) (k : Packet)
  /-- IDENTITY_QUERY (R568). Returns the DeviceID and alias public keys and endorsement. -/
  | identityQuery (t p : Nat) (k : Packet)
  /-- SEAL_READ (R568). Returns sealed records from a sequence number. -/
  | sealRead (t p : Nat) (k : Packet)
  /-- SEAL_ACK (R565). Sets the acknowledged sealed-record SEQ. -/
  | sealAck (t p : Nat) (k : Packet)
  /-- SEAL_CHECKPOINT (R563). Writes a signed checkpoint. -/
  | sealCheckpoint (t p : Nat) (k : Packet)
  /-- SEAL_CONFIG (R563). Sets CHECKPOINT_N. -/
  | sealConfig (t p : Nat) (k : Packet)
  /-- SEAL_NOTE (R564). Writes a HOST_NOTE sealed record. -/
  | sealNote (t p : Nat) (k : Packet)
  /-- HERAX_COUNTERS (R567). Returns the Herax counters. -/
  | heraxCounters (t p : Nat) (k : Packet)
  /-- HERAX_SEAL_HEAD_LO (R566). A read latches the head SEQ high bits. -/
  | heraxSealHeadLo (t : Nat)
  /-- HERAX_SEAL_ACK_LO (R566). A read latches the acknowledged SEQ high bits. -/
  | heraxSealAckLo (t : Nat)
  /-- TAMPER_DETECT (R539). A tamper source is detected and its action applied. -/
  | tamperDetect (t n : Nat)
  /-- WIPE_COMPLETE (R540). The secure bank finishes filling with zeros. -/
  | wipeComplete (t : Nat)
  /-- SEAL_RECORD_WRITE (R562). A queued sealed record is written to the ring when the controller allows. -/
  | sealRecordWrite (t : Nat)
  /-- CHECKPOINT (R563). After CHECKPOINT_N records a signed checkpoint is written. -/
  | checkpoint (t : Nat)
  /-- PROT_PROFILE_SET (R586). Stages a protection profile. -/
  | protProfileSet (t p : Nat) (k : Packet)
  /-- PROT_PROFILE_QUERY (R607). Returns a protection profile and its freshness values. -/
  | protProfileQuery (t p : Nat) (k : Packet)
  /-- MACSEC_SECY_SET (R583). Configures a port's SecY. -/
  | macsecSecySet (t p : Nat) (k : Packet)
  /-- MACSEC_RXSC_SET (R582). Configures a receive SC. -/
  | macsecRxscSet (t p : Nat) (k : Packet)
  /-- MACSEC_SA_SET (R608). Configures a transmit or receive SA. -/
  | macsecSaSet (t p : Nat) (k : Packet)
  /-- MACSEC_TX_SWITCH (R585). Switches the transmit SA at the next frame boundary. -/
  | macsecTxSwitch (t p : Nat) (k : Packet)
  /-- MACSEC_QUERY (R607). Returns a SecY's settings and SA states. -/
  | macsecQuery (t p : Nat) (k : Packet)
  /-- SECPDU_FV_SET (R588). Sets a profile's TX_FV or LATEST. -/
  | secpduFvSet (t p : Nat) (k : Packet)
  /-- CIPHER_JOB (R598). Starts a cipher job over host memory. -/
  | cipherJob (t p : Nat) (k : Packet)
  /-- CIPHER_JOB_RESUME (R601). Continues a stopped job at OFFSET. -/
  | cipherJobResume (t p : Nat) (k : Packet)
  /-- CIPHER_JOB_CANCEL (R601). Ends a stopped job and zeroes its destination. -/
  | cipherJobCancel (t p : Nat) (k : Packet)
  /-- INBAND_BIND (R602). Binds a partner to a MACsec receive SC and addresses. -/
  | inbandBind (t p : Nat) (k : Packet)
  /-- CIPHER_COUNTERS (R606). Returns the cipher counters. -/
  | cipherCounters (t p : Nat) (k : Packet)
  /-- CIPHER_DISPATCH (R576). An idle lane takes the most urgent waiting message, or suspends a less urgent one. -/
  | cipherDispatch (t : Nat)
  /-- CIPHER_MESSAGE_DONE (R580). A lane finishes a message and resumes its most recently suspended message. -/
  | cipherMessageDone (t n : Nat)
  /-- CIPHER_ABORT (R596). A message whose slot is invalidated is aborted at its next block boundary. -/
  | cipherAbort (t : Nat) (job : Bool) (x y off : Nat)
  /-- JOB_FAULT (R600). A DMMU fault stops a cipher job and keeps its state. -/
  | jobFault (t n upto : Nat)
  /-- CIPHER_JOB_COMPLETE (R598). A cipher job completes, zeroing on failure, and CMD_COMPLETE is sent. -/
  | cipherJobComplete (t p tag : Nat)
  /-- ZEROING_COMPLETE (R599). Zeroing of a job's destination completes and CMD_COMPLETE follows. -/
  | zeroingComplete (t p tag : Nat)
  /-- INBAND_FRAME (R604). Pair A handles an in-band 0x88B5 frame at CPUP. -/
  | inbandFrame (t : Nat)
  /-- MODE_REQUEST (R622). Requests a transition to another mode. -/
  | modeRequest (t p : Nat) (k : Packet)
  /-- MODE_QUERY (R657). Returns mode, transition, wake and boot information. -/
  | modeQuery (t p : Nat) (k : Packet)
  /-- BREEZE_CONFIG (R657). Sets the Breeze ports and frame-buffer segments. -/
  | breezeConfig (t p : Nat) (k : Packet)
  /-- POWER_BANK_SET (R649). Changes a memory bank's power state. -/
  | powerBankSet (t p : Nat) (k : Packet)
  /-- FB_SEGMENT_SET (R650). Names the frame-buffer segments to be on. -/
  | fbSegmentSet (t p : Nat) (k : Packet)
  /-- SEGMENT_OFF (R333). A segment removed from the set switches off once its last cell is freed. -/
  | segmentOff (t k : Nat)
  /-- COMPARATOR_SET (R614). Configures a Plinth comparator. -/
  | comparatorSet (t p : Nat) (k : Packet)
  /-- DEVICE_RESET (R657). Resets the main domain within 10 ms of the reply. -/
  | deviceReset (t p : Nat) (k : Packet)
  /-- IMAGE_ERASE (R642). Starts erasing an image slot. -/
  | imageErase (t p : Nat) (k : Packet)
  /-- IMAGE_ERASE_COMPLETE (R642). An erase completes and CMD_COMPLETE is sent. -/
  | imageEraseComplete (t slot : Nat) (ok : Bool)
  /-- IMAGE_WRITE (R642). Writes data into an image slot. -/
  | imageWrite (t p : Nat) (k : Packet)
  /-- IMAGE_VERIFY (R642). Starts checking an image slot under R636. -/
  | imageVerify (t p : Nat) (k : Packet)
  /-- IMAGE_VERIFY_COMPLETE (R636). Verification completes, leaving the slot VERIFIED or INVALID. -/
  | imageVerifyComplete (t slot : Nat) (readErr : Bool)
  /-- FW_ACTIVATE (R645). Activates a firmware slot by reset or hitlessly. -/
  | fwActivate (t p : Nat) (k : Packet)
  /-- HITLESS_COMPLETE (R646). A hitless activation reports ready or times out after 40 ms. -/
  | hitlessComplete (t : Nat) (ok : Bool)
  /-- CFG_ACTIVATE (R644). Commits a configuration slot as one generation. -/
  | cfgActivate (t p : Nat) (k : Packet)
  /-- IMAGE_CONFIRM (R642). Makes a TRIAL slot ACTIVE and may raise the SVN floor. -/
  | imageConfirm (t p : Nat) (k : Packet)
  /-- IMAGE_QUERY (R657). Returns a slot's state and header fields. -/
  | imageQuery (t p : Nat) (k : Packet)
  /-- CFG_AUTHORITY_SET (R635). Sets the configuration authority key. -/
  | cfgAuthoritySet (t p : Nat) (k : Packet)
  /-- PWR_COUNTERS (R656). Returns the power counters. -/
  | pwrCounters (t p : Nat) (k : Packet)
  /-- COMPARATOR_DETECT (R615). A comparator detects a crossing and applies its wake, event or power-fail actions. -/
  | comparatorDetect (t c : Nat) (on : Bool)
  /-- PORST (R612). PORST_N low resets the whole device, the Plinth included. -/
  | porst (t : Nat) (low : Bool)
  /-- SYS_RST (R768). SYS_RST_N low resets the main domain. -/
  | sysRst (t : Nat) (low : Bool)
  /-- PWR_GOOD_FALL (R613). PWR_GOOD falls and the main domain resets with BROWN_OUT. -/
  | pwrGoodFall (t : Nat)
  /-- PWR_GOOD_RISE (R611). PWR_GOOD has been high for 100 µs and the main domain leaves reset. -/
  | pwrGoodRise (t : Nat)
  /-- PWR_GOOD_TIMEOUT (R611). PWR_GOOD does not rise within 50 ms and the Plinth retries or returns to Calm. -/
  | pwrGoodTimeout (t : Nat)
  /-- SLOWCLK_STABLE (R766). After 1,024 stable SLOWCLK periods the Plinth raises PWR_MAIN_EN. -/
  | slowclkStable (t : Nat)
  /-- START_UP (R630). The start-up sequence runs to forwarding. -/
  | startUp (t rst n : Nat) (lbist : Option Nat) (unread : List Nat) (trained pcie : Bool)
  /-- SLEEP_ENTRY (R625). Entry to Zephyr or Calm runs its steps up to the commit point. -/
  | sleepEntry (t : Nat)
  /-- ZEPHYR_RESUME (R627). A wake in Zephyr restores the main domain and checks the TCM hash. -/
  | zephyrResume (t rst n : Nat) (h : Bytes) (lbist : Option Nat)
  /-- CALM_AFTER_EXPIRY (R622). CALM_AFTER_S passes in Zephyr without a wake and the device enters Calm. -/
  | calmAfterExpiry (t : Nat)
  /-- ATELIER_EXPIRY (R628). The ATELIER_MAX_S window ends and the device returns to Gale. -/
  | atelierExpiry (t : Nat)
  /-- MODE_TRANSITION_DONE (R622). A mode transition completes and MODE_CHANGE is raised. -/
  | modeTransitionDone (t : Nat)
  /-- LEDGER_PERSIST (R745). A Fault Ledger change is written to the journal within the rate limit. -/
  | ledgerPersist (t : Nat)
  /-- SLEEP_RING_SET (R692). Configures the consent ring and starts JOINING when enabled. -/
  | sleepRingSet (t p : Nat) (k : Packet)
  /-- PN_SET (R679). Sets a partial network's ports. -/
  | pnSet (t p : Nat) (k : Packet)
  /-- SLEEP_HOLD (R670). Holds the whole network or partial networks awake. -/
  | sleepHold (t p : Nat) (k : Packet)
  /-- WAKE_PORT_SET (R684). Sets a port's TC10 and wake-frame options. -/
  | wakePortSet (t p : Nat) (k : Packet)
  /-- WAKE_FRAME_SET (R683). Sets a CAN port's wake frame. -/
  | wakeFrameSet (t p : Nat) (k : Packet)
  /-- WAKE_NETWORK (R683). Wakes the named ports. -/
  | wakeNetwork (t p : Nat) (k : Packet)
  /-- SLEEP_QUERY (R691). Returns the sleep unit's state. -/
  | sleepQuery (t p : Nat) (k : Packet)
  /-- CONSENT_RING_QUERY (R691). Returns the presence set and last round's REQ bits. -/
  | consentRingQuery (t p : Nat) (k : Packet)
  /-- SLEEP_COUNTERS (R690). Returns the sleep counters. -/
  | sleepCounters (t p : Nat) (k : Packet)
  /-- RING_MESSAGE_RX (R664). A consent-ring message is received, relayed and acted on. -/
  | ringMessageRx (t g : Nat) (m : Bytes) (stamp : Nat)
  /-- TOKEN_PASS (R668). A node passes the token, or the master ends the round, within TOKEN_PASS_MS. -/
  | tokenPass (t : Nat)
  /-- JOIN_TIMEOUT (R667). The joining window ends and the master sends the first TOKEN. -/
  | joinTimeout (t : Nat)
  /-- TOKEN_TIMEOUT (R669). A token recipient is silent and is removed from the presence set. -/
  | tokenTimeout (t : Nat)
  /-- TOKEN_LOST (R669). No TOKEN arrives within the rank window and the token is regenerated. -/
  | tokenLost (t : Nat)
  /-- OBJECTION_WINDOW_END (R673). The objection window ends and the master sends SLEEP_AGREE or starts a new round. -/
  | objectionWindowEnd (t : Nat)
  /-- FALSE_WAKE_WINDOW_END (R686). A false-wake window ends without valid communication. -/
  | falseWakeWindowEnd (t g : Nat)
  /-- AWAKE_WINDOW_END (R688). An awake window ends uncancelled and the node is overruled. -/
  | awakeWindowEnd (t : Nat)
  /-- TC10_POLL (R684). STAT_REG is read every 1 ms after a TC10 sleep write. -/
  | tc10Poll (t g stat : Nat)
  /-- TC10_WINDOW_END (R684). The 16 ms TC10 window ends without acknowledgement and TC10_FAILED is raised. -/
  | tc10WindowEnd (t g : Nat)
  /-- LNK_CONFIG (R695). Sets a link's admin state and time domains. -/
  | lnkConfig (t p : Nat) (k : Packet)
  /-- LNK_QUERY (R752). Returns a link's status and delay. -/
  | lnkQuery (t p : Nat) (k : Packet)
  /-- LNK_COUNTERS (R751). Returns a link's counters. -/
  | lnkCounters (t p : Nat) (k : Packet)
  /-- CASCADE_SET (R705). Sets the device's DEV_ID and routes. -/
  | cascadeSet (t p : Nat) (k : Packet)
  /-- PAIR_CONFIG (R715). Enables or disables pairing with its settings. -/
  | pairConfig (t p : Nat) (k : Packet)
  /-- PAIR_QUERY (R752). Returns pairing status and the peer's state. -/
  | pairQuery (t p : Nat) (k : Packet)
  /-- PAIR_SWITCH (R728). Hands the active role to a READY peer. -/
  | pairSwitch (t p : Nat) (k : Packet)
  /-- PAIR_HOLD (R728). Suppresses or allows revertive return. -/
  | pairHold (t p : Nat) (k : Packet)
  /-- PAIR_COUNTERS (R751). Returns the pairing counters. -/
  | pairCounters (t p : Nat) (k : Packet)
  /-- REMOTE_READ (R711). Issues a READ to a remote device and returns its data. -/
  | remoteRead (t p : Nat) (k : Packet)
  /-- REMOTE_WRITE (R711). Issues a WRITE to a remote device. -/
  | remoteWrite (t p : Nat) (k : Packet)
  /-- REMOTE_READ_TIMEOUT (R711). A remote read gets no completion within 1 ms and is answered PEER_ABSENT or BUSY. -/
  | remoteReadTimeout (t : Nat)
  /-- SAFETY_QUERY (R752). Returns the safety registers. -/
  | safetyQuery (t p : Nat) (k : Packet)
  /-- LEE_CONFIG (R737). Sets the ports kept in Lee. -/
  | leeConfig (t p : Nat) (k : Packet)
  /-- LEE_ENTER (R737). Enters Lee on command. -/
  | leeEnter (t p : Nat) (k : Packet)
  /-- LEE_EXIT (R738). Returns from Lee to Gale when no severity 3 entry remains. -/
  | leeExit (t p : Nat) (k : Packet)
  /-- LEDGER_READ (R742). Returns Fault Ledger entries. -/
  | ledgerRead (t p : Nat) (k : Packet)
  /-- LEDGER_CLEAR (R746). Removes Fault Ledger entries and clears their W1C bits. -/
  | ledgerClear (t p : Nat) (k : Packet)
  /-- SAFETY_COUNTERS (R751). Returns the safety counters. -/
  | safetyCounters (t p : Nat) (k : Packet)
  /-- LNK_PACKET_RX (R700). A link packet is received, checked, and served, relayed or discarded with NAK. -/
  | lnkPacketRx (t k : Nat) (pk : LinkPacket) (bus : Option CanFrame) (recs : List MirrorRec) (cap : Nat)
  /-- LNK_REPLAY_TIMEOUT (R700). LACK does not advance for 2 µs and the sender replays. -/
  | lnkReplayTimeout (t k : Nat)
  /-- LNK_LANE_CHANGE (R695). A lane gains or loses lock or alignment and the link goes up or down. -/
  | lnkLaneChange (t k : Nat) (l0 l1 al : Bool)
  /-- RELAY_CREDIT_TIMEOUT (R710). A relay cannot gain onward credit for a READ within 10 µs and answers RETRY. -/
  | relayCreditTimeout (t k : Nat)
  /-- HEARTBEAT_TX (R712). Armature sends a heartbeat on every up link at each 10 µs window. -/
  | heartbeatTx (t : Nat)
  /-- PAIR_HB_OUT_TOGGLE (R713). Armature toggles PAIR_HB_OUT every 5 µs. -/
  | pairHbOutToggle (t : Nat)
  /-- PAIR_HB_IN_EDGE (R713). An edge appears on PAIR_HB_IN. -/
  | pairHbInEdge (t : Nat)
  /-- HEARTBEAT_LOST (R714). The heartbeat or pin window ends without activity and the unit decides its reaction. -/
  | heartbeatLost (t : Nat)
  /-- START_WAIT_EXPIRY (R717). START_WAIT_MS ends and the unit elects its role. -/
  | startWaitExpiry (t : Nat)
  /-- MIRROR_STALL (R720). A standby unable to take records for 1 ms returns to SYNCING. -/
  | mirrorStall (t : Nat)
  /-- SYNC_COMPLETE (R722). The bulk copy is applied and the standby enters STANDBY with READY. -/
  | syncComplete (t : Nat) (agree : Bool)
  /-- HOLD_OFF_EXPIRY (R727). A preferred READY unit's hold-off window ends and it sets RECLAIM. -/
  | holdOffExpiry (t : Nat)
  /-- WATCHDOG_EXPIRY (R735). A 10 ms window passes without a watchdog kick. -/
  | watchdogExpiry (t : Nat)
  /-- LBIST_SLOT (R736). Armature runs a runtime LBIST slot on one pair. -/
  | lbistSlot (t len : Nat) (pass : Bool)
  /-- FORWARDING_MONITOR (R734). A safety-flow frame neither sent nor counted as dropped within 1 ms is detected. -/
  | forwardingMonitor (t : Nat)
  /-- CLOCK_MONITOR (R33). A clock measurement window ends and an out-of-tolerance domain sets FREQ_FAULT. -/
  | clockMonitor (t n : Nat) (ok : Bool)
  /-- LOCKSTEP_MISMATCH (R734). A lockstep compare of a core pair or Armature differs. -/
  | lockstepMismatch (t n : Nat)
  /-- SUPPLY_MONITOR (R734). VDD_CORE or Tj stays beyond its limit and Lee is forced. -/
  | supplyMonitor (t which : Nat) (out : Bool)
  /-- STATE_COMPARE (R739). Armature compares admin and oper state of each object every 1 ms. -/
  | stateCompare (t : Nat) (diff : List (Nat × Nat × Nat × Nat)) (started : List (Nat × Nat))
  /-- REGISTER_WRITE (R11). A write to a register without behaviour of its own is stored or ignored by its access type. -/
  | registerWrite (t : Nat) (fw : Bool) (addr : Nat) (v : Word)
  /-- BUS_IDLE (R786). A CAN or LIN bus becomes idle at the end of the intermission after a frame, so deferred CAN_RESTRICT and TRX_MODE_SET changes take effect and a held frame may drive its SOF. -/
  | busIdle (t g ovl : Nat)
  /-- POSTED_WRITE_DONE (R160). A posted window write completes internally some time after it was accepted, and on failure sets WR_ERR, records BRIDGE_ERR_ADDR and raises BRIDGE_ERROR. -/
  | postedWriteDone (t : Nat)
  /-- GRANDMASTER_ELECTED (R493). The best master clock algorithm elects the 9460, or another clock, grandmaster of a domain, putting a GM_CAPABLE domain into LOCKED under R495. -/
  | grandmasterElected (t d : Nat) (self : Bool)
  /-- PATH_DELAY_MEASURE (R491). Pair B completes a Common Mean Link Delay Service exchange on an XG or GE gPTP port and updates its path delay. -/
  | pathDelayMeasure (t g ns : Nat)
  /-- SLEW_ABSORBED (R514). An outstanding legal-time slew is fully absorbed, so legal time returns to full rate and SLEWING clears. -/
  | slewAbsorbed (t : Nat)
  /-- VSTBY_1V8_DROP (R765). VSTBY_1V8 falls below 1.62 V for 1 µs or longer, resetting the whole device as PORST_N would, and the Plinth's contents are lost. -/
  | vstby1v8Drop (t : Nat)
  /-- MONOTONIC_COUNTER_WRITE (R653). A monotonic-counter write that waited for the 1,000-per-second limit is performed, unless a later write of the same counter replaced it. -/
  | monotonicCounterWrite (t id : Nat)
deriving DecidableEq, Repr

end Sys2Proof
end

