-- ==== Sys2Proof/Decode.lean ====
section
/-!
DEFINITION. Words that spell commands. The operation table gives no row any bits: a Sprinaz command arrives as a
packet (R53) and an event on wires and pins, so no word spells one.
-/
namespace Sys2Proof

/-- The command that a word of the operation table's bits spells: none, since no row has bits. -/
def decodeTableWord (_nbits _w : Nat) : Option Instr := none

end Sys2Proof
end

