-- ==== Sys2Proof/Config.lean ====
section
/-!
DEFINITION. What an implementation or a board fixes and what the manual leaves open. Every constant
here is opaque: nothing can be proved of its value, so a statement about it holds for every value.
-/
namespace Sys2Proof.Config

/-- The free values: the n-th value that some rule leaves open, `w` bits wide. State holds the next
`n` (`State.free`), and whoever takes a free value advances it. -/
opaque freeValue (w : Nat) : Nat → BitVec w

/-- A free byte string of `len` bytes: the n-th one. -/
def freeBytes (len n : Nat) : List (BitVec 8) :=
  (List.range len).map fun i => freeValue 8 (n + i)

/-- The block cipher of Suite functions the manual only names (FIPS 197): AES of key and block. -/
opaque aes : Bytes → Bytes → Bytes

/-- AES-CMAC (R547, R587): key and message give 16 bytes; the tag's length is fixed by `cmac`. -/
opaque cmacRaw : Bytes → Bytes → BitVec 128

/-- SHA-256 of a message. -/
opaque sha256Raw : Bytes → BitVec 256

/-- HMAC-SHA-256 of a key and a message. -/
opaque hmacRaw : Bytes → Bytes → BitVec 256

/-- AES-GCM: key, initial vector, additional data, text, and whether it seals (true) or opens; the
text it gives. -/
opaque gcmText : Bytes → Bytes → Bytes → Bytes → Bool → Bytes

/-- AES-GCM: the 16-byte tag of a key, an initial vector, additional data and the plain text. -/
opaque gcmTag : Bytes → Bytes → Bytes → Bytes → BitVec 128

/-- A confidentiality mode of the cipher lanes (R571): mode, direction, key, IV and text. -/
opaque blockMode : Nat → Bool → Bytes → Bytes → Bytes → Bytes

/-- The SCI of the transmit SC of a port's SecY (R582): no command sets it. -/
opaque macsecSci : Nat → BitVec 64

/-- ECDSA P-256 signing: a private key's 32 bytes, a digest and the nonce's number give 64 bytes. -/
opaque ecdsaSign : Bytes → Bytes → Nat → BitVec 512

/-- The SP 800-108 KDF in counter mode with AES-256-CMAC (R536): key, label, context and length. -/
opaque kdfText : Bytes → Bytes → Bytes → Nat → Bytes

/-- The P-256 private key FIPS 186-5 A.2.1 makes of 320 bits (R536). -/
opaque eccPrivate : Bytes → Bytes

/-- The public key whose SHA-256 the boot ROM holds for firmware images, for lifecycle tokens and
for transfer keys (R534, R635). -/
opaque lysrothFirmwareKey : Bytes
opaque lysrothLifecycleKey : Bytes

/-- ECDSA P-256 verification: public key, digest and signature. -/
opaque ecdsaVerify : Bytes → Bytes → Bytes → Bool

/-- The public key of a private key. -/
opaque ecdsaPublic : Bytes → BitVec 512

/-- AES key unwrap (RFC 3394): key-encryption key and wrapped key; `none` where the check fails. -/
opaque keyUnwrap : Bytes → Bytes → Option Bytes

/-- The traffic class of a kind of frame that the control firmware sends: 0 gPTP, 1 J1939, 2 the consent
ring, 3 wake frames. The manual gives none. -/
opaque firmwarePick : Nat → Nat

/-- It, as a class. -/
def firmwareTc (kind : Nat) : Nat := firmwarePick kind % 8

/-- BRS of the CAN FD segments of the transport engine (R295): the manual gives none. -/
opaque tpBrsPick : Nat

/-- It, as a flag. -/
def tpBrs : Bool := tpBrsPick % 2 == 1

/-- What Calsor puts into a configuration image (R384, R633), with the extension's payload behind its own:
the generation-bound objects, as kind, index and bytes; and the device settings in order, as opcode, unit
and parameters. The manual gives no format. -/
opaque imageObjects : Bytes → List (Nat × Nat × Bytes)
opaque imageSettings : Bytes → List (Nat × Nat × Bytes)

/-- The fitted LPDDR5 capacity in GiB, 1 to 8 (R37). -/
opaque lpddrPick : Nat

/-- The fitted LPDDR5 capacity in GiB (R37). -/
def lpddrGiB : Nat := lpddrPick % 8 + 1

/-- The fitted xSPI NOR capacity in MiB, 128 to 512 (R35, R633). -/
opaque norPick : Nat

/-- The fitted xSPI NOR capacity in MiB (R35, R633). -/
def norMiB : Nat := norPick % 385 + 128

/-- The translations that the page-table space of LPDDR5 holds beyond those of one command: the manual gives no number. -/
opaque pageRoomPick : Nat

/-- The translations that it holds (R140, R171). DEDUCED: as the COUNT of a command reaches 512, it holds those at least. -/
def pageRoom : Nat := pageRoomPick + 512

end Sys2Proof.Config
end

