-- ==== Sys2Proof/Machine/Bytes.lean ====
section
/-!
DEFINITION. Byte order, bit fields and check values: little-endian fields of packets and records
(R9), big-endian fields of wires, and the CRC-32C of R56.
-/
namespace Sys2Proof.Machine

/-- Byte `i` of a string, 0 beyond its end. -/
def byteAt (bs : Bytes) (i : Nat) : Nat := (bs.getD i 0).toNat

/-- The little-endian number in `n` bytes from offset `o` (R9). -/
def leAt (bs : Bytes) (o : Nat) : Nat → Nat
  | 0 => 0
  | n + 1 => byteAt bs o + 256 * leAt bs (o + 1) n

/-- The big-endian number in `n` bytes from offset `o`. -/
def beAt (bs : Bytes) (o n : Nat) : Nat :=
  (List.range n).foldl (fun v i => 256 * v + byteAt bs (o + i)) 0

/-- A number as `n` little-endian bytes (R9). -/
def le (n v : Nat) : Bytes :=
  match n with
  | 0 => []
  | n + 1 => BitVec.ofNat 8 v :: le n (v / 256)

/-- A number as `n` big-endian bytes. -/
def be (n v : Nat) : Bytes := (le n v).reverse

/-- `n` zero bytes. -/
def zeros (n : Nat) : Bytes := List.replicate n 0

/-- `n` bytes from offset `o`, filled with zero beyond the end. -/
def slice (bs : Bytes) (o n : Nat) : Bytes := (List.range n).map fun i => bs.getD (o + i) 0

/-- Whether `n` bytes from offset `o` are all zero. -/
def zeroAt (bs : Bytes) (o n : Nat) : Bool := (List.range n).all fun i => byteAt bs (o + i) == 0

/-- Bit `i` of a number. -/
def bit (v i : Nat) : Bool := v.testBit i

/-- Bits [hi:lo] of a number (R8). -/
def bits (v hi lo : Nat) : Nat := v / 2 ^ lo % 2 ^ (hi + 1 - lo)

/-- A flag as 0 or 1. -/
def b2n (b : Bool) : Nat := if b then 1 else 0

/-- A fixed-length string: cut or filled with zeros to `n` bytes. -/
def padTo (n : Nat) (bs : Bytes) : Bytes := slice bs 0 n

/-- One reflected CRC step over one bit. -/
def crcBit (poly : Nat) (c : Nat) : Nat := if c % 2 = 1 then (c / 2) ^^^ poly else c / 2

/-- One reflected CRC step over one byte. -/
def crcByte (poly : Nat) (c : Nat) (b : Byte) : Nat :=
  let x := c ^^^ b.toNat
  crcBit poly (crcBit poly (crcBit poly (crcBit poly
    (crcBit poly (crcBit poly (crcBit poly (crcBit poly x)))))))

/-- A reflected CRC over a byte string: polynomial (reflected), initial value, final XOR. -/
def crcReflected (poly init xorOut : Nat) (bs : Bytes) : Nat :=
  bs.foldl (crcByte poly) init ^^^ xorOut

/-- The CRC-32C of R56: polynomial 0x1EDC_6F41 reflected, initial value and final XOR all ones. -/
def crc32c (bs : Bytes) : Word :=
  BitVec.ofNat 32 (crcReflected 0x82F63B78 0xFFFFFFFF 0xFFFFFFFF bs)

/-- One unreflected CRC step over one bit, `w` bits wide. -/
def crcBitMsb (w poly : Nat) (c : Nat) : Nat :=
  if c.testBit (w - 1) then ((2 * c) ^^^ poly) % 2 ^ w else 2 * c % 2 ^ w

/-- One unreflected CRC step over one byte, for widths of 8 bits and more. -/
def crcByteMsb (w poly : Nat) (c : Nat) (b : Byte) : Nat :=
  (List.range 8).foldl (fun x _ => crcBitMsb w poly x) (c ^^^ (b.toNat * 2 ^ (w - 8)))

/-- An unreflected CRC over a byte string. -/
def crcMsb (w poly init xorOut : Nat) (bs : Bytes) : Nat :=
  bs.foldl (crcByteMsb w poly) init ^^^ xorOut

/-- The low 16 bits of a number as a field. -/
def h16 (v : Nat) : Half := BitVec.ofNat 16 v

/-- The low 32 bits of a number as a field. -/
def w32 (v : Nat) : Word := BitVec.ofNat 32 v

/-- The low 64 bits of a number as a field. -/
def d64 (v : Nat) : Dword := BitVec.ofNat 64 v

/-- A count that stops at its largest value `top`. -/
def satAdd (top a n : Nat) : Nat := if a + n ≤ top then a + n else top

end Sys2Proof.Machine
end

