-- ==== Sys2Proof/Machine/Tab.lean ====
section
/-!
DEFINITION. Tables: sparse data by number, as a list of (number, entry) pairs with rising numbers.
An unlisted number has no entry. Memory is the table of bytes whose unlisted addresses read 0.
-/
namespace Sys2Proof.Machine

/-- A sparse table: entries by number. -/
abbrev Tab (α : Type) := List (Nat × α)

/-- The entry of number `k`. -/
def tget? {α : Type} : Tab α → Nat → Option α
  | [], _ => none
  | (j, x) :: m, k => if j = k then some x else tget? m k

/-- The entry of number `k`, or `d` where there is none. -/
def tget {α : Type} (m : Tab α) (d : α) (k : Nat) : α := (tget? m k).getD d

/-- Whether number `k` has an entry. -/
def thas {α : Type} (m : Tab α) (k : Nat) : Bool := (tget? m k).isSome

/-- The table with entry `x` at number `k`. -/
def tset {α : Type} : Tab α → Nat → α → Tab α
  | [], k, x => [(k, x)]
  | (j, y) :: m, k, x =>
    if k < j then (k, x) :: (j, y) :: m
    else if k = j then (k, x) :: m
    else (j, y) :: tset m k x

/-- The table without number `k`. -/
def tdel {α : Type} : Tab α → Nat → Tab α
  | [], _ => []
  | (j, y) :: m, k => if j = k then tdel m k else (j, y) :: tdel m k

/-- The table with the entry of `k` (or `d`) changed by `f`. -/
def tupd {α : Type} (m : Tab α) (d : α) (k : Nat) (f : α → α) : Tab α := tset m k (f (tget m d k))

/-- The entries whose number and value meet `f`. -/
def tfilter {α : Type} (m : Tab α) (f : Nat → α → Bool) : Tab α := m.filter fun e => f e.1 e.2

/-- Every entry changed by `f`. -/
def tmap {α : Type} (m : Tab α) (f : Nat → α → α) : Tab α := m.map fun e => (e.1, f e.1 e.2)

/-- The numbers rise strictly. -/
def tsorted {α : Type} : Tab α → Bool
  | [] => true
  | [_] => true
  | (i, _) :: (j, y) :: m => decide (i < j) && tsorted ((j, y) :: m)

/-- A memory: bytes by address, in one canonical form (`Memory.wf`). -/
abbrev Memory := List Host.Cell

/-- What a byte that nothing has written reads as (DESIGN CHOICE, log entry 5). -/
def memFill : Byte := 0

/-- One byte of a memory. -/
def memRead (m : Memory) (a : Nat) : Byte := tget m memFill a

/-- Write one byte, keeping the canonical form: a byte equal to the fill is unlisted. -/
def memWrite (m : Memory) (a : Nat) (b : Byte) : Memory :=
  if b = memFill then tdel m a else tset m a b

/-- Write a byte string from address `a` on. -/
def memWriteBytes (m : Memory) (a : Nat) : Bytes → Memory
  | [] => m
  | b :: bs => memWriteBytes (memWrite m a b) (a + 1) bs

/-- Read `n` bytes from address `a` on. -/
def memReadBytes (m : Memory) (a n : Nat) : Bytes := (List.range n).map fun i => memRead m (a + i)

/-- The canonical form of a memory: addresses rise strictly and no byte equals the fill. -/
def Memory.wf (m : Memory) : Bool := tsorted m && m.all fun c => c.2 != memFill

end Sys2Proof.Machine
end

