-- ==== Sys2Proof/Machine/CipherState.lean ====
section
/-!
DEFINITION. The state of the cipher lanes, of MACsec, of the secured PDUs and of in-band partners
(chapter "Cipher Engines and Secured Links").
-/
namespace Sys2Proof.Machine

/-- A message of a lane that lasts beyond one step: a cipher job or the protection of a frame being
sent (R573). -/
structure LaneMsg where
  /-- A job's issuer and TAG; `none` for an egress frame. -/
  job : Option (Nat × Nat)
  gport : Nat
  flow : Nat
  slot : Nat
  urgency : Nat
  hardened : Bool
  /-- The message may be suspended by its frame's progress (R578). -/
  begun : Bool
deriving DecidableEq, Repr

/-- A cipher lane (R576-R580): the running message and the suspended ones, last suspended first. -/
structure Lane where
  run : Option LaneMsg
  suspended : List LaneMsg
deriving DecidableEq, Repr

/-- Where a cipher job stands (R598-R601). -/
inductive JobState where
  | working | stopped | finished | zeroing
deriving DecidableEq, Repr

/-- A cipher job. -/
structure Job where
  partner : Nat
  tag : Nat
  /-- The `CIPHER_JOB` bytes. -/
  raw : Bytes
  st : JobState
  /-- OFFSET, the first byte not processed, and the bytes of SRC before it. -/
  offset : Nat
  fed : Bytes
  /-- The bytes written from DST on. -/
  written : Nat
  /-- The key it started with (R551), once it has started. -/
  key : Option Bytes
  /-- The final status, once zeroing runs. -/
  status : Nat
deriving DecidableEq, Repr

/-- A secure association (R582, R584, R585). -/
structure Sa where
  /-- The `MACSEC_SA_SET` bytes. -/
  raw : Bytes
  /-- The next PN to send, or the lowest acceptable PN. -/
  pn : Nat
  exhausted : Bool
deriving DecidableEq, Repr

/-- A SecY (R582-R585). -/
structure SecY where
  /-- The `MACSEC_SECY_SET` bytes. -/
  raw : Bytes
  /-- Receive SCs as the `MACSEC_RXSC_SET` bytes. -/
  rxsc : Tab Bytes
  /-- SAs by 64 × direction + 4 × SC + AN. -/
  sas : Tab Sa
  encAn : Nat
  /-- A `MACSEC_TX_SWITCH` waiting for the next frame boundary. -/
  switchTo : Option Nat
deriving DecidableEq, Repr

/-- A SecY never set: disabled. -/
def SecY.off : SecY :=
  { raw := List.replicate 16 0, rxsc := [], sas := [], encAn := 0, switchTo := none }

/-- The cipher part of the security unit. -/
structure Cipher where
  lanes : Tab Lane
  waiting : List LaneMsg
  jobs : List Job
  secys : Tab SecY
  /-- TX_FV and LATEST by profile (R588). -/
  fresh : Tab (Nat × Nat)
  /-- VERIFY_FAIL by 8 × flow + kind: the last event and those suppressed since (R594). -/
  limits : Tab (Option Tick × Nat)
  /-- In-band bindings by partner, as the `INBAND_BIND` bytes (R602). -/
  inband : Tab Bytes
deriving DecidableEq, Repr

/-- The cipher part at reset. -/
def Cipher.reset : Cipher :=
  { lanes := [], waiting := [], jobs := [], secys := [], fresh := [], limits := [], inband := [] }

end Sys2Proof.Machine
end

