-- ==== Sys2Proof/Machine/FrameState.lean ====
section
/-!
DEFINITION. A frame as the 9460 carries it: its bytes, its ingress, its stamp, its generation tag
and what classification and lookup gave it (R25, R29, R30).
-/
namespace Sys2Proof.Machine

/-- Cells granted to a credit source before a frame enters: the class of its account, how many from the
reservation and from the shared pool, and where they lie (R338, R346). -/
structure Credit where
  cls : Nat
  res : Nat
  shared : Nat
  segs : List (Nat × Nat)
deriving DecidableEq, Repr

/-- A frame in transit. -/
structure Frame where
  /-- A CAN or LIN record (R198), or `none` for an Ethernet frame. -/
  bus : Option CanFrame
  /-- The bytes of an Ethernet frame, without its FCS. -/
  data : Bytes
  /-- The gport of the Sieve key: the ingress gport, or that of R283 for a tunnel frame. -/
  ingress : Nat
  /-- The ingress timestamp. -/
  stamp : Tick
  /-- SOF to timestamp point in ns (R228). -/
  sofDelta : Nat
  /-- The generation tag (R29). -/
  gen : Nat
  flow : Nat
  tc : Nat
  /-- DEI as stored (R445). -/
  dei : Bool
  /-- Secured-PDU or MACsec verification passed (R131). -/
  verified : Bool
  /-- The receive SC that verified it (R584, R602). -/
  sc : Option Nat
  /-- The ingress stamp it carried over a link (R704). -/
  resStamp : Option Tick
  /-- The GW_REF the frame has for RECIRC (R401). -/
  gwRef : Nat
  /-- The host partner's DIRECT destination and class (R129). -/
  direct : Option (Nat × Nat)
  /-- For frames the device emits: the trigger instant and deadline of R30. -/
  deadline : Option Tick
  /-- Sequence number of the flow's FRER generator (R374). -/
  rtag : Option Nat
  /-- The container definition whose release this frame is, with its earliest deadline (R275). -/
  container : Option (Nat × Tick)
  /-- The host TX ring and first descriptor of the frame, where TS_REQ waits (R130). -/
  txRing : Option (Nat × Nat)
  /-- The host ring a reassembled message is steered to, in place of its flow's (R304). -/
  ring : Option Nat
  /-- The transport session whose segment it is (R298, R303). -/
  session : Option Nat
  /-- The cells it was granted before its fetch (R346). -/
  credit : Option Credit
deriving DecidableEq, Repr

/-- A frame just received. -/
def Frame.arrived (bus : Option CanFrame) (data : Bytes) (ingress : Nat) (stamp : Tick) : Frame :=
  { bus := bus, data := data, ingress := ingress, stamp := stamp, sofDelta := 0, gen := 0,
    flow := 0, tc := 0, dei := false, verified := false, sc := none, resStamp := none, gwRef := 0, direct := none,
    deadline := none, rtag := none, container := none, txRing := none, ring := none, session := none, credit := none }

/-- Where a lookup sends a frame (R400). -/
inductive Dest where
  | port (g : Nat)
  | set (r : Nat)
  | drop
deriving DecidableEq, Repr

end Sys2Proof.Machine
end

