-- ==== Sys2Proof/Machine/GatewayState.lean ====
section
/-!
DEFINITION. The state of the gateway engine (chapter "Signal and PDU Gateway"): PDUs, containers,
transport sessions, J1939 claims and the direct E2E units.
-/
namespace Sys2Proof.Machine

/-- A built PDU as it runs (R251, R262-R267, R311). -/
structure BuiltPdu where
  image : Bytes
  /-- The E2E counter of the next emission. -/
  counter : Nat
  lastTrig : Tick
  /-- The trigger instant of the last emission (R265). -/
  lastEmit : Option Tick
  /-- The next due instant (R263). -/
  due : Option Tick
  /-- A deferred send: the end of its gap (R265). -/
  deferred : Option Tick
deriving DecidableEq, Repr

/-- A source PDU as it runs (R260, R312, R313). -/
structure SourcePdu where
  /-- The counter last accepted; none before the first reception. -/
  accepted : Option Nat
  /-- The trigger instant of the last reception. -/
  last : Tick
  /-- The start of the window in force, and its event is raised. -/
  window : Tick
  timedOut : Bool
  lastFail : Option Tick
deriving DecidableEq, Repr

/-- An entry of an open container (R271, R272). -/
structure ContEntry where
  /-- A built PDU, or the tunnelled frame with its ingress gport. -/
  pdu : Option Nat
  tunnel : Option (CanFrame × Nat)
  trig : Tick
  deadline : Tick
  len : Nat
deriving DecidableEq, Repr

/-- A container definition as it runs (R271, R275, R277, R284). -/
structure Cont where
  /-- Entries of the open container, in order. -/
  entries : List ContEntry
  isOpen : Bool
  /-- The definition under which it opened (R317). -/
  raw : Bytes
  earliest : Tick
  rel : Tick
  seq : Nat
  /-- The sequence value last received. -/
  rxSeq : Option Nat
  lastMiss : Option Tick
deriving DecidableEq, Repr

/-- A definition with no open container. -/
def Cont.fresh : Cont :=
  { entries := [], isOpen := false, raw := [], earliest := 0, rel := 0, seq := 0, rxSeq := none, lastMiss := none }

/-- A message record (R296) with the tag and instant it carries. -/
structure TpMessage where
  peer : Nat
  pgn : Nat
  data : Bytes
  gen : Nat
  trig : Tick
deriving DecidableEq, Repr

/-- What a transport session waits for. -/
inductive TpWait where
  /-- Receive: the next packet. -/
  | packet
  /-- Receive CMDT: the first packet after a CTS. -/
  | afterCts
  /-- Send: a CTS or flow control. -/
  | grant
  /-- Send CMDT: the end-of-message acknowledgement. -/
  | eom
  /-- Send: the release instant of the next segment. -/
  | release
  /-- Send ISO: the egress of the segment handed over. -/
  | sent
deriving DecidableEq, Repr

/-- A transport session (R295-R306). -/
structure TpSession where
  channel : Nat
  /-- The definition under which it opened (R305). -/
  raw : Bytes
  /-- The peer's address and the address it sends to. -/
  peer : Nat
  dst : Nat
  pgn : Nat
  wait : TpWait
  total : Nat
  /-- Bytes received, or the whole message to send. -/
  data : Bytes
  /-- Bytes done, the next sequence number, and what is left of the block granted. -/
  done : Nat
  seq : Nat
  block : Nat
  /-- J1939 CMDT receive: the maximum packets per CTS of the RTS. -/
  maxPackets : Nat
  /-- ISO send: STmin in ticks and consecutive WAITs. -/
  stmin : Tick
  waits : Nat
  /-- The end of the timer window, or the release instant of the next segment. -/
  timer : Tick
  gen : Nat
  trig : Tick
  /-- Cells a reassembly holds of the RECIRC account: reserved, shared, and where (R347). -/
  res : Nat
  shared : Nat
  segs : List (Nat × Nat)
deriving DecidableEq, Repr

/-- A binding change whose commit waits (R289, R290). -/
structure Follow where
  binding : Nat
  gport : Nat
  old : Nat
  new : Nat
  name : Nat
  stamp : Tick
  deferred : Bool
deriving DecidableEq, Repr

/-- A direct E2E unit (R315, R320). -/
structure DirectUnit where
  profile : Nat
  /-- The bytes fed since START. -/
  fed : Bytes
  count : Word
  /-- The device clock until which it is busy. -/
  busyTill : Tick
deriving DecidableEq, Repr

/-- The gateway engine. -/
structure Gateway where
  built : Tab BuiltPdu
  source : Tab SourcePdu
  conts : Tab Cont
  sessions : Tab TpSession
  /-- Messages waiting by send channel, oldest first (R297). -/
  sendQ : Tab (List TpMessage)
  /-- The claim table: NAME by 256 × gport + address (R287). -/
  claims : Tab Nat
  /-- Own addresses as they stand: address and NAME by gport (R291). -/
  own : Tab (Nat × Nat)
  follows : List Follow
  direct : Tab DirectUnit
  /-- Emissions of frame-driven work that wait for shared cells (R347), oldest first. -/
  stalled : List Frame
  /-- The pointer of the engine's arbiter (R243). -/
  arb : Nat
deriving DecidableEq, Repr

/-- The gateway engine at reset (R319, R320). -/
def Gateway.reset : Gateway :=
  { built := [], source := [], conts := [], sessions := [], sendQ := [], claims := [], own := [],
    follows := [], direct := [], stalled := [], arb := 0 }

end Sys2Proof.Machine
end

