-- ==== Sys2Proof/Machine/HeraxState.lean ====
section
/-!
DEFINITION. The state of Herax (chapter "Herax Enclave: Lifecycle, Keys, Attestation and the Sealed
Record"): fuses, key slots in the secure bank and in the key store, journal and sealed record.
-/
namespace Sys2Proof.Machine

/-- STATE of a slot (R543). -/
inductive SlotState where
  | empty | active | orphaned | revoked | exhausted
deriving DecidableEq, Repr

/-- The encoding of R543. -/
def SlotState.code : SlotState → Nat
  | .empty => 0 | .active => 1 | .orphaned => 2 | .revoked => 3 | .exhausted => 4

/-- The pending half of a slot (R542). -/
structure PendingKey where
  key : Bytes
  kcv : Nat
  /-- The parent slot, 0xFFFF where the key was staged. -/
  parent : Nat
deriving DecidableEq, Repr

/-- A key slot (R541-R543, R555-R557). -/
structure KeySlot where
  state : SlotState
  typ : Nat
  level : Nat
  usage : Nat
  kflags : Nat
  limit : Nat
  version : Nat
  key : Bytes
  kcv : Nat
  parent : Nat
  pending : Option PendingKey
  uses : Nat
  /-- REKEY_DUE has been raised for this version. -/
  due : Bool
  /-- The instant of the last commit, since the last device reset (R654). -/
  committed : Option Tick
deriving DecidableEq, Repr

/-- An EMPTY slot. -/
def KeySlot.empty : KeySlot :=
  { state := .empty, typ := 0, level := 0, usage := 0, kflags := 0, limit := 0, version := 0,
    key := [], kcv := 0, parent := 0xFFFF, pending := none, uses := 0, due := false, committed := none }

/-- A commit journal entry: words A, B and C (R548). -/
structure KeyJournal where
  a : Nat
  b : Nat
  c : Nat
deriving DecidableEq, Repr

/-- Herax. -/
structure Herax where
  /-- Lifecycle state (R532) and the fuse root, empty in Manufacture and Scrapped. -/
  lc : Nat
  fuseRoot : Bytes
  /-- DEVICE_ID and boot count (R558). -/
  bootCount : Nat
  challenge : Option Bytes
  /-- A lifecycle intent in the journal: target, partner, challenge and the next step (R535). -/
  lcIntent : Option (Nat × Nat × Bytes × Nat)
  /-- `HERAX_KEYIN_n` and the KEK (R544). -/
  keyIn : Bytes
  kek : Option Bytes
  tamperAction : Nat
  keysBlocked : Bool
  wipeBusy : Bool
  /-- Action 2: the key store is erased at the next start-up (R539). -/
  eraseAtStart : Bool
  /-- Sources detected in Calm or Zephyr, acted on at the next start-up (R539). -/
  tamperWaiting : Nat
  /-- The secure bank and the key store (R541). -/
  bank : Tab KeySlot
  store : Tab KeySlot
  journal : List KeyJournal
  /-- The sealed record ring by SEQ mod 65,536, the head SEQ and the acknowledged one (R560-R565). -/
  ring : Tab Bytes
  head : Nat
  ack : Nat
  /-- Records waiting: KIND and DATA; and events lost since the queue was full (R562). -/
  queue : List (Nat × Bytes)
  lost : Nat
  /-- The instants of the records written in the last second (R652). -/
  sealTimes : List Tick
  /-- CHECKPOINT_N, the records since the last checkpoint and its SEQ (R563). -/
  cpN : Nat
  sinceCp : Nat
  prevCp : Nat
  unexported : Bool
  /-- The latches of R566. -/
  headLatch : Nat
  ackLatch : Nat
deriving DecidableEq, Repr

/-- Herax at reset: Manufacture with no fuse blown (R566; LC DESIGN CHOICE, log entry 21). -/
def Herax.reset : Herax :=
  { lc := 0, fuseRoot := [], bootCount := 0, challenge := none, lcIntent := none,
    keyIn := List.replicate 64 0, kek := none, tamperAction := 0x215, keysBlocked := false,
    wipeBusy := false, eraseAtStart := false, tamperWaiting := 0, bank := [], store := [],
    journal := [], ring := [], head := 0, ack := 0, queue := [], lost := 0, sealTimes := [],
    cpN := 256, sinceCp := 0, prevCp := 0, unexported := false, headLatch := 0, ackLatch := 0 }

end Sys2Proof.Machine
end

