-- ==== Sys2Proof/Machine/HostState.lean ====
section
/-!
DEFINITION. The state of host attachment (chapter "Host Attachment: PCIe, Rings, Device MMU and the
Window Bridge"): rings, DMMU contexts, windows, the PCIe link and the octal-SPI target.
-/
namespace Sys2Proof.Machine

/-- A TX frame being fetched (R135-R137, R144). -/
structure Fetch where
  /-- The first descriptor, the descriptors taken (32 bytes each), and the bytes fetched so far. -/
  desc : Half
  descs : List Bytes
  got : Bytes
  /-- The cells granted for it (R135, R346). -/
  credit : Credit
deriving DecidableEq, Repr

/-- A descriptor ring (R122-R128). -/
structure Ring where
  owner : Nat
  /-- The `RING_CONFIG` bytes. -/
  raw : Bytes
  /-- 0 disabled, 1 running, 2 stopped by a fault. -/
  st : Nat
  tail : Half
  head : Half
  done : Half
  cause : Nat
  faultDesc : Half
  frameDesc : Half
  offset : Nat
  drops : Nat
  frames : Word
  /-- The frame being fetched or held. -/
  fetch : Option Fetch
  /-- The frame being written, with its first descriptor and the bytes written (R145). -/
  writing : Option (Nat × Half × Nat)
  /-- The first frame completed and not signalled (R132). -/
  firstUnsig : Option Tick
  /-- Admitted TX frames whose TS_REQ timestamp is awaited: fid, first descriptor, count (R130). -/
  stamps : List (Nat × Half × Nat)
  /-- `RING_ENABLE` with ENABLE 0 waits for a frame boundary (R172). -/
  stopping : Bool
deriving DecidableEq, Repr

/-- A page translation (R138). -/
structure Page where
  /-- 0 for 4 KiB, 1 for 2 MiB. -/
  big : Bool
  perm : Nat
  /-- 0 internal, 1 host. -/
  host : Bool
  pa : Nat
  /-- Pinned in the translation cache (R620). -/
  pinned : Bool
deriving DecidableEq, Repr

/-- A DMMU context (R138, R139): its owner, and its pages by the virtual address they begin at. -/
structure Context where
  owner : Option Nat
  enabled : Bool
  pages : Tab Page
deriving DecidableEq, Repr

/-- A window (R159, R160). -/
structure Window where
  owner : Nat
  /-- The `WINDOW_SET` bytes. -/
  raw : Bytes
deriving DecidableEq, Repr

/-- A write accepted by the bridge and not yet complete (R160, R156). -/
structure BridgeWrite where
  partner : Nat
  window : Nat
  va : Nat
  data : Bytes
  posted : Bool
  /-- It came on HOSTS. -/
  spi : Bool
deriving DecidableEq, Repr

/-- A partner's prefetch buffer (R162). -/
structure Prefetch where
  window : Nat
  /-- The virtual address after the last read, and the lines read by the address they begin at: each
  with its internal address and its bytes. -/
  next : Nat
  lines : Tab (Nat × Bytes)
  last : Tick
deriving DecidableEq, Repr

/-- A kept read (R155). -/
structure Kept where
  addr : Nat
  len : Nat
  data : Bytes
  till : Tick
  /-- The first read-sensitive internal address whose data it holds. -/
  sensitive : Option Nat
deriving DecidableEq, Repr

/-- What the last host read or transaction was answered: status (on HOSTP 0 good, 1 Unsupported Request, 2
Completer Abort; on HOSTS as R154) and data. -/
structure HostAnswer where
  status : Nat
  data : Bytes
deriving DecidableEq, Repr

/-- Host attachment. -/
structure HostUnit where
  /-- Host memory by PCIe bus address, and the internal memories by internal address. -/
  mem : Memory
  internal : Memory
  rings : Tab Ring
  /-- Ring arbitration pointers by TC, TX and RX (R136). -/
  txArb : Tab Nat
  rxArb : Tab Nat
  ctxs : Tab Context
  windows : Tab Window
  writes : List BridgeWrite
  prefetch : Tab Prefetch
  /-- HOSTP partners whose next read ends with Completer Abort (R160). -/
  abortNext : List Nat
  kept : Tab Kept
  /-- What the last read or transaction of a host was answered. -/
  answer : HostAnswer
  /-- The MSI-X table, by offset (R118). -/
  msixTable : Memory
  /-- PCIE_PERST_N is low (R767). -/
  perst : Bool
  linkUp : Bool
  width : Nat
  speed : Nat
  urCount : Nat
  caCount : Nat
  timeouts : Nat
  /-- Octal-SPI: LAT, a change waiting (R158), counts and LAST_STATUS by partner with LAST_PENDING. -/
  lat : Nat
  latNext : Option Nat
  spiCount : Nat
  retries : Nat
  pendings : Nat
  crcErrs : Nat
  framingErrs : Nat
  lastStatus : Tab (Nat × Bool)
  lostPartner : Nat
  errors : Nat
  lostAddr : Nat
  errAddr : Nat
  /-- Writable registers without behaviour of their own, by internal address (R11). -/
  regs : Tab Nat
deriving DecidableEq, Repr

/-- Host attachment at reset (R126, R153, R157, R166). -/
def HostUnit.reset : HostUnit :=
  { mem := [], internal := [], rings := [], txArb := [], rxArb := [], ctxs := [], windows := [],
    writes := [], prefetch := [], abortNext := [], kept := [],
    answer := { status := 0, data := [] }, msixTable := [], perst := false, linkUp := false, width := 0, speed := 0, urCount := 0,
    caCount := 0, timeouts := 0, lat := 40, latNext := none, spiCount := 0, retries := 0,
    pendings := 0, crcErrs := 0, framingErrs := 0, lastStatus := [], lostPartner := 0, errors := 0,
    lostAddr := 0, errAddr := 0, regs := [] }

end Sys2Proof.Machine
end

