-- ==== Sys2Proof/Machine/KernelState.lean ====
section
/-!
DEFINITION. The state of the Sprinaz service (chapter "Sprinaz Command Protocol and Event Queues"):
partners, their rings, sequence numbers, transactions and event queues; and the Fault Ledger, which
every unit writes.
-/
namespace Sys2Proof.Machine

/-- The six modes of R6. -/
inductive Mode where
  | calm | zephyr | breeze | gale | lee | atelier
deriving DecidableEq, Repr

/-- The MODE encoding of R45. -/
def Mode.code : Mode → Nat
  | .calm => 0 | .zephyr => 1 | .breeze => 2 | .gale => 3 | .lee => 4 | .atelier => 5

/-- An event record (R86). The idle item has TYPE 0. -/
structure EventRecord where
  typ : Nat
  unit : Nat
  seq : Word
  /-- The internal timestamp, in ticks; TS_NS and TS_SEC are computed of it. -/
  stamp : Tick
  safety : Bool
  ledger : Bool
  rewound : Bool
  /-- The 12 bytes of PAYLOAD. -/
  payload : Bytes
deriving DecidableEq, Repr

/-- The idle item (R91) carrying the last real SEQ. -/
def EventRecord.idle (seq : Word) : EventRecord :=
  { typ := 0, unit := 0, seq := seq, stamp := 0, safety := false, ledger := false,
    rewound := false, payload := List.replicate 12 0 }

/-- One partner's event queue (R92-R101). -/
structure EvQueue where
  wr : Half
  rd : Half
  mark : Half
  rel : Half
  /-- HALF_LOG: H is 32 × 2^halfLog records (R107). -/
  halfLog : Nat
  coalUs : Nat
  mirrorBase : Nat
  /-- The SEQ of the last real event, 0 before the first (R88). -/
  lastSeq : Word
  /-- The records REL to WR − 1, oldest first. -/
  records : List EventRecord
  /-- The mirror in host memory of a HOSTP partner, by slot (R96). -/
  mirror : Tab EventRecord
  /-- Records REL to `sig` − 1 have been signalled (R95). -/
  sig : Half
  /-- The instant of the first unsignalled record (R95). -/
  firstUnsig : Option Tick
  /-- Events dropped since the last EVQ_OVERFLOW and the SEQ of the first (R94). -/
  lost : Nat
  firstLost : Word
  /-- The record latched by the event window (R97). -/
  latch : EventRecord
deriving DecidableEq, Repr

/-- The event queue of a partner never attached (R105-R107, R88). -/
def EvQueue.empty : EvQueue :=
  { wr := 0, rd := 0, mark := 0, rel := 0, halfLog := 0, coalUs := 0, mirrorBase := 0,
    lastSeq := 0, records := [], mirror := [], sig := 0, firstUnsig := none, lost := 0,
    firstLost := 0, latch := EventRecord.idle 0 }

/-- A member held by a transaction (R78). -/
structure Member where
  opcode : Nat
  unit : Nat
  tag : Half
  seq : Word
  params : Bytes
deriving DecidableEq, Repr

/-- An open transaction (R75-R82). -/
structure Txn where
  id : Nat
  failed : Bool
  /-- Held members, in order (R78). -/
  members : List Member
  /-- The fetch of the last member, where the window of R82 begins. -/
  last : Tick
deriving DecidableEq, Repr

/-- A reply as written to the reply ring (R55, R63). -/
structure Reply where
  version : Byte
  flags : Byte
  opcode : Nat
  tag : Half
  unit : Half
  status : Nat
  seq : Word
  /-- PLEN as written: the length of `params`, but as received where R57 and R63 say so. -/
  plen : Nat
  params : Bytes
deriving DecidableEq, Repr

/-- One partner (R47, R102-R108). -/
structure Partner where
  /-- TRANSPORT: 0 detached, 1 HOSTP, 2 HOSTS, 3 LNK0, 4 LNK1, 5 in-band (R107). -/
  transport : Nat
  perm : Word
  /-- RING_LOG: the ring size is 64 × 2^ringLog slots (R107). -/
  ringLog : Nat
  cmdBase : Nat
  rplBase : Nat
  wbAddr : Nat
  /-- Device fetch head and posted tail of the request ring (R49). -/
  reqHead : Half
  reqTail : Half
  /-- Consumed head and device tail of the reply ring (R49). -/
  rplHead : Half
  rplTail : Half
  seqAny : Bool
  seqNext : Word
  txn : Option Txn
  /-- The units subscribed to (R90). -/
  subs : List Nat
  evq : EvQueue
  /-- HOST_EVQ_STATUS counts (R106). -/
  ptrErrs : Nat
  resets : Nat
  overflows : Nat
  /-- The replies in the reply ring, oldest first, each with the pointer after its last slot. -/
  replies : List (Half × Reply)
  /-- Replies made while the reply ring lacked room (R58). -/
  waiting : List Reply
  /-- The QUEUE_RESET records not yet released: their pointers (R111). -/
  resetRecs : List Half
deriving DecidableEq, Repr

/-- A detached partner at reset (R104-R108; bases DESIGN CHOICE 0, log entry 4). -/
def Partner.detached : Partner :=
  { transport := 0, perm := 0, ringLog := 0, cmdBase := 0, rplBase := 0, wbAddr := 0,
    reqHead := 0, reqTail := 0, rplHead := 0, rplTail := 0, seqAny := true, seqNext := 0,
    txn := none, subs := [], evq := EvQueue.empty, ptrErrs := 0, resets := 0, overflows := 0,
    replies := [], waiting := [], resetRecs := [] }

/-- An asynchronous command outstanding (R72-R74). -/
structure AsyncCmd where
  partner : Nat
  opcode : Nat
  unit : Nat
  tag : Half
  seq : Word
  params : Bytes
  started : Tick
deriving DecidableEq, Repr

/-- A Fault Ledger entry (R742). -/
structure LedgerEntry where
  id : Nat
  code : Nat
  unit : Nat
  object : Nat
  first : Tick
  severity : Nat
  persisted : Bool
  restored : Bool
  w1c : Bool
  count : Nat
  /-- The 8 bytes of DETAIL. -/
  detail : Bytes
deriving DecidableEq, Repr

/-- A W1C bit: its register's internal address and its bit number (R744). -/
structure W1cBit where
  addr : Nat
  bit : Nat
deriving DecidableEq, Repr

/-- The Fault Ledger (R742-R747). -/
structure Ledger where
  entries : List LedgerEntry
  nextId : Nat
  /-- IDs of entries whose last change waits for the journal (R745). -/
  unpersisted : List Nat
  /-- The journal's copy of the ledger. -/
  journal : List LedgerEntry
  /-- Writes made in the current second (R745): its start and the count. -/
  writeWindow : Tick
  writes : Nat
deriving DecidableEq, Repr

/-- The Sprinaz service. -/
structure Kernel where
  /-- Partners 0 to 7; an unlisted one is detached (R47). -/
  partners : Tab Partner
  asyncs : List AsyncCmd
  /-- The pointer of the command arbiter (R68, R21). -/
  cmdArb : Nat
  /-- MSI-X vectors raised since reset, with how often (R110). -/
  msix : Tab Nat
  /-- Every 64-bit counter of R180's kind by the internal address of its register. -/
  counters : Tab Dword
  /-- Every W1C bit that is set (R11, R110), in the order of setting. -/
  w1c : List W1cBit
  ledger : Ledger
  /-- HOST_SUMMARY.VALID (R44). -/
  summaryValid : Bool
deriving DecidableEq, Repr

/-- The service at reset. -/
def Kernel.reset : Kernel :=
  { partners := [], asyncs := [], cmdArb := 0, msix := [], counters := [], w1c := [],
    ledger := { entries := [], nextId := 0, unpersisted := [], journal := [], writeWindow := 0,
                writes := 0 },
    summaryValid := false }

end Sys2Proof.Machine
end

