-- ==== Sys2Proof/Machine/LinkState.lean ====
section
/-!
DEFINITION. The state of the Masaton links, of pairing and of the safety unit (chapter "Masaton Link,
Pairing and Functional Safety").
-/
namespace Sys2Proof.Machine

/-- A link (R694-R704, R748). -/
structure Link where
  admin : Bool
  /-- TIME: bit d for domain d. -/
  time : Nat
  lane0 : Bool
  lane1 : Bool
  aligned : Bool
  /-- The last LSEQ sent, and the last received good and in order. -/
  txSeq : Nat
  rxSeq : Nat
  /-- Packets not acknowledged, oldest first; how often the oldest was replayed; since when LACK
  has not advanced. -/
  unacked : List LinkPacket
  replays : Nat
  ackAt : Tick
  /-- Packets waiting, oldest first. -/
  out : List LinkPacket
  /-- Credits by VC in units of 128 bytes, and credits granted to the peer and not used. -/
  credits : Tab Nat
  granted : Tab Nat
  /-- MIRROR bytes sent in the current 10 µs window (R699). -/
  mirrorWindow : Tick
  mirrorSent : Nat
  hbSeq : Nat
  /-- HB_SEQ and egress stamp of heartbeats sent, newest first. -/
  hbSent : List (Nat × Tick)
  /-- HB_SEQ and ingress stamp of the last heartbeat received. -/
  hbGot : Option (Nat × Tick)
  /-- The last 64 delay samples in ns, newest first (R702). -/
  samples : List Nat
  peerDev : Nat
  /-- The start of the window in which this link sent its last heartbeat (R712). -/
  hbWindow : Option Tick
  /-- READs held for onward credit, with the instant they arrived (R710). -/
  relays : List (LinkPacket × Tick)
deriving DecidableEq, Repr

/-- A link at reset (R748). -/
def Link.reset : Link :=
  { admin := false, time := 0, lane0 := false, lane1 := false, aligned := false, txSeq := 0,
    rxSeq := 0, unacked := [], replays := 0, ackAt := 0, out := [], credits := [], granted := [],
    mirrorWindow := 0, mirrorSent := 0, hbSeq := 0, hbSent := [], hbGot := none, samples := [],
    peerDev := 0, hbWindow := none, relays := [] }

/-- The pair states of R716. -/
inductive PairSt where
  | unpaired | syncing | standby | active | switching | isolated | failed
deriving DecidableEq, Repr

/-- STATE of R716. -/
def PairSt.code : PairSt → Nat
  | .unpaired => 0 | .syncing => 1 | .standby => 2 | .active => 3 | .switching => 4
  | .isolated => 5 | .failed => 6

/-- The `REMOTE_READ` in progress (R711): Pair A executes one command at a time (R68). -/
structure Remote where
  partner : Nat
  /-- The command, once its reply is deferred. -/
  pkt : Option Packet
  /-- The parameters, the TAG of the READ last issued and the instant of the first. -/
  params : Bytes
  tag : Nat
  started : Tick
  /-- It was answered RETRY. -/
  retried : Bool
deriving DecidableEq, Repr

/-- Pairing, cascade and remote access. -/
structure PairUnit where
  /-- DEV_ID and ROUTE (R705). -/
  devId : Nat
  routes : Bytes
  /-- The `PAIR_CONFIG` bytes. -/
  raw : Bytes
  st : PairSt
  /-- The unit held the active role when it became ISOLATED. -/
  wasActive : Bool
  hold : Bool
  /-- The peer's STATE, HFLAGS and GEN in its last heartbeat, and the stamp of the last valid one. -/
  peerState : Nat
  peerFlags : Nat
  peerGen : Nat
  hbLast : Option Tick
  /-- The stamp of the last edge on PAIR_HB_IN, the level driven on PAIR_HB_OUT and its last toggle. -/
  pinLast : Option Tick
  pinOut : Bool
  pinToggled : Tick
  /-- FAIL, HANDOVER and RECLAIM of the next heartbeats. -/
  fail : Bool
  handover : Bool
  reclaim : Bool
  /-- The end of the START_WAIT_MS window (R717) and the start of R727's window. -/
  waitEnd : Option Tick
  reclaimFrom : Option Tick
  lastCause : Nat
  /-- Mirror sequence sent (active) or applied (standby), and applied by the peer. -/
  mirrorSeq : Nat
  peerApplied : Nat
  /-- Records to send. -/
  mirrorOut : List MirrorRec
  /-- The peer's copy has wholly arrived (R722), and its key slots' KCVs agree. -/
  copied : Bool
  keysAgree : Bool
  remote : Option Remote
  nextTag : Nat
deriving DecidableEq, Repr

/-- Pairing at reset (R749). -/
def PairUnit.reset : PairUnit :=
  { devId := 0, routes := List.replicate 32 0, raw := List.replicate 20 0, st := .unpaired,
    wasActive := false, hold := false, peerState := 0, peerFlags := 0, peerGen := 0, hbLast := none,
    pinLast := none, pinOut := false, pinToggled := 0, fail := false, handover := false,
    reclaim := false, waitEnd := none, reclaimFrom := none, lastCause := 0, mirrorSeq := 0,
    peerApplied := 0, mirrorOut := [], copied := false,
    keysAgree := false, remote := none, nextTag := 0 }

/-- The safety unit. -/
structure Safety where
  leeCause : Nat
  /-- PORTS of `LEE_CONFIG`. -/
  leePorts : Nat
  /-- Pair A and Pair B are halted (R734 rows 1 and 14). -/
  haltedA : Bool
  haltedB : Bool
  /-- The start of the watchdog window in force (R735). -/
  kicked : Tick
  /-- The next pair of R736, the end of a running slot, and the start of the current rotation. -/
  lbistNext : Nat
  lbistEnd : Option Tick
  rotStart : Tick
  /-- The instants of path check errors of the last second (row 5). -/
  pathErrs : List Tick
  /-- Disagreements by unit × 65,536 + object: the instant each began, and whether it was reported (R740). -/
  diverging : Tab (Tick × Bool)
  /-- The lasting conditions that hold, by the row of R734: 1, 9 and 14 (R738). -/
  conditions : List Nat
  /-- The domains out of tolerance at their last measurement, bit n − 1 for domain n (R33). -/
  freqFault : Nat
deriving DecidableEq, Repr

/-- The safety unit at reset (R750; PORTS of Lee DESIGN CHOICE none, log entry 22). -/
def Safety.reset : Safety :=
  { leeCause := 0, leePorts := 0, haltedA := false, haltedB := false, kicked := 0, lbistNext := 0,
    lbistEnd := none, rotStart := 0, pathErrs := [], diverging := [], conditions := [],
    freqFault := 0 }

end Sys2Proof.Machine
end

