-- ==== Sys2Proof/Machine/GateState.lean ====
section
/-!
DEFINITION. Gate control lists (R361) and how one runs (R363, R450, R499), for transmission gates and
stream gates alike.
-/
namespace Sys2Proof.Machine

/-- An entry: its states (one bit per class, or one state for a stream gate), its interval in ticks
and, for a stream gate, OCTET_MAX. -/
structure GateEntry where
  states : Nat
  interval : Tick
  octetMax : Nat
deriving DecidableEq, Repr

/-- A gate list (R361, R450). Times are in ns as commanded; BASE and CHANGE count from 0 s. -/
structure GateList where
  clock : Nat
  cycleNs : Nat
  baseNs : Nat
  changeNs : Nat
  entries : List GateEntry
  /-- The parameter bytes that set it, for the query. -/
  raw : Bytes
deriving DecidableEq, Repr

/-- A gate as it runs. -/
structure GateRun where
  oper : Option GateList
  admin : Option GateList
  /-- The instant the admin list was answered, until it becomes operational (R363). -/
  waiting : Option Tick
  /-- ENABLE of `GATE_ENABLE` (R362). -/
  enabled : Bool
  /-- The current cycle's start and the next one's (R499). -/
  start : Tick
  next : Tick
  /-- The entry in effect. -/
  entry : Nat
deriving DecidableEq, Repr

/-- A gate never given a list: open, and enabled from reset (R362). -/
def GateRun.none : GateRun :=
  { oper := Option.none, admin := Option.none, waiting := Option.none, enabled := true, start := 0,
    next := 0, entry := 0 }

end Sys2Proof.Machine
end

