-- ==== Sys2Proof/Machine/PolicingState.lean ====
section
/-!
DEFINITION. The state of the policing unit (chapter "Policing, Cadence Monitoring and Containment").
-/
namespace Sys2Proof.Machine

/-- A meter (R443-R447). -/
structure Meter where
  /-- The `POLICER_SET` bytes. -/
  raw : Bytes
  c : Nat
  e : Nat
  lastN : Nat
  allRed : Bool
  green : Word
  yellow : Word
  red : Word
  /-- The instant of the last POLICE_RED and the red frames since (R480, R782). -/
  lastEvent : Option Tick
  suppressed : Nat
deriving DecidableEq, Repr

/-- A stream filter (R449). -/
structure StreamFilter where
  /-- The `SF_SET` bytes. -/
  raw : Bytes
  blocked : Bool
  matching : Word
  passing : Word
  notGate : Word
  notSdu : Word
deriving DecidableEq, Repr

/-- A stream gate (R450-R452). -/
structure StreamGate where
  run : GateRun
  /-- Closed until `SF_RESET`. -/
  closed : Bool
  /-- The start of the run being summed and its octets (R452). -/
  sumStart : Tick
  sum : Nat
deriving DecidableEq, Repr

/-- A stream gate never given a list. -/
def StreamGate.none : StreamGate := { run := GateRun.none, closed := false, sumStart := 0, sum := 0 }

/-- The state of a monitored flow (R454). -/
inductive CadState where
  | learning | monitoring | acyclic
deriving DecidableEq, Repr

/-- A flow's cadence monitor (R454-R459). -/
structure CadFlow where
  profile : Nat
  state : CadState
  /-- The arrivals recorded in LEARNING, newest first. -/
  arrivals : List Tick
  period : Nat
  jitter : Nat
  ref : Tick
  missed : Bool
  misses : Nat
  /-- ON_TIME arrivals in the current run of 256, and their largest |dev|. -/
  onTime : Nat
  maxDev : Nat
  /-- The open babble window: its start and count (R459). -/
  babble : Option (Tick × Nat)
  inserted : Nat
  late : Nat
  loss : Nat
  babbles : Nat
  /-- Per verdict kind: the instant of the last event and the verdicts suppressed since (R483). -/
  limits : Tab (Option Tick × Nat)
deriving DecidableEq, Repr

/-- A flow's monitor at first: LEARNING under profile 0 (R454, R478). -/
def CadFlow.fresh (profile : Nat) : CadFlow :=
  { profile := profile, state := .learning, arrivals := [], period := 0, jitter := 0, ref := 0,
    missed := false, misses := 0, onTime := 0, maxDev := 0, babble := none, inserted := 0,
    late := 0, loss := 0, babbles := 0, limits := [] }

/-- A source (R461, R474). -/
structure Source where
  /-- The `SOURCE_SET` bytes. -/
  raw : Bytes
  /-- The current window's index, its frames, and whether it has given its verdict. -/
  window : Nat
  count : Nat
  given : Bool
  /-- A frame of a SAFETY flow has passed (R482). -/
  safetySeen : Bool
deriving DecidableEq, Repr

/-- A quarantine in force (R463). -/
structure Quarantine where
  /-- 0 flow, 1 source. -/
  kind : Nat
  target : Nat
  /-- 1 INSERTED, 4 BABBLE, 5 SOURCE_BABBLE. -/
  cause : Nat
  start : Tick
  holdMs : Nat
  /-- The start of the hold window in force. -/
  holdStart : Tick
  /-- A further verdict was seen in it. -/
  again : Bool
  dropped : Nat
deriving DecidableEq, Repr

/-- The policing unit. -/
structure Policing where
  /-- FRAMES and DROPS per flow (R442). -/
  flowCounts : Tab (Word × Word)
  meters : Tab Meter
  filters : Tab StreamFilter
  gates : Tab StreamGate
  /-- Profiles by number, as the `CADENCE_PROFILE_SET` bytes. -/
  profiles : Tab Bytes
  flows : Tab CadFlow
  sources : Tab Source
  quarantines : List Quarantine
  maxActive : Nat
  newMax : Nat
  winMs : Nat
  /-- The budget window's index and the quarantines started in it (R464). -/
  budgetWindow : Nat
  newUsed : Nat
deriving DecidableEq, Repr

/-- A cadence profile at reset: the least value of every range (DESIGN CHOICE, log entry 15). -/
def profileAtReset (n : Nat) : Bytes :=
  [BitVec.ofNat 8 n, 4, 1, 1] ++ [0, 0, 0, 0] ++ [0, 0] ++ [2, 0] ++ [1, 0, 0, 0] ++ [10, 0, 0, 0] ++
    [0, 0] ++ List.replicate 10 0

/-- The policing unit at reset (R465, R470). -/
def Policing.reset : Policing :=
  { flowCounts := [], meters := [], filters := [], gates := [], profiles := [], flows := [],
    sources := [], quarantines := [], maxActive := 0, newMax := 0, winMs := 1000,
    budgetWindow := 0, newUsed := 0 }

end Sys2Proof.Machine
end

