-- ==== Sys2Proof/Machine/PortState.lean ====
section
/-!
DEFINITION. The state of the wired ports, gports 0 to 49 (chapter "Bus Ports: CAN, LIN, 10BASE-T1S
and Ethernet").
-/
namespace Sys2Proof.Machine

/-- What every wired port has (R177, R225, R235). -/
structure PortCommon where
  admin : Bool
  rxExt : Nat
  txExt : Nat
  /-- `WAKE_DETECT_SET`: SRC, FILT in 0.5 µs, TO in 10 µs; 0 stands for the default (R235, R785). -/
  wakeSrc : Nat
  filt : Nat
  tmo : Nat
deriving DecidableEq, Repr

/-- A wired port at reset (admin state DESIGN CHOICE down, log entry 16). -/
def PortCommon.reset : PortCommon :=
  { admin := false, rxExt := 0, txExt := 0, wakeSrc := 0, filt := 0, tmo := 0 }

/-- A frame handed to a CAN controller (R191). -/
structure CanHeld where
  /-- The held frame's number in the switch, its class and the record as sent. -/
  fid : Nat
  tc : Nat
  frame : CanFrame
  /-- SOF has been driven in the current attempt, and at which device clock. -/
  sof : Option Tick
deriving DecidableEq, Repr

/-- A CAN port (R184-R197). -/
structure CanPort where
  /-- CANX_CONFIG. -/
  config : Word
  integrated : Bool
  busOff : Bool
  recovering : Bool
  txErr : Nat
  rxErr : Nat
  opmode : Nat
  /-- A `CAN_RESTRICT` waiting for the end of the frame on the bus (R194). -/
  opmodeNext : Option Nat
  trxMode : Nat
  /-- A `TRX_MODE_SET` waiting likewise: MODE and GTS_US (R231). -/
  trxNext : Option (Nat × Nat)
  /-- When the go-to-sleep hold ends (R230). -/
  gtsEnd : Option Tick
  /-- Logical level of CANn_WFLAG. -/
  wflag : Bool
  trailer : Bool
  /-- The timestamp point of the last valid frame (R196). -/
  lastValid : Option Tick
  tdcValid : Bool
  tdcMeas : Nat
  bitN : Word
  bitD : Word
  bitX : Word
  tdc : Word
  held : Option CanHeld
  /-- A frame is on the bus (R786). -/
  busy : Bool
  /-- It integrates again after a protocol exception, or after an error in restricted operation, and
  receives nothing (R189, R192). -/
  deaf : Bool
deriving DecidableEq, Repr

/-- A CAN port at reset (R184-R188, R231). -/
def CanPort.reset : CanPort :=
  { config := 0x01F40010, integrated := false, busOff := false, recovering := false, txErr := 0,
    rxErr := 0, opmode := 0, opmodeNext := none, trxMode := 2, trxNext := none, gtsEnd := none,
    wflag := false, trailer := false, lastValid := none, tdcValid := false, tdcMeas := 0,
    bitN := 0x078F3E01, bitD := 0, bitX := 0, tdc := 0, held := none, busy := false, deaf := false }

/-- A LIN schedule entry (R201). -/
structure LinEntry where
  fid : Nat
  kind : Nat
  delayMs : Nat
  resolve : Nat
deriving DecidableEq, Repr

/-- A LIN response buffer (R204). -/
structure LinBuffer where
  frame : CanFrame
  /-- The class of the flow that last wrote it (R367). -/
  tc : Nat
  updated : Bool
  /-- Marked as a subscribed slot by a record with DLEN 0. -/
  subscribed : Bool
  /-- A host frame whose TS_REQ stamp is awaited: its number and its TX ring (R130). -/
  ts : Option (Nat × Nat × Nat)
deriving DecidableEq, Repr

/-- A LIN port (R200-R206). -/
structure LinPort where
  commander : Bool
  brk : Nat
  baud : Nat
  enhMap : Nat
  lenMap : Nat
  tables : Tab (List LinEntry)
  /-- The active table, the current slot, and whether a slot of the table has begun. -/
  active : Option Nat
  slot : Nat
  begun : Bool
  /-- The next slot's start waits for its gate and has been counted (R367). -/
  deferred : Bool
  /-- When the current slot's delay ends, in IT ticks. -/
  slotEnd : Tick
  /-- A `LIN_SCHEDULE_SELECT` waiting: the table (or 0xFF) and AT (R203). -/
  select : Option (Nat × Nat)
  /-- The interrupted table and slot while a resolution table runs (R202). -/
  resume : Option (Nat × Nat)
  /-- The identifier whose header was last sent or received, awaiting a response. -/
  awaiting : Option Nat
  buffers : Tab LinBuffer
  en : Bool
  enNext : Option Bool
  busy : Bool
  syncSeen : Bool
  baudMeas : Nat
deriving DecidableEq, Repr

/-- A LIN port at reset (R205, R231; break, rate and maps DESIGN CHOICE, log entry 16). -/
def LinPort.reset : LinPort :=
  { commander := false, brk := 13, baud := 1000, enhMap := 0, lenMap := 0, tables := [],
    active := none, slot := 0, begun := false, deferred := false, slotEnd := 0, select := none, resume := none, awaiting := none,
    buffers := [], en := false, enNext := none, busy := false, syncSeen := false, baudMeas := 0 }

/-- A MAC control frame ordered by the switch core (R220, R342): a PAUSE time (under class 0), or PFC
times by class. -/
structure CtlOrder where
  pfc : Bool
  times : Tab Nat
  /-- The instant of the order: changes of one tick share a PFC frame. -/
  at_ : Tick
  /-- It began an XOFF (R344). -/
  opens : Bool
deriving DecidableEq, Repr

/-- An Ethernet port (R207-R221, R233). -/
structure EthPort where
  speed : Nat
  fcMode : Nat
  preempt : Bool
  prstOnDown : Bool
  pfcEn : Nat
  maxFrame : Nat
  verifyMs : Nat
  prstUs : Nat
  /-- PREEMPT_ST (R209). -/
  preemptSt : Nat
  /-- The link-pause window and the PFC windows by class (R215). -/
  pause : Option (Tick × Tick)
  pfc : Tab (Tick × Tick)
  plca : Word
  plcaOk : Bool
  /-- PCS lock, or the T1S PHY's link (R177). -/
  lock : Bool
  phyWake : Bool
  prst : Bool
  prstSince : Tick
  orders : List CtlOrder
  /-- Since when a ready frame is held only by a pause window (TX_HELD_TICKS, R212). -/
  heldSince : Option Tick
deriving DecidableEq, Repr

/-- An Ethernet port at reset (R208-R210, R233). -/
def EthPort.reset (g : Nat) : EthPort :=
  { speed := if g < 38 then 0 else if g < 42 then 5 else 2
    fcMode := 0, preempt := false, prstOnDown := false, pfcEn := 0, maxFrame := 0x05F2,
    verifyMs := 10, prstUs := 100, preemptSt := 0, pause := none, pfc := [], plca := 0x002008FF,
    plcaOk := false, lock := false, phyWake := false, prst := decide (38 ≤ g), prstSince := 0,
    orders := [], heldSince := none }

/-- The wired ports. -/
structure Ports where
  common : Tab PortCommon
  can : Tab CanPort
  lin : Tab LinPort
  eth : Tab EthPort
  /-- The pins are latched by the Plinth (R232). -/
  latched : Bool
deriving DecidableEq, Repr

/-- The ports at reset. -/
def Ports.reset : Ports := { common := [], can := [], lin := [], eth := [], latched := false }

end Sys2Proof.Machine
end

