-- ==== Sys2Proof/Machine/PowerState.lean ====
section
/-!
DEFINITION. The state of the power unit (chapter "Modes, Power Domains and Start-up"): supplies and
reset pins, the Plinth, transitions, images, banks and the Record Store's limits.
-/
namespace Sys2Proof.Machine

/-- An image slot (R633, R637). -/
structure ImageSlot where
  /-- 0 EMPTY, 1 WRITTEN, 2 VERIFIED, 3 TRIAL, 4 ACTIVE, 5 PREVIOUS, 6 INVALID. -/
  state : Nat
  booted : Bool
  reason : Nat
  /-- The slot's bytes by offset. -/
  bytes : Memory
deriving DecidableEq, Repr

/-- A slot never written. -/
def ImageSlot.empty : ImageSlot := { state := 0, booted := false, reason := 0, bytes := [] }

/-- A transition that runs (R622-R626). -/
structure Transition where
  target : Mode
  cause : Nat
  source : Nat
  /-- The device clock at its trigger. -/
  started : Tick
  partner : Nat
deriving DecidableEq, Repr

/-- A comparator (R614, R615). -/
structure Comparator where
  /-- The `COMPARATOR_SET` bytes; none before the first. -/
  raw : Bytes
  /-- PL_CMPc is beyond its threshold. -/
  level : Bool
  /-- A detection in Calm or Zephyr whose event waits for start-up. -/
  waiting : Bool
deriving DecidableEq, Repr

/-- A comparator never set. -/
def Comparator.off : Comparator := { raw := List.replicate 12 0, level := false, waiting := false }

/-- The power unit. -/
structure PowerUnit where
  /-- Pins: PORST_N and SYS_RST_N low; PWR_MAIN_EN driven high; PWR_GOOD high for 100 µs. -/
  porst : Bool
  sysRst : Bool
  mainEn : Bool
  pwrGood : Bool
  /-- The first attempt of R611 has failed. -/
  retry : Bool
  /-- The device clock when PWR_MAIN_EN last rose. -/
  enAt : Tick
  /-- A failed LBIST holds the main domain in reset; the pair that failed is latched (R632). -/
  held : Bool
  lbistFail : Option Nat
  transition : Option Transition
  wakeTarget : Nat
  lastWake : Nat
  resetCause : Nat
  /-- The cause latched for the next start-up, and the device clock of the reset that latched it. -/
  nextCause : Nat
  resetAt : Tick
  /-- IT and legal time are handed to the Plinth: from the commit point of R625 to the next start (R488). -/
  asleep : Bool
  /-- The Plinth has kept its contents since the last start-up (R509, R613). -/
  kept : Bool
  calmAfterS : Nat
  /-- The device clock at the entry to Calm or Zephyr. -/
  sleptAt : Tick
  /-- ATELIER_MAX_S as requested, and the end of its window. -/
  atelierMaxS : Nat
  atelierEnd : Option Tick
  atelierPartner : Nat
  breezePorts : Nat
  breezeSegs : Nat
  /-- MASK of `FB_SEGMENT_SET`. -/
  segMask : Nat
  /-- LPDDR5 was trained at the last start-up (R37). -/
  trained : Bool
  /-- The ports admin up before entry to Breeze or Lee (R621, R737). -/
  adminSaved : List Nat
  /-- Bank states set by `POWER_BANK_SET` (R649); an unlisted bank is on. -/
  bankSet : Tab Nat
  comparators : Tab Comparator
  images : Tab ImageSlot
  /-- Running firmware and configuration slots; 0xFF none. -/
  fwSlot : Nat
  cfgSlot : Nat
  recovery : Bool
  /-- M_FW, its SVN and M_CFG of what runs (R536, R558). -/
  mFw : Bytes
  fwSvn : Nat
  mCfg : Bytes
  /-- SVN floors (R641) and the configuration authority's key (R635). -/
  fwFloor : Nat
  cfgFloor : Nat
  authority : Bytes
  /-- A hitless activation: the slot and its start (R645). -/
  activating : Option (Nat × Tick)
  /-- A reset of the main domain due: its cause (R643, R657). -/
  resetDue : Option Nat
  /-- The TCM hash kept in the Plinth (R625). -/
  tcmHash : Bytes
  /-- Monotonic counters by number, writes that wait, and the instants of the last writes (R653). -/
  mono : Tab Nat
  monoWait : Tab Nat
  monoTimes : List Tick
deriving DecidableEq, Repr

/-- The power unit at reset (R655). -/
def PowerUnit.reset : PowerUnit :=
  { porst := false, sysRst := false, mainEn := false, pwrGood := false, retry := false, enAt := 0,
    held := false, lbistFail := none, transition := none, wakeTarget := 3, lastWake := 0,
    resetCause := 0, nextCause := 0x01, resetAt := 0, asleep := false, kept := false, calmAfterS := 0, sleptAt := 0, atelierMaxS := 0, atelierEnd := none,
    atelierPartner := 0, breezePorts := 0, breezeSegs := 3, segMask := 0xFFFF, trained := false, adminSaved := [], bankSet := [],
    comparators := [], images := [], fwSlot := 0, cfgSlot := 0, recovery := false,
    mFw := [], fwSvn := 0, mCfg := [], fwFloor := 0, cfgFloor := 0, authority := [],
    activating := none, resetDue := none, tcmHash := [], mono := [], monoWait := [],
    monoTimes := [] }

end Sys2Proof.Machine
end

