-- ==== Sys2Proof/Machine/SleepState.lean ====
section
/-!
DEFINITION. The state of the sleep unit (chapter "Network Sleep, Wake and Partial Operation").
-/
namespace Sys2Proof.Machine

/-- The states of R675. -/
inductive SleepSt where
  | off | joining | ring | proposed | agreed | asleep
deriving DecidableEq, Repr

/-- STATE of R675. -/
def SleepSt.code : SleepSt → Nat
  | .off => 0 | .joining => 1 | .ring => 2 | .proposed => 3 | .agreed => 4 | .asleep => 5

/-- A TC10 sleep in progress on a port (R684). -/
structure Tc10 where
  /-- The instant of the write and the last STAT_REG read. -/
  written : Tick
  status : Nat
deriving DecidableEq, Repr

/-- The sleep unit. -/
structure Sleep where
  st : SleepSt
  /-- The `SLEEP_RING_SET` bytes. -/
  raw : Bytes
  /-- The presence set, rising (R666). -/
  present : List Nat
  round : Nat
  quiet : Nat
  /-- Consecutive completed rounds without a counted REQ (R680, R682). -/
  noReq : Nat
  /-- REQ and PN_REQ by node as observed in the current round, and REQ of the last completed one. -/
  seen : Tab (Bool × Nat)
  lastReq : List Nat
  /-- The needed set's PN bits of the last round. -/
  pnNeed : Nat
  /-- The end of the joining window; the token sent: recipient and instant; the last TOKEN received. -/
  joinEnd : Option Tick
  sent : Option (Nat × Tick)
  tokenAt : Option Tick
  /-- A TOKEN to pass on: its round and the instant of its receipt (R668). -/
  holding : Option (Nat × Tick)
  /-- The start of the objection window (R672), and a WAKE seen in it. -/
  objection : Option Tick
  objected : Bool
  agreedAt : Option Tick
  /-- Ring messages received in the last 20 ms with their instants (R664). -/
  recent : List (Bytes × Tick)
  /-- Holds by partner: FULL and PN_MASK (R670). -/
  holds : Tab (Bool × Nat)
  /-- Port wakes that give need: gport and stamp (R670). -/
  wakes : List (Nat × Tick)
  /-- Wakes detected in Zephyr whose events wait for the resume: gport, SOURCE of WAKE_DETECT, stamp. -/
  wakeEvents : List (Nat × Nat × Tick)
  /-- False-wake windows: gport, start, and valid communication seen (R686). -/
  falseWakes : List (Nat × Tick × Bool)
  /-- The awake window: node and start (R687), and the node overruled (R688). -/
  awake : Option (Nat × Tick)
  overruled : Option Nat
  /-- OVR_NODE stays after its overrule ends. -/
  ovrNode : Nat
  /-- Partial networks: PORTS by number. -/
  pns : Tab Nat
  /-- Ports held asleep, with the admin state held before (R680, R681). -/
  heldPorts : Tab Bool
  /-- `WAKE_PORT_SET` and `WAKE_FRAME_SET` bytes by gport. -/
  wakePorts : Tab Bytes
  wakeFrames : Tab Bytes
  tc10 : Tab Tc10
  /-- LIN commanders woken: the first header no earlier than this (R683). -/
  linAfter : Tab Tick
deriving DecidableEq, Repr

/-- The sleep unit at reset (R689). -/
def Sleep.reset : Sleep :=
  { st := .off, raw := List.replicate 40 0, present := [], round := 0, quiet := 0, noReq := 0,
    seen := [], lastReq := [], pnNeed := 0, joinEnd := none, sent := none,
    tokenAt := none, holding := none, objection := none, objected := false, agreedAt := none,
    recent := [], holds := [], wakes := [], wakeEvents := [], falseWakes := [], awake := none, overruled := none,
    ovrNode := 0, pns := [], heldPorts := [], wakePorts := [], wakeFrames := [], tc10 := [],
    linAfter := [] }

end Sys2Proof.Machine
end

