-- ==== Sys2Proof/Machine/SwitchState.lean ====
section
/-!
DEFINITION. The state of the switch core (chapter "Switch Core, Buffers and Egress Scheduling"):
held frames, accounts, queues, gates, pre-emption, spill and FRER.
-/
namespace Sys2Proof.Machine

/-- A frame held in the buffer (R329, R339, R355-R357). -/
structure HeldFrame where
  frame : Frame
  /-- Its source gport and class: its account (R338). -/
  src : Nat
  cls : Nat
  /-- Cells charged to the reservation and to the shared pool. -/
  res : Nat
  shared : Nat
  /-- The segments its cells lie in, with how many in each (R333). -/
  segs : List (Nat × Nat)
  /-- The admission instant (R350). -/
  at_ : Tick
  /-- Replicas not yet sent or dropped (R355). -/
  refs : Nat
  /-- Frame-driven work of the gateway engine (R347). -/
  driven : Bool
  /-- An uncorrectable error was found in a cell (R332). -/
  faulted : Bool
  /-- Still being received under cut-through (R359). -/
  receiving : Bool
  /-- The frame with its secured-PDU trailer, once its first replica was protected (R591). -/
  secured : Option CanFrame
deriving DecidableEq, Repr

/-- A replica in an egress queue. -/
structure Replica where
  fid : Nat
  /-- To be copied to the spill region (R335). -/
  mark : Bool
  /-- Copied to the spill region (R335). -/
  spilled : Bool
deriving DecidableEq, Repr

/-- An account (R338-R343, R787). -/
structure Account where
  share : Nat
  minCells : Nat
  holdUs : Nat
  xonGap : Nat
  /-- RES_CELLS held, and a wanted increase (R787). -/
  res : Nat
  wanted : Option Nat
  resUsed : Nat
  sharedUsed : Nat
  xoff : Bool
  /-- The instant of the last PAUSE or PFC order of this XOFF (R342). -/
  ordered : Tick
deriving DecidableEq, Repr

/-- An account never set (SHARE_CELLS DESIGN CHOICE, log entry 17; R377: no reservation). -/
def Account.reset : Account :=
  { share := 126976, minCells := 0, holdUs := 0, xonGap := 0, res := 0, wanted := none, resUsed := 0,
    sharedUsed := 0, xoff := false, ordered := 0 }

/-- Flow control of a back-pressure port (R342-R344). -/
structure FlowControl where
  quanta : Nat
  rInit : Nat
  rMax : Nat
  /-- The last 8 samples in ns, newest first. -/
  samples : List Nat
  /-- The measurement begun by the last XOFF: t_x, the classes, the last stamp in scope and whether it
  is closed (R344). -/
  probe : Option (Tick × Nat × Option Tick × Bool)
deriving DecidableEq, Repr

/-- Flow control at reset (R380 defaults). -/
def FlowControl.reset : FlowControl :=
  { quanta := 0xFFFF, rInit := 10000, rMax := 100000, samples := [], probe := none }

/-- A queue's settings (R350, R352, R334). -/
structure QueueCfg where
  limitUs : Nat
  maxCells : Nat
  hi : Nat
  lo : Nat
deriving DecidableEq, Repr

/-- A queue at reset (LIMIT_US DESIGN CHOICE 10 s, log entry 17; MAX_CELLS R352). -/
def QueueCfg.reset (g : Nat) : QueueCfg :=
  { limitUs := 10000000, maxCells := if g = 54 then 512 else 0, hi := 0, lo := 0 }

/-- A transmission in progress at an Ethernet or link port. -/
structure Sending where
  fid : Nat
  tc : Nat
  /-- The bytes as sent, tags and protection included, without FCS. -/
  bytes : Bytes
  start : Tick
  /-- Its first bit has left. -/
  begun : Bool
  /-- How often it has been pre-empted (R368, R369), and the bytes sent before the current fragment. -/
  fragments : Nat
  sent : Nat
  /-- The key slot of its MACsec protection (R596). -/
  slot : Option Nat
deriving DecidableEq, Repr

/-- A sequence generation function (R374). -/
structure SeqGen where
  next : Nat
  generated : Dword
deriving DecidableEq, Repr

/-- A sequence recovery function (R375). -/
structure Recovery where
  seq : Nat
  /-- Marked numbers, as distances behind `seq`. -/
  history : List Nat
  reset : Bool
  /-- The instant of the last passed frame, where the RESET_MS window begins. -/
  lastPass : Option Tick
  passed : Dword
  discarded : Dword
  rogue : Dword
  lost : Dword
  tagless : Dword
  resets : Dword
deriving DecidableEq, Repr

/-- A recovery function at first: reset. -/
def Recovery.fresh : Recovery :=
  { seq := 0, history := [], reset := true, lastPass := none, passed := 0, discarded := 0,
    rogue := 0, lost := 0, tagless := 0, resets := 0 }

/-- The switch core. -/
structure Switch where
  held : Tab HeldFrame
  nextFid : Nat
  /-- Replicas by queue number 8 × gport + class, in order (R326). -/
  queues : Tab (List Replica)
  queueCfg : Tab QueueCfg
  /-- Accounts by 8 × gport + class. -/
  accounts : Tab Account
  fc : Tab FlowControl
  sending : Tab Sending
  /-- The suspended pre-emptable frame of a port (R369). -/
  suspended : Tab Sending
  /-- Gates by gport (R361-R363). -/
  gates : Tab GateRun
  preemptMask : Tab Nat
  /-- Changes of PREEMPT_CLASSES and CUT_THROUGH_SET waiting for a frame boundary (R381). -/
  preemptNext : Tab Nat
  cutThrough : Tab Bool
  cutNext : Tab Bool
  spillOn : Bool
  spillMib : Nat
  spillBase : Nat
  /-- Cells used in the spill region. -/
  spillUsed : Nat
  seqGens : Tab SeqGen
  recoveries : Tab Recovery
  /-- SEG_ON as commanded, the segments still on, and the cells used in each (R333). -/
  segWanted : Nat
  segOn : Nat
  segUsed : Tab Nat
  /-- Retired cells, by number (R332). -/
  retired : List Nat
  eccCorr : Nat
  /-- Frames the control firmware has taken from CPUP. -/
  cpuIn : List Frame
  /-- Frames waiting in a HOSTP or HOSTS ring for descriptors, oldest first, by ring (R133). -/
  ringIn : Tab (List Nat)
  /-- SAFETY frames admitted and neither sent nor counted as dropped: number and instant (R734). -/
  watched : Tab Tick
deriving DecidableEq, Repr

/-- The switch core at reset (R377). -/
def Switch.reset : Switch :=
  { held := [], nextFid := 0, queues := [], queueCfg := [], accounts := [], fc := [], sending := [],
    suspended := [], gates := [], preemptMask := [], preemptNext := [], cutThrough := [],
    cutNext := [], spillOn := false, spillMib := 0, spillBase := 0, spillUsed := 0, seqGens := [],
    recoveries := [], segWanted := 0xFFFF, segOn := 0xFFFF, segUsed := [], retired := [],
    eccCorr := 0, cpuIn := [], ringIn := [], watched := [] }

end Sys2Proof.Machine
end

