-- ==== Sys2Proof/Machine/TablesState.lean ====
section
/-!
DEFINITION. The state of the tables unit (chapter "Classification and Forwarding Tables"):
generations of generation-bound objects, staging, hash slots, learned entries, aging, the Maquette.
-/
namespace Sys2Proof.Machine

/-- The kinds of generation-bound object (R383, R316, R380, R586). An object is held as the bytes
of the command that sets it, in the manual's own layout. -/
inductive Kind where
  | sieve | portSet | flow | fdb | canExact | canMask | lpm
  | pdu | map | cont | e2e | tpChannel | bind | rewrite | ownAddress
  | repl | seqGen | recovery | prot
deriving DecidableEq, Repr

/-- The number of a kind. -/
def Kind.code : Kind → Nat
  | .sieve => 0 | .portSet => 1 | .flow => 2 | .fdb => 3 | .canExact => 4 | .canMask => 5
  | .lpm => 6 | .pdu => 7 | .map => 8 | .cont => 9 | .e2e => 10 | .tpChannel => 11
  | .bind => 12 | .rewrite => 13 | .ownAddress => 14 | .repl => 15 | .seqGen => 16
  | .recovery => 17 | .prot => 18

/-- The table number of object `i` of a kind. -/
def okey (k : Kind) (i : Nat) : Nat := k.code * 2 ^ 144 + i

/-- The kind number of a table number. -/
def okind (n : Nat) : Nat := n / 2 ^ 144

/-- The index or key of a table number. -/
def oindex (n : Nat) : Nat := n % 2 ^ 144

/-- A live generation (R383, R384). -/
structure Generation where
  num : Nat
  /-- Its commit instant (R387). -/
  commitAt : Tick
  /-- Every defined object, by `okey`. -/
  objs : Tab Bytes
deriving DecidableEq, Repr

/-- What stands in a way of a hashed table (R392, R408). -/
inductive SlotUse where
  /-- A learned FDB entry. -/
  | learned
  /-- A version staged by an owner. -/
  | staged (owner : Nat)
  /-- A version committed; `till` is the first generation that no longer sees it. -/
  | live (till : Option Nat)
deriving DecidableEq, Repr

/-- A way in use. -/
structure Slot where
  key : Nat
  use : SlotUse
deriving DecidableEq, Repr

/-- A learned FDB entry (R410-R417). -/
structure Learned where
  gport : Nat
  stamp : Nat
  locked : Bool
  /-- The learn instant of its learn or last move, where the hold-down window begins. -/
  hold : Tick
  /-- The start of the flap window and the moves counted in it. -/
  flap : Option (Tick × Nat)
deriving DecidableEq, Repr

/-- A learn waiting in the learner's queue (R410). -/
structure Learn where
  key : Nat
  gport : Nat
  at_ : Tick
  /-- The generation whose static entries the sighting meets. -/
  gen : Nat
deriving DecidableEq, Repr

/-- A migration in progress (R421). -/
structure Rehash where
  /-- 0 FDB, 1 CAN exact. -/
  table : Nat
  seed : Nat
  /-- Learns placed under the new seed meanwhile, by position. -/
  placed : Tab Slot
deriving DecidableEq, Repr

/-- The tables unit. -/
structure Tables where
  /-- Live generations, oldest first; the last is current (R390). -/
  gens : List Generation
  /-- Staging by owner 0 to 8: an object set, or deleted (R385). -/
  staging : Tab (Tab (Option Bytes))
  /-- Ways in use by position: choice, bucket and way (R406, R407). -/
  fdbSlots : Tab Slot
  canSlots : Tab Slot
  seedFdb : Nat
  seedCan : Nat
  rehash : Option Rehash
  /-- Learned entries by FDB key. -/
  learned : Tab Learned
  learnQ : List Learn
  /-- The instant of the last LEARN_FAIL (R410). -/
  learnFail : Option Tick
  tickS : Nat
  epochs : Nat
  epoch : Nat
  /-- The start of the current epoch window; `none` while it does not run (R416). -/
  epochStart : Option Tick
  holdMs : Nat
  flapMoves : Nat
  flapWindowS : Nat
  /-- Maquette settings (R436). -/
  maqEnable : Bool
  maqContext : Nat
  maqPeriodMs : Nat
  maqBase : Nat
  maqOwner : Nat
  /-- The start of the current PERIOD_MS window. -/
  maqStart : Tick
  maqStale : Bool
  /-- The pointers of the pipelines' arbiters at the learner and the meters (R21, R412, R446). -/
  learnArb : Nat
  /-- The pointers of the port arbiters of pipelines 0 and 1 (R27). -/
  pipeArb : Nat × Nat
deriving DecidableEq, Repr

/-- The tables at reset (R434). -/
def Tables.reset : Tables :=
  { gens := [], staging := [], fdbSlots := [], canSlots := [], seedFdb := 0xFFFFFFFF,
    seedCan := 0xFFFFFFFF, rehash := none, learned := [], learnQ := [], learnFail := none,
    tickS := 30, epochs := 10, epoch := 0, epochStart := none, holdMs := 1000, flapMoves := 4,
    flapWindowS := 10, maqEnable := false, maqContext := 0, maqPeriodMs := 0, maqBase := 0,
    maqOwner := 0, maqStart := 0, maqStale := false, learnArb := 0, pipeArb := (0, 0) }

end Sys2Proof.Machine
end

