-- ==== Sys2Proof/Machine/TimeState.lean ====
section
/-!
DEFINITION. The state of the time unit (chapter "Time Base, Network Time and Legal Time").
-/
namespace Sys2Proof.Machine

/-- The state of a gPTP domain (R493). -/
inductive DomState where
  | disabled | acquiring | locked | holdover
deriving DecidableEq, Repr

/-- The encoding of R493. -/
def DomState.code : DomState → Nat
  | .disabled => 0 | .acquiring => 1 | .locked => 2 | .holdover => 3

/-- A gPTP domain (R492-R495). Instants and domain times are in units of 2⁻³² ns. -/
structure Domain where
  state : DomState
  /-- The `TIME_DOMAIN_SET` bytes. -/
  raw : Bytes
  /-- A_d, V_d and RR_d. -/
  anchor : Nat
  value : Int
  rr : Int
  /-- The domain has never been LOCKED since its mapping was the identity (R494). -/
  identity : Bool
  /-- Consecutive Syncs with an error of at most LOCK_NS. -/
  good : Nat
  lastSync : Tick
  /-- The offset error of the last Sync in ns. -/
  offset : Int
  /-- The device is grandmaster (R495). -/
  grandmaster : Bool
  /-- The UTC offset in seconds the domain announces, where valid (R510), and a leap announced. -/
  utc : Option Int
  leap : Int
deriving DecidableEq, Repr

/-- A domain at reset: DISABLED, with the identity mapping (R493). -/
def Domain.reset : Domain :=
  { state := .disabled, raw := [], anchor := 0, value := 0, rr := 0, identity := true, good := 0,
    lastSync := 0, offset := 0, grandmaster := false, utc := none, leap := 0 }

/-- A capture input (R517, R518). -/
structure Capture where
  edge : Nat
  event : Bool
  count : Word
  /-- The last 16 captures, newest first: stamp and edge. -/
  history : List (Tick × Nat)
deriving DecidableEq, Repr

/-- A compare output (R519-R522). -/
structure Compare where
  /-- The `TCMP_SET` bytes; none before the first. -/
  raw : Bytes
  /-- The tick of the next edge, and the level it drives. -/
  next : Option (Tick × Bool)
  /-- The start of the current pulse or period, in IT ticks. -/
  start : Tick
  /-- The active level is driven. -/
  active : Bool
deriving DecidableEq, Repr

/-- A motion pulse input (R523). -/
structure Pulse where
  /-- The `MOTION_INPUT_SET` bytes; none before the first. -/
  raw : Bytes
  /-- Edges in the current window, and the first and last of them. -/
  edges : Nat
  first : Tick
  last : Tick
  /-- The last two edges of all. -/
  prev : Option Tick
  latest : Option Tick
deriving DecidableEq, Repr

/-- A PDU-field source (R524). -/
structure FieldSource where
  /-- The `MOTION_SOURCE_SET` bytes; none before the first. -/
  raw : Bytes
  value : Nat
  seen : Option Tick
deriving DecidableEq, Repr

/-- A plausibility pair (R525, R526). -/
structure Pair where
  /-- The `MOTION_PAIR_SET` bytes; none before the first. -/
  raw : Bytes
  episode : Bool
  /-- The run of like results: failing or passing, its length and its first window's start. -/
  failing : Bool
  run : Nat
  runStart : Tick
  /-- The start of the first failing window of the episode. -/
  since : Tick
  /-- The largest deviation seen, in 10⁻⁶ km/h. -/
  maxDev : Nat
deriving DecidableEq, Repr

/-- The time unit. -/
structure TimeUnit where
  domains : Tab Domain
  refMode : Nat
  /-- 0 none, 1 domain 0, 2 domain 1. -/
  ref : Nat
  /-- The four RTC entries, as the `TIME_RTC_SET` bytes. -/
  rtc : Bytes
  /-- The values RATE_ADJ took and when, newest first, as far as R486 looks back. -/
  rateHist : List (Tick × Int)
  /-- Legal time in units of 2⁻³² ns at the IT instant `legalAnchor`, and the slew outstanding. -/
  legal : Nat
  legalAnchor : Nat
  slew : Nat
  valid : Bool
  uncertain : Bool
  /-- DAY_USED in ms and the UTC day it counts in (R511). -/
  dayUsed : Nat
  day : Nat
  /-- The `LEGAL_SOURCE_SET` bytes. -/
  legalCfg : Bytes
  lastCheck : Tick
  /-- The second that an announced leap ends in has been handled for this day. -/
  leapDay : Nat
  captures : Tab Capture
  compares : Tab Compare
  pulses : Tab Pulse
  fields : Tab FieldSource
  pairs : Tab Pair
  /-- The speeds of sources 0 to 3 at the last window's end, in 10⁻⁶ km/h, and whether present. -/
  speeds : List (Nat × Bool)
  /-- The end of the last 100 ms window evaluated. -/
  motionEnd : Tick
  /-- Latches of `TIME_IT_NS` (seconds) and `TIME_LEGAL_LO` (HI) by reader (R490). -/
  secLatch : Tab Nat
  legalLatch : Tab Nat
  /-- Path delay in ns of a gPTP port, shared by both domains (R491). -/
  pathDelay : Tab Nat
deriving DecidableEq, Repr

/-- The time unit at reset (R485, R493, R527; legal defaults R529). -/
def TimeUnit.reset : TimeUnit :=
  { domains := [], refMode := 0, ref := 0, rtc := List.replicate 16 0, rateHist := [],
    legal := 0, legalAnchor := 0, slew := 0, valid := false, uncertain := false,
    dayUsed := 0, day := 0, legalCfg := List.replicate 16 0,
    lastCheck := 0, leapDay := 0, captures := [], compares := [], pulses := [], fields := [],
    pairs := [], speeds := [(0, true), (0, true), (0, false), (0, false)], motionEnd := 0,
    secLatch := [], legalLatch := [], pathDelay := [] }

end Sys2Proof.Machine
end

