-- ==== Sys2Proof/Machine/State.lean ====
section
/-!
DEFINITION. The state of the 9460 as a block of plain data, its queue of waiting commands, the
faults and refusals, and the state right after reset.
-/
namespace Sys2Proof.Machine

/-- Faults. No command of the table ends in one: the manual turns every error of a command into a
status, an event or a dropped access. -/
inductive Fault where
  /-- Raised by no command; it stands so that the type is not empty. Safe. -/
  | none
deriving DecidableEq, Repr

/-- Refusals. -/
inductive Refusal where
  /-- Raised by `exec` for a command without a meaning yet. Safe. -/
  | notModelled (mnemonic : String)
deriving DecidableEq, Repr

/-- The whole machine. -/
structure State where
  /-- Device clock: 2 ns periods since power-on, in every mode. The instants of commands count in it. -/
  clk : Nat
  /-- IT in units of 2⁻³² ns (R484). -/
  it : Nat
  /-- RATE_ADJ (R486). -/
  rateAdj : Int
  /-- The model's own field: the number of the next free value. -/
  free : Nat
  /-- The operating mode (R6). -/
  mode : Mode
  /-- The main domain is out of reset (R611). -/
  mainUp : Bool
  kernel : Kernel
  tables : Tables
  policing : Policing
  ports : Ports
  switch : Switch
  gw : Gateway
  host : HostUnit
  time : TimeUnit
  herax : Herax
  cipher : Cipher
  power : PowerUnit
  sleep : Sleep
  /-- The links by number, 0 and 1. -/
  links : Tab Link
  pair : PairUnit
  safety : Safety
  /-- LPDDR5 is available (R24, R37). -/
  lpddrUp : Bool
  /-- The model's own field: the commands waiting, first in, first out. -/
  pending : List Instr
deriving DecidableEq, Repr

/-- IT's tick number (R487): the internal time every window is judged in. -/
def State.now (s : State) : Tick := s.it / 2 ^ 33

/-- The state right after reset. -/
def State.reset : State :=
  { clk := 0, it := 0, rateAdj := 0, free := 0, mode := .calm, mainUp := false,
    kernel := Kernel.reset, tables := Tables.reset, policing := Policing.reset,
    ports := Ports.reset, switch := Switch.reset, gw := Gateway.reset,
    host := HostUnit.reset, time := TimeUnit.reset, herax := Herax.reset, cipher := Cipher.reset,
    power := PowerUnit.reset, sleep := Sleep.reset, links := [], pair := PairUnit.reset,
    safety := Safety.reset, lpddrUp := false,
    pending := [] }

end Sys2Proof.Machine
end

