-- ==== Sys2Proof/Machine/Ops.lean ====
section
/-!
DEFINITION. The operations every unit shares: time, partners, counters, vectors, event queues
(R86-R101, R110), sticky status bits (R11, R747), the Fault Ledger (R742-R744) and replies (R55-R58).
-/
namespace Sys2Proof.Machine

/-! ### Time -/

/-- TSCLK runs: the main domain is out of reset, in every mode but Calm and Zephyr (R31). -/
def tsclkRuns (s : State) : Bool := s.mainUp && s.mode != .calm && s.mode != .zephyr

/-- What IT gains in one TSCLK tick, in units of 2⁻³² ns: 2 ns plus RATE_ADJ (R484). -/
def itStep (s : State) : Nat := (2 ^ 33 + s.rateAdj).toNat

/-- The state at device clock `t`, which never goes back: IT advances while TSCLK runs (R484). -/
def atTime (t : Tick) (s : State) : State :=
  { s with clk := max s.clk t
           it := if tsclkRuns s then s.it + (t - s.clk) * itStep s else s.it }

/-- What no command and no event of another unit writes: the device clock and the queue, IT (R485), RATE_ADJ
(R486), the mode and whether the main domain is out of reset (R622). They are those of `s0`. -/
def holdBase (s0 s : State) : State :=
  { s with clk := s0.clk, it := s0.it, rateAdj := s0.rateAdj, mode := s0.mode, mainUp := s0.mainUp
           pending := s0.pending }

/-- The tick number of IT when the device clock stood at `c`, not later than now (R487). -/
def stampAt (s : State) (c : Tick) : Tick := (s.it - (s.clk - c) * itStep s) / 2 ^ 33

/-- Ticks in one second. -/
def ticksPerSec : Nat := 500000000

/-- Milliseconds as ticks. -/
def ms (n : Nat) : Tick := n * 500000

/-- Microseconds as ticks. -/
def us (n : Nat) : Tick := n * 500

/-- Nanoseconds as ticks, truncated to the tick at or below (R15). -/
def nsTick (n : Nat) : Tick := n / 2

/-- Whole seconds of an instant. -/
def secOf (t : Tick) : Nat := t / ticksPerSec

/-- Nanoseconds within the second of an instant. -/
def nsOf (t : Tick) : Nat := t % ticksPerSec * 2

/-- An instant lies in the half-open window that begins at `a` and lasts `len` (R14, R16, R17). -/
def inWindow (t a len : Tick) : Bool := decide (a ≤ t) && decide (t < a + len)

/-- An LBIST slot of a pair runs: 0 Pair A, 1 Pair B, 2 Armature (R736). -/
def lbistRuns (n : Nat) (s : State) : Bool := match s.safety.lbistEnd with
  | some e => decide (s.now < e) && (s.safety.lbistNext + 2) % 3 == n
  | none => false

/-! ### Arbiters (R19-R22) -/

/-- The requester granted: the lowest at or above the pointer, else the lowest (R19). `reqs` rises. -/
def arbGrant (ptr : Nat) (reqs : List Nat) : Option Nat :=
  match reqs.find? (fun i => decide (ptr ≤ i)) with
  | some i => some i
  | none => reqs.head?

/-- The pointer after a grant to `i` of `n` requesters (R20). -/
def arbNext (n i : Nat) : Nat := (i + 1) % n

/-! ### Free values -/

/-- Take one free value of `w` bits. -/
def takeFree (w : Nat) (s : State) : BitVec w × State :=
  (Config.freeValue w s.free, { s with free := s.free + 1 })

/-- Take `n` free bytes. -/
def takeFreeBytes (n : Nat) (s : State) : Bytes × State :=
  (Config.freeBytes n s.free, { s with free := s.free + n })

/-! ### Units -/

/-- The gports that exist (R2). -/
def isGport (g : Nat) : Bool := decide (g < 56)

/-- CAN ports (R2). -/
def isCan (g : Nat) : Bool := decide (g < 24)

/-- LIN ports (R2). -/
def isLin (g : Nat) : Bool := decide (24 ≤ g) && decide (g < 32)

/-- 10BASE-T1S ports (R2). -/
def isT1s (g : Nat) : Bool := decide (32 ≤ g) && decide (g < 38)

/-- Multi-gig ports (R2). -/
def isXg (g : Nat) : Bool := decide (38 ≤ g) && decide (g < 42)

/-- Gigabit ports (R2). -/
def isGe (g : Nat) : Bool := decide (42 ≤ g) && decide (g < 50)

/-- Ethernet ports (R2). -/
def isEth (g : Nat) : Bool := decide (32 ≤ g) && decide (g < 50)

/-- Masaton ports (R2). -/
def isLnk (g : Nat) : Bool := g == 50 || g == 51

/-- The gport of HOSTP. -/
def gHostp : Nat := 52

/-- The gport of HOSTS. -/
def gHosts : Nat := 53

/-- The gport of CPUP. -/
def gCpup : Nat := 54

/-- The gport of RECIRC. -/
def gRecirc : Nat := 55

/-- A unit ID of R13 names an existing unit. -/
def unitExists (u : Nat) : Bool :=
  decide (u < 56) || (u % 256 == 0 && decide (0x0100 ≤ u) && decide (u ≤ 0x0B00))

/-- The high byte of a unit ID, its permission class (R51). -/
def unitClass (u : Nat) : Nat := u / 256

/-- The base of a unit's register block (R38). -/
def unitBase (u : Nat) : Nat := 0x0800000000 + u * 0x10000

/-! ### Counters and vectors -/

/-- Increment the 64-bit counter at a register address by `n` (R180). -/
def bumpBy (addr n : Nat) (s : State) : State :=
  { s with kernel.counters := tupd s.kernel.counters 0 addr fun v => v + BitVec.ofNat 64 n }

/-- Increment the 64-bit counter at a register address by one (R180). -/
def bump (addr : Nat) (s : State) : State := bumpBy addr 1 s

/-- A counter's value. -/
def counter (s : State) (addr : Nat) : Dword := tget s.kernel.counters 0 addr

/-- The reply bytes of `n` counters from an address, each 8 bytes. -/
def counterBlock (s : State) (addr n : Nat) : Bytes :=
  (List.range n).flatMap fun i => le 8 (counter s (addr + 8 * i)).toNat

/-- Raise an MSI-X vector (R110). -/
def raiseVec (v : Nat) (s : State) : State :=
  { s with kernel.msix := tupd s.kernel.msix 0 v (· + 1) }

/-! ### Partners -/

/-- Partner `p`. -/
def partner (s : State) (p : Nat) : Partner := tget s.kernel.partners Partner.detached p

/-- The state with partner `p` replaced. -/
def setPartner (p : Nat) (x : Partner) (s : State) : State :=
  { s with kernel.partners := tset s.kernel.partners p x }

/-- The state with partner `p` changed. -/
def updPartner (p : Nat) (f : Partner → Partner) (s : State) : State :=
  setPartner p (f (partner s p)) s

/-- A partner is attached while TRANSPORT is not 0 (R107). -/
def Partner.attached (x : Partner) : Bool := x.transport != 0

/-- The partner holds the CHANGE bit of unit class `n` (R51). -/
def Partner.hasChange (x : Partner) (n : Nat) : Bool := x.perm.getLsbD n

/-- The partner holds the QUERY bit of unit class `n` (R51). -/
def Partner.hasQuery (x : Partner) (n : Nat) : Bool := x.perm.getLsbD (16 + n)

/-- SERVICE (R51). -/
def Partner.service (x : Partner) : Bool := x.perm.getLsbD 28

/-- ADMIN (R51). -/
def Partner.admin (x : Partner) : Bool := x.perm.getLsbD 29

/-- Slots of a partner's rings (R107). -/
def Partner.slots (x : Partner) : Nat := 64 * 2 ^ x.ringLog

/-- The eight partner indices (R47). -/
def partnerIds : List Nat := [0, 1, 2, 3, 4, 5, 6, 7]

/-! ### Event queues -/

/-- H, the records in one half (R92). -/
def EvQueue.half (q : EvQueue) : Nat := 32 * 2 ^ q.halfLog

/-- The unreleased records, WR − REL. -/
def EvQueue.used (q : EvQueue) : Nat := (q.wr - q.rel).toNat

/-- A record may be written at WR (R93). -/
def EvQueue.room (q : EvQueue) : Bool :=
  decide (q.used < 2 * q.half) && (q.wr.toNat % q.half != 0 || decide (q.used ≤ q.half))

/-- The SEQ after `n`: it wraps from 0xFFFF_FFFF to 1 (R88). -/
def nextEventSeq (n : Word) : Word := if n = 0xFFFFFFFF then 1 else n + 1

/-- Write a record at WR, which has room: it takes the next SEQ, is mirrored for a HOSTP partner
(R96), and is signalled as R95 gives. -/
def EvQueue.push (q : EvQueue) (hostp : Bool) (now : Tick) (r : EventRecord) : EvQueue :=
  let seq := nextEventSeq q.lastSeq
  let r := { r with seq := seq }
  let wr' := q.wr + 1
  let slot := q.wr.toNat % (2 * q.half)
  let signals := wr'.toNat % q.half == 0 || q.coalUs == 0 || r.safety
  { q with
    wr := wr'
    lastSeq := seq
    records := q.records ++ [r]
    mirror := if hostp then tset q.mirror slot r else q.mirror
    sig := if signals then wr' else q.sig
    firstUnsig := if signals then none else some (q.firstUnsig.getD now) }

/-- Drop an event for want of room: it uses the SEQ it would have carried (R94). -/
def EvQueue.drop (q : EvQueue) : EvQueue :=
  let seq := nextEventSeq q.lastSeq
  { q with lastSeq := seq, lost := q.lost + 1, firstLost := if q.lost = 0 then seq else q.firstLost }

/-- The EVQ_OVERFLOW record of R94. -/
def overflowRecord (q : EvQueue) (now : Tick) : EventRecord :=
  { typ := 3, unit := 0x0B00, seq := 0, stamp := now, safety := false, ledger := false,
    rewound := false, payload := le 4 q.lost ++ le 4 q.firstLost.toNat ++ zeros 4 }

/-- Raise the vectors of a queue after records were written (R95, R110): vectors serve only HOSTP
partners. -/
def signalVectors (p : Nat) (x : Partner) (before after : EvQueue) (safety : Bool) (s : State) :
    State :=
  if x.transport = 1 then
    let s := if before.sig ≠ after.sig then raiseVec (129 + 8 * p) s else s
    if safety then raiseVec (131 + 8 * p) s else s
  else s

/-- Write an event record to partner `p`'s queue, an EVQ_OVERFLOW before it where events were lost
(R93-R96). -/
def writeEvent (p : Nat) (r : EventRecord) (s : State) : State :=
  let x := partner s p
  let q := x.evq
  let hostp := x.transport == 1
  if !x.attached then s
  else if !q.room then setPartner p { x with evq := q.drop } s
  else if q.lost = 0 then
    let q' := q.push hostp s.now r
    signalVectors p x q q' r.safety (setPartner p { x with evq := q' } s)
  else
    let q1 := { q.push hostp s.now (overflowRecord q s.now) with lost := 0 }
    let x1 := { x with evq := q1, overflows := satAdd 0xFF x.overflows 1 }
    if q1.room then
      let q2 := q1.push hostp s.now r
      signalVectors p x q q2 r.safety (setPartner p { x1 with evq := q2 } s)
    else
      let q2 := q1.drop
      signalVectors p x q q2 false (setPartner p { x1 with evq := q2 } s)

/-- An event record of a unit with 12 payload bytes. -/
def mkEvent (unit typ : Nat) (payload : Bytes) (stamp : Tick) (safety ledger : Bool) : EventRecord :=
  { typ := typ, unit := unit, seq := 0, stamp := stamp, safety := safety, ledger := ledger,
    rewound := false, payload := padTo 12 payload }

/-- A common event (R87) to partner `p`. -/
def commonEvent (p typ : Nat) (payload : Bytes) (s : State) : State :=
  writeEvent p (mkEvent 0x0B00 typ payload s.now false false) s

/-- Partner `x` receives an event of unit `u` (R90). -/
def receives (x : Partner) (u : Nat) (safety : Bool) : Bool :=
  x.attached && ((x.subs.contains u && x.hasQuery (unitClass u)) || (safety && x.hasQuery 0x0A))

/-- Raise an event of a unit at an instant, with its EFLAGS (R90, R93). -/
def raiseFull (unit typ : Nat) (payload : Bytes) (stamp : Tick) (safety ledger : Bool) (s : State) :
    State :=
  partnerIds.foldl
    (fun s p =>
      if receives (partner s p) unit safety then
        writeEvent p (mkEvent unit typ payload stamp safety ledger) s
      else s) s

/-- Raise an event of a unit now. -/
def raiseEvent (unit typ : Nat) (payload : Bytes) (s : State) : State :=
  raiseFull unit typ payload s.now false false s

/-- Raise a SAFETY event of a unit now. -/
def raiseSafety (unit typ : Nat) (payload : Bytes) (s : State) : State :=
  raiseFull unit typ payload s.now true false s

/-! ### The Fault Ledger (R742-R744) -/

/-- Entries of severity 0 and 1 may not use the 32 entries held for severity 2 and 3 (R743). -/
def ledgerRoom (es : List LedgerEntry) (sev : Nat) : Bool :=
  decide (es.length < 256) &&
    (decide (2 ≤ sev) || decide ((es.filter fun e => decide (e.severity < 2)).length < 224))

/-- Remove the oldest entry of severity 0. -/
def dropOldestNote : List LedgerEntry → List LedgerEntry
  | [] => []
  | e :: es => if e.severity = 0 then es else e :: dropOldestNote es

/-- An entry is the one an occurrence repeats (R743); W1C entries are told apart by DETAIL too,
since each names its own bit (R746; DEDUCED, log entry 12). -/
def LedgerEntry.same (e : LedgerEntry) (code unit object : Nat) (detail : Bytes) : Bool :=
  e.code == code && e.unit == unit && e.object == object && (code != 1 || e.detail == detail)

/-- The ID after `n`: it wraps from 0xFFFE to 0 (R742). -/
def nextLedgerId (n : Nat) : Nat := if n = 0xFFFE then 0 else n + 1

/-- The address of a safety counter (R751). -/
def safetyCounter (o : Nat) : Nat := unitBase 0x0A00 + o

/-- SAF_STATUS.LEDGER_FULL (R750). -/
def ledgerFullBit : W1cBit := { addr := unitBase 0x0A00, bit := 1 }

/-- Record an occurrence in the Fault Ledger (R743). -/
def ledgerAdd (code unit object sev : Nat) (w1c : Bool) (detail : Bytes) (s : State) : State :=
  let l := s.kernel.ledger
  let d := padTo 8 detail
  match l.entries.find? (fun e => e.same code unit object d) with
  | some e0 =>
    let es := l.entries.map fun e => if e.id = e0.id then { e with count := satAdd 0xFFFF e.count 1 } else e
    { s with kernel.ledger.entries := es
             kernel.ledger.unpersisted :=
               if l.unpersisted.contains e0.id then l.unpersisted else l.unpersisted ++ [e0.id] }
  | none =>
    let e : LedgerEntry :=
      { id := l.nextId, code := code, unit := unit, object := object, first := s.now,
        severity := sev, persisted := false, restored := false, w1c := w1c, count := 1, detail := d }
    let add (es : List LedgerEntry) : State :=
      bump (safetyCounter 0x0118)
        { s with kernel.ledger.entries := es ++ [e]
                 kernel.ledger.nextId := nextLedgerId l.nextId
                 kernel.ledger.unpersisted := l.unpersisted ++ [e.id] }
    if ledgerRoom l.entries sev then add l.entries
    else if l.entries.any (fun x => x.severity == 0) then add (dropOldestNote l.entries)
    else
      let first := !s.kernel.w1c.contains ledgerFullBit
      let s := bump (safetyCounter 0x0120) s
      let s := if first then raiseVec (192 + 0x0A)
          { s with kernel.w1c := s.kernel.w1c ++ [ledgerFullBit] } else s
      if first then
        raiseSafety 0x0A00 0x0104 (le 4 (counter s (safetyCounter 0x0120)).toNat) s
      else s

/-- Set a W1C bit of unit `u` at register offset `o`: its vector on the rise (R110) and its ledger
entry of CODE 0x0001 and severity 1 (R744, R747). -/
def setW1c (u o b object : Nat) (s : State) : State :=
  let w : W1cBit := { addr := unitBase u + o, bit := b }
  let s := if s.kernel.w1c.contains w then s
    else raiseVec (192 + unitClass u) { s with kernel.w1c := s.kernel.w1c ++ [w] }
  ledgerAdd 0x0001 u object 1 true (le 5 w.addr ++ le 1 b) s

/-- Whether a W1C bit is set. -/
def w1cIs (s : State) (u o b : Nat) : Bool :=
  s.kernel.w1c.contains { addr := unitBase u + o, bit := b }

/-- Clear a W1C bit (R746). -/
def clearW1c (w : W1cBit) (s : State) : State :=
  { s with kernel.w1c := s.kernel.w1c.filter fun x => x != w }

/-! ### The standby role and mirroring (R716, R718-R721, R724) -/

/-- The unit behaves as a standby: every pair state but UNPAIRED, ACTIVE and ISOLATED as active, and an
active that has announced a handover (R716, R718, R724). -/
def standbyRole (s : State) : Bool :=
  match s.pair.st with
  | .unpaired => false
  | .active => s.pair.handover
  | .isolated => !s.pair.wasActive
  | _ => true

/-- A gport is one of SHARED (R715), and this unit treats it as a standby does (R718). -/
def standbyPort (s : State) (g : Nat) : Bool := standbyRole s && decide (g < 50) && bit (leAt s.pair.raw 8 8) g

/-- OPMODE of a CAN port: a standby holds its shared ports in restricted operation (R192, R718). -/
def canMode (s : State) (g : Nat) : Nat :=
  let m := (tget s.ports.can CanPort.reset g).opmode
  if m = 0 ∧ standbyPort s g then 1 else m

/-- A counter of the pairing unit (R751). -/
def pairCtr (o : Nat) : Nat := unitBase 0x0900 + o

/-- The active sends a change as a mirror record to a peer that is READY or takes the copy; without one
it is discarded (R720, R722). -/
def mirror (r : MirrorRec) (s : State) : State :=
  if s.pair.st = .active ∧ (bit s.pair.peerFlags 2 ∨ s.pair.peerState = 1) then
    bump (pairCtr 0x0118) { s with pair.mirrorOut := s.pair.mirrorOut ++ [r]
                                   pair.mirrorSeq := (s.pair.mirrorSeq + 1) % 2 ^ 32 }
  else s

/-- The pair state changes, with PAIR_STATE and its reason (R716, R754). -/
def setPairState (new : PairSt) (reason : Nat) (s : State) : State :=
  if s.pair.st = new then s
  else
    let s' := { s with pair.st := new }
    let s' := if new = .isolated then bump (pairCtr 0x0128) s' else s'
    raiseSafety 0x0900 0x0101 (le 1 s.pair.st.code ++ le 1 new.code ++ le 1 reason) s'

/-- What a paired unit does as it must enter Lee (R729). -/
def pairLee (s : State) : State :=
  match s.pair.st with
  | .active => if bit s.pair.peerFlags 2 then setPairState .failed 6 { s with pair.fail := true } else s
  | .syncing | .standby => setPairState .failed 6 s
  | .isolated => if s.pair.wasActive then s else setPairState .failed 6 s
  | _ => s

/-! ### Lee (R622, R624, R737) -/

/-- The Lee rule governs admission, learning and aging: Lee is in force or being entered (R328, R737). -/
def leeRule (s : State) : Bool := s.mode == .lee || (match s.power.transition with
  | some x => x.target == .lee
  | none => false)

/-- A transition begins (R622). -/
def beginTransition (target : Mode) (cause source p : Nat) (s : State) : State :=
  let x : Transition := { target := target, cause := cause, source := source, started := s.clk, partner := p }
  { s with power.transition := some x }

/-- Armature requests Lee for a cause (R622, R624, R729, R737). -/
def requestLee (cause : Nat) (s : State) : State :=
  if leeRule s then s
  else if s.mode = .gale ∨ s.mode = .breeze ∨ s.mode = .atelier then
    pairLee (beginTransition .lee (if cause = 0xFF then 1 else 5) 0xFF 0 { s with safety.leeCause := cause })
  else s

/-! ### Replies -/

/-- Statuses of R65. -/
def stDone : Nat := 0x0000
def stAccepted : Nat := 0x0001
def stStaged : Nat := 0x0002
def stBadOpcode : Nat := 0x0101
def stBadLength : Nat := 0x0102
def stBadValue : Nat := 0x0103
def stBadUnit : Nat := 0x0104
def stWrongMode : Nat := 0x0105
def stDenied : Nat := 0x0106
def stBusy : Nat := 0x0107
def stNoRoom : Nat := 0x0108
def stCheckFail : Nat := 0x0109
def stStaleGeneration : Nat := 0x010A
def stBadSequence : Nat := 0x010B
def stTxnAborted : Nat := 0x010C
def stKeyRevoked : Nat := 0x0201
def stKeyExhausted : Nat := 0x0202
def stRehashNeeded : Nat := 0x0203
def stPeerAbsent : Nat := 0x0204
def stInternalEcc : Nat := 0x0301
def stInternalTimeout : Nat := 0x0302
def stInternalLockstep : Nat := 0x0303
def stInternalMemory : Nat := 0x0304

/-- The slots a packet with `plen` parameter bytes occupies (R57). -/
def packetSlots (plen : Nat) : Nat := if 4076 < plen then 1 else (20 + plen + 63) / 64

/-- The bytes of a reply, trailer included (R55, R56). -/
def Reply.bytes (r : Reply) : Bytes :=
  let body := [r.version, r.flags] ++ le 2 r.opcode ++ le 2 r.tag.toNat ++ le 2 r.unit.toNat ++
    le 2 r.plen ++ le 2 r.status ++ le 4 r.seq.toNat ++ r.params
  body ++ le 4 (crc32c body).toNat

/-- Free slots of a partner's reply ring (R49). -/
def Partner.replyRoom (x : Partner) : Nat := x.slots - (x.rplTail - x.rplHead).toNat

/-- Put a reply in the ring, or keep it waiting while the ring lacks room (R58, R69). -/
def Partner.putReply (x : Partner) (r : Reply) : Partner :=
  if packetSlots r.params.length ≤ x.replyRoom ∧ x.waiting = [] then
    let tail := x.rplTail + BitVec.ofNat 16 (packetSlots r.params.length)
    { x with rplTail := tail, replies := x.replies ++ [(tail, r)] }
  else { x with waiting := x.waiting ++ [r] }

/-- Write a reply for partner `p` and raise vector 128 + 8p (R58, R110). A 0x03xx status enters the
Fault Ledger (R66). -/
def writeReply (p : Nat) (r : Reply) (s : State) : State :=
  let x := partner s p
  let x' := x.putReply r
  let s := setPartner p x' s
  let s := if x.transport = 1 ∧ x'.waiting = [] then raiseVec (128 + 8 * p) s else s
  if 0x0301 ≤ r.status then
    ledgerAdd 0x0002 0x0B00 p 1 false (le 2 r.opcode ++ le 2 r.status ++ le 1 p) s
  else s

/-- Deliver CMD_COMPLETE with a final status to the issuer of an asynchronous command (R72, R66). -/
def cmdComplete (a : AsyncCmd) (status : Nat) (s : State) : State :=
  let s := { s with kernel.asyncs := s.kernel.asyncs.filter fun b => b != a }
  let s := commonEvent a.partner 1
    (le 2 a.tag.toNat ++ le 2 a.opcode ++ le 2 status ++ zeros 2 ++ le 4 a.seq.toNat) s
  if 0x0301 ≤ status then
    ledgerAdd 0x0002 0x0B00 a.partner 1 false (le 2 a.opcode ++ le 2 status ++ le 1 a.partner) s
  else s

/-- The oldest outstanding asynchronous command with an opcode that meets `f`. -/
def findAsync (opcode : Nat) (f : AsyncCmd → Bool) (s : State) : Option AsyncCmd :=
  s.kernel.asyncs.find? fun a => a.opcode == opcode && f a

/-! ### Queue resets (R101, R114) -/

/-- Raise QUEUE_RESET to partner `p`, count it, and raise vector 130 + 8p (R91, R101). -/
def queueResetEvent (p queue reason discarded first : Nat) (s : State) : State :=
  let at0 := (partner s p).evq.wr
  let s := commonEvent p 2
    (le 1 queue ++ le 1 reason ++ zeros 2 ++ le 4 discarded ++ le 4 first) s
  let s := updPartner p (fun x =>
    { x with resets := satAdd 0xFF x.resets 1
             resetRecs := if x.evq.wr = at0 then x.resetRecs else x.resetRecs ++ [x.evq.wr - 1] }) s
  if (partner s p).transport = 1 then raiseVec (130 + 8 * p) s else s

/-- Reset partner `p`'s command queue: posted slots are discarded unexecuted, unread replies are
discarded, and any SEQ may follow (R101). -/
def resetCmdQueue (p reason : Nat) (s : State) : State :=
  let x := partner s p
  let n := (x.reqTail - x.reqHead).toNat
  let x' := { x with reqHead := x.reqTail, seqAny := true, rplHead := x.rplTail, replies := [],
                     waiting := [] }
  queueResetEvent p 0 reason n x.reqHead.toNat (setPartner p x' s)

/-- Reset partner `p`'s event queue: RD, MARK and REL move to WR (R101). -/
def resetEvQueue (p reason : Nat) (s : State) : State :=
  let x := partner s p
  let q := x.evq
  let first := match q.records with
    | [] => 0
    | r :: _ => r.seq.toNat
  let q' := { q with rd := q.wr, mark := q.wr, rel := q.wr, records := [], sig := q.wr,
                     firstUnsig := none }
  queueResetEvent p 1 reason q.used first (setPartner p { x with evq := q', resetRecs := [] } s)

/-- Abort partner `p`'s open transaction and say so (R82, R114). -/
def abortTxn (p reason : Nat) (s : State) : State :=
  match (partner s p).txn with
  | none => s
  | some t =>
    commonEvent p 4 (le 2 t.id ++ le 2 reason) (updPartner p (fun x => { x with txn := none }) s)

end Sys2Proof.Machine
end

