-- ==== Sys2Proof/Machine/Operands.lean ====
section
/-!
DEFINITION. The operands of a Sprinaz command: its parameter fields, the range checks of step 9 and
the conditions of step 10 (R62, R783-R785), and the specification record each opcode fills.
-/
namespace Sys2Proof.Machine

/-- A command as a meaning sees it: issuer, unit, header echoes and parameter area. -/
structure Ctx where
  p : Nat
  unit : Nat
  opcode : Nat
  tag : Half
  seq : Word
  ps : Bytes
deriving DecidableEq, Repr

/-- Parameter fields by offset (R9). -/
def Ctx.u8 (c : Ctx) (o : Nat) : Nat := byteAt c.ps o
def Ctx.u16 (c : Ctx) (o : Nat) : Nat := leAt c.ps o 2
def Ctx.u24 (c : Ctx) (o : Nat) : Nat := leAt c.ps o 3
def Ctx.u32 (c : Ctx) (o : Nat) : Nat := leAt c.ps o 4
def Ctx.u48 (c : Ctx) (o : Nat) : Nat := leAt c.ps o 6
def Ctx.u64 (c : Ctx) (o : Nat) : Nat := leAt c.ps o 8

/-- `n` parameter bytes from offset `o`. -/
def Ctx.raw (c : Ctx) (o n : Nat) : Bytes := slice c.ps o n

/-- A rejection: its status and, for BAD_VALUE, PARAM_OFFSET (R64). -/
structure Reject where
  status : Nat
  off : Nat := 0
deriving DecidableEq, Repr

/-- The outcome of a check: nothing, or the rejection. -/
abbrev Check := Option Reject

/-- The first check of a list that fails. -/
def firstOf : List Check → Check
  | [] => none
  | none :: cs => firstOf cs
  | some r :: _ => some r

/-- A condition, with the status of its failure. -/
def need (ok : Bool) (status : Nat) : Check := if ok then none else some { status := status }

/-- A range, with the offset of the field for BAD_VALUE. -/
def range (ok : Bool) (off : Nat) : Check :=
  if ok then none else some { status := stBadValue, off := off }

/-- A field that must be zero. -/
def Ctx.zero (c : Ctx) (o n : Nat) : Check := range (zeroAt c.ps o n) o

/-- The number in `n` parameter bytes from offset `o`. -/
def Ctx.num (c : Ctx) (o n : Nat) : Nat := leAt c.ps o n

/-- A field of `n` bytes is at most `hi`. -/
def Ctx.upto (c : Ctx) (o n hi : Nat) : Check := range (decide (c.num o n ≤ hi)) o

/-- A field of `n` bytes lies in a range. -/
def Ctx.btw (c : Ctx) (o n lo hi : Nat) : Check :=
  range (decide (lo ≤ c.num o n) && decide (c.num o n ≤ hi)) o

/-- A field of `n` bytes lies in a range, or is 0 for its default (R785). -/
def Ctx.btw0 (c : Ctx) (o n lo hi : Nat) : Check :=
  range (c.num o n == 0 || (decide (lo ≤ c.num o n) && decide (c.num o n ≤ hi))) o

/-- A gport named in a field: 56 to 63 is BAD_UNIT (R4), any other outside the range BAD_VALUE. -/
def gportIn (g lo hi off : Nat) : Check :=
  if decide (56 ≤ g) && decide (g ≤ 63) then some { status := stBadUnit }
  else range (decide (lo ≤ g) && decide (g ≤ hi)) off

/-- A one-byte gport parameter within a range. -/
def Ctx.gport (c : Ctx) (o lo hi : Nat) : Check := gportIn (c.u8 o) lo hi o

/-- DEST_KIND at offset `ko`, at most `top`, and DEST at `d` (R400, R423). -/
def Ctx.dest (c : Ctx) (ko d top : Nat) : Check :=
  firstOf
    [ c.upto ko 1 top,
      if c.u8 ko = 0 then gportIn (c.u16 d) 0 55 d
      else if c.u8 ko = 1 then c.upto d 2 4095 else none ]

/-- GW_REF (R241): bits [27:16] are zero. A reserved KIND is taken: its frames are dropped at RECIRC (R242). -/
def Ctx.gwRef (c : Ctx) (o : Nat) : Check :=
  range (bits (c.u32 o) 27 16 == 0) o

/-- A number within bounds. -/
def within (v lo hi : Nat) : Bool := decide (lo ≤ v) && decide (v ≤ hi)

/-- The value 0 selects the default of a field whose range excludes 0 (R785). -/
def orDefault (v d : Nat) : Nat := if v = 0 then d else v

/-- A field in its range, or 0 for its default (R785). -/
def withinOr0 (v lo hi : Nat) : Bool := v == 0 || within v lo hi

/-- An opcode (R62, R784). -/
structure CmdSpec where
  opcode : Nat
  /-- Class C; otherwise class Q. -/
  change : Bool
  /-- Whether the class bit of UNIT is required (R52). -/
  masked : Bool := true
  admin : Bool := false
  service : Bool := false
  /-- The modes, where the chapter lists its own; otherwise as R85. -/
  modes : Option (List Mode) := none
  async : Bool := false
  /-- The units the opcode is defined for, beyond its high byte (R84). -/
  units : Nat → Bool := fun _ => true
  /-- Step 8: PLEN as a function of the parameters (R784). -/
  len : Bytes → Bool
  /-- Step 9. -/
  values : Ctx → State → Check := fun _ _ => none
  /-- Step 10. -/
  conds : Ctx → State → Check := fun _ _ => none
  /-- The effect, and the reply parameters. -/
  apply : Ctx → State → State × Bytes
  /-- What a rejection leaves beside its reply: status bits and records that record it (R67). -/
  onReject : Ctx → Reject → State → State := fun _ _ s => s

/-- PLEN is `n`. -/
def lenIs (n : Nat) (ps : Bytes) : Bool := ps.length == n

/-- An effect without reply parameters. -/
def quiet (f : Ctx → State → State) : Ctx → State → State × Bytes := fun c s => (f c s, [])

/-- A query: reply parameters only. -/
def answer (f : Ctx → State → Bytes) : Ctx → State → State × Bytes := fun c s => (s, f c s)

/-- The modes in which an opcode is accepted (R85). -/
def CmdSpec.inMode (o : CmdSpec) (m : Mode) : Bool :=
  match o.modes with
  | some l => l.contains m
  | none =>
    if o.change then m == .breeze || m == .gale || m == .atelier
    else m == .breeze || m == .gale || m == .lee || m == .atelier

/-- A standby treats the CHANGE bits of units 0x0100 to 0x0400 and 0x0600 as clear (R719). -/
def standbyMasks (s : State) (unit : Nat) : Bool := standbyRole s && [1, 2, 3, 4, 6].contains (unitClass unit)

/-- Step 6 (R52, R719): the issuer holds what the Class column requires. -/
def CmdSpec.permits (o : CmdSpec) (s : State) (x : Partner) (unit : Nat) : Bool :=
  (!o.masked || (if o.change then x.hasChange (unitClass unit) && !standbyMasks s unit else x.hasQuery (unitClass unit))) &&
    (!o.admin || x.admin) && (!o.service || x.service)

/-- The opcodes the recovery service serves (R639). -/
def recoveryOps : List Nat := [0x0B01, 0x0B02, 0x0601, 0x0710, 0x0711, 0x0712, 0x0716, 0x0707]

/-- Step 7: the mode accepts the opcode; the recovery service accepts only its own (R85, R639). -/
def CmdSpec.accepted (o : CmdSpec) (s : State) : Bool :=
  if s.power.recovery then recoveryOps.contains o.opcode else o.inMode s.mode

/-- Steps 4 to 9 of R62. -/
def CmdSpec.early (o : CmdSpec) (c : Ctx) (s : State) : Check :=
  firstOf
    [ need (unitExists c.unit) stBadUnit,
      need (unitClass o.opcode == unitClass c.unit && o.units c.unit) stBadOpcode,
      need (o.permits s (partner s c.p) c.unit) stDenied,
      need (o.accepted s) stWrongMode,
      need (c.ps.length % 4 == 0 && o.len c.ps) stBadLength,
      o.values c s ]

/-- Steps 4 to 10 of R62, the unit's own conditions last (R783). -/
def CmdSpec.check (o : CmdSpec) (c : Ctx) (s : State) : Check :=
  match o.early c s with
  | some r => some r
  | none => o.conds c s

end Sys2Proof.Machine
end

