-- ==== Sys2Proof/Machine/TablesOps.lean ====
section
/-!
DEFINITION. Operations of the tables unit: generations and staging (R383-R394), hashed insertion
(R406-R408), the Sieve (R395-R397), the flow entry (R400-R403), forwarding lookups (R404, R405,
R424-R429), learning, moves and aging (R409-R420).
-/
namespace Sys2Proof.Machine

/-- The address of a tables counter (R435). -/
def tblCtr (o : Nat) : Nat := unitBase 0x0200 + o

/-! ### Generations -/

/-- The current generation (R384). -/
def currentGen (s : State) : Option Generation := s.tables.gens.getLast?

/-- TBL_GEN: the current generation's number, 0 before the first (R434). -/
def currentNum (s : State) : Nat := match currentGen s with
  | some g => g.num
  | none => 0

/-- The objects of the current generation. -/
def currentObjs (s : State) : Tab Bytes := match currentGen s with
  | some g => g.objs
  | none => []

/-- The objects of a live generation by number (R29). -/
def genObjs (s : State) (n : Nat) : Tab Bytes :=
  match s.tables.gens.find? (fun g => g.num == n) with
  | some g => g.objs
  | none => []

/-- An object of a live generation. -/
def genObj (s : State) (n : Nat) (k : Kind) (i : Nat) : Option Bytes :=
  tget? (genObjs s n) (okey k i)

/-- An object of the current generation. -/
def curObj (s : State) (k : Kind) (i : Nat) : Option Bytes := tget? (currentObjs s) (okey k i)

/-- The staging of an owner (R385). -/
def stagingOf (s : State) (o : Nat) : Tab (Option Bytes) := tget s.tables.staging [] o

/-- An object as it stands in the current generation with an owner's staging applied. -/
def stagedObj (s : State) (o : Nat) (k : Kind) (i : Nat) : Option Bytes :=
  match tget? (stagingOf s o) (okey k i) with
  | some v => v
  | none => curObj s k i

/-- Another partner's staging already changes this object (R386; Pair B, owner 8, is excepted). -/
def heldByOther (s : State) (o : Nat) (k : Kind) (i : Nat) : Bool :=
  s.tables.staging.any fun e => e.1 != o && e.1 != 8 && thas e.2 (okey k i)

/-- Put a change into an owner's staging; the last change of an object counts (R386). -/
def stage (o : Nat) (k : Kind) (i : Nat) (v : Option Bytes) (s : State) : State :=
  { s with tables.staging := tset s.tables.staging o (tset (stagingOf s o) (okey k i) v) }

/-- The keys of one kind that are changed in staging or still hold a live previous version (R393). -/
def versionedKeys (s : State) (k : Kind) : List Nat :=
  let staged := s.tables.staging.flatMap fun e => e.2.map fun c => c.1
  let cur := currentObjs s
  let old := s.tables.gens.dropLast.flatMap fun g =>
    ((g.objs.map fun c => c.1) ++ (cur.map fun c => c.1)).filter fun n => tget? g.objs n != tget? cur n
  ((staged ++ old).filter fun n => okind n == k.code).eraseDups

/-- The 4,096-index limit of an indexed table (R393). -/
def indexRoom (s : State) (k : Kind) (i : Nat) : Bool :=
  let ks := versionedKeys s k
  ks.contains (okey k i) || decide (ks.length < 4096)

/-- The checks every staging command of an indexed table shares (R386, R393). -/
def stageCheck (o : Nat) (k : Kind) (i : Nat) (s : State) : Check :=
  firstOf [need (!heldByOther s o k i) stBusy, need (indexRoom s k i) stNoRoom]

/-! ### Hashed tables (R406-R408) -/

/-- The key bytes of an FDB entry: 6 MAC bytes in wire order, then FID little-endian (R406). -/
def fdbKeyBytes (key : Nat) : Bytes := be 6 (key % 2 ^ 48) ++ le 2 (key / 2 ^ 48)

/-- The FDB key of a MAC address and a FID. -/
def fdbKey (mac fid : Nat) : Nat := fid * 2 ^ 48 + mac

/-- The key bytes of a CAN exact entry: the gport, then identifier and IDE (R407). -/
def canKeyBytes (key : Nat) : Bytes := le 1 (key / 2 ^ 30) ++ le 4 (key % 2 ^ 30)

/-- The CAN exact key of a gport and an ID word (identifier in [28:0], IDE in [29]). -/
def canKey (g word : Nat) : Nat := g * 2 ^ 30 + word

/-- A hashed table: buckets per choice and key bytes. -/
structure HashShape where
  buckets : Nat
  bytes : Nat → Bytes

/-- The FDB's shape. -/
def fdbShape : HashShape := { buckets := 8192, bytes := fdbKeyBytes }

/-- The CAN exact table's shape. -/
def canShape : HashShape := { buckets := 4096, bytes := canKeyBytes }

/-- V of a key: the CRC-32C with initial value SEED (R406). -/
def hashV (h : HashShape) (seed key : Nat) : Nat :=
  crcReflected 0x82F63B78 seed 0xFFFFFFFF (h.bytes key)

/-- The bucket of a key in a choice (R406, R407). -/
def bucketOf (h : HashShape) (seed key choice : Nat) : Nat :=
  let v := hashV h seed key
  if choice = 0 then v % h.buckets else v / h.buckets % h.buckets

/-- The position of a way. -/
def slotPos (h : HashShape) (choice bucket way : Nat) : Nat :=
  choice * (h.buckets * 4) + bucket * 4 + way

/-- The free positions of a key's bucket in a choice, in way order. -/
def freeIn (h : HashShape) (seed : Nat) (m : Tab Slot) (key choice : Nat) : List Nat :=
  ([0, 1, 2, 3].map (slotPos h choice (bucketOf h seed key choice))).filter fun n => !thas m n

/-- The residents of a key's bucket in a choice, in way order: position and slot. -/
def residents (h : HashShape) (seed : Nat) (m : Tab Slot) (key choice : Nat) :
    List (Nat × Slot × Nat) :=
  ([0, 1, 2, 3].map (slotPos h choice (bucketOf h seed key choice))).filterMap fun n =>
    (tget? m n).map fun x => (n, x, choice)

/-- Insertion into a hashed table (R408); `none` where a rehash is needed. -/
def hashInsert (h : HashShape) (seed : Nat) (m : Tab Slot) (x : Slot) : Option (Tab Slot) :=
  let f0 := freeIn h seed m x.key 0
  let f1 := freeIn h seed m x.key 1
  match f0, f1 with
  | a :: _, _ =>
    if f0.length < f1.length then
      match f1 with
      | b :: _ => some (tset m b x)
      | [] => some (tset m a x)
    else some (tset m a x)
  | [], b :: _ => some (tset m b x)
  | [], [] =>
    let rs := residents h seed m x.key 0 ++ residents h seed m x.key 1
    match rs.find? (fun r => !(freeIn h seed m r.2.1.key (1 - r.2.2)).isEmpty) with
    | some (n, r, c) =>
      match freeIn h seed m r.key (1 - c) with
      | a :: _ => some (tset (tset m a r) n x)
      | [] => none
    | none => none

/-- The slot that holds a use of a key, if any. -/
def slotOf (m : Tab Slot) (key : Nat) (u : SlotUse) : Option Nat :=
  (m.find? fun e => e.2.key == key && e.2.use == u).map fun e => e.1

/-- Free the slot of a use of a key. -/
def freeSlot (m : Tab Slot) (key : Nat) (u : SlotUse) : Tab Slot :=
  m.filter fun e => !(e.2.key == key && e.2.use == u)

/-- The slots of the FDB or of the CAN exact table, by kind. -/
def slotsOf (s : State) (k : Kind) : Tab Slot :=
  if k = .fdb then s.tables.fdbSlots else s.tables.canSlots

/-- Replace them. -/
def setSlots (k : Kind) (m : Tab Slot) (s : State) : State :=
  if k = .fdb then { s with tables.fdbSlots := m } else { s with tables.canSlots := m }

/-- Shape and seed of a hashed kind. -/
def shapeOf (k : Kind) : HashShape := if k = .fdb then fdbShape else canShape
def seedOf (s : State) (k : Kind) : Nat := if k = .fdb then s.tables.seedFdb else s.tables.seedCan

/-- A migration of this kind's table is running (R421). -/
def rehashing (s : State) (k : Kind) : Bool := match s.tables.rehash with
  | some r => r.table == (if k = .fdb then 0 else 1)
  | none => false

/-- The slots with a way taken for an owner's staged version of a key (R392): its own way is used
again where the owner already staged the key. -/
def staticInsert (s : State) (o : Nat) (k : Kind) (key : Nat) : Option (Tab Slot) :=
  let m := slotsOf s k
  match slotOf m key (.staged o) with
  | some _ => some m
  | none => hashInsert (shapeOf k) (seedOf s k) m { key := key, use := .staged o }

/-- Stage an add or change of a hashed entry, with its way. -/
def stageHashed (o : Nat) (k : Kind) (key : Nat) (v : Bytes) (s : State) : State :=
  match staticInsert s o k key with
  | some m => stage o k key (some v) (setSlots k m s)
  | none => s

/-- Stage a deletion of a hashed entry: a version this owner had staged gives its way back. -/
def stageHashedDelete (o : Nat) (k : Kind) (key : Nat) (s : State) : State :=
  stage o k key none (setSlots k (freeSlot (slotsOf s k) key (.staged o)) s)

/-- A way after the commit of generation `g` by owner `o`, whose staging is `c`. -/
def commitSlot (g o : Nat) (k : Kind) (c : Tab (Option Bytes)) (x : Slot) : Slot :=
  match x.use with
  | .staged w => if w = o then { x with use := .live none } else x
  | .live none => if thas c (okey k x.key) then { x with use := .live (some g) } else x
  | _ => x

/-- Free the ways whose last seeing generation has retired (R392). -/
def pruneSlots (gens : List Generation) (m : Tab Slot) : Tab Slot :=
  m.filter fun e => match e.2.use with
    | .live (some g) => match gens with
      | [] => false
      | h :: r => h.num != g && r.any fun x => x.num == g
    | _ => true

/-- The next generation number: it wraps from 0xFFFF_FFFF to 1 (R384). -/
def nextGenNum (n : Nat) : Nat := if 0xFFFFFFFF ≤ n then 1 else n + 1

/-- Apply a staging to a set of objects. -/
def applyStaging (objs : Tab Bytes) (c : Tab (Option Bytes)) : Tab Bytes :=
  c.foldl (fun m e => match e.2 with
    | some v => tset m e.1 v
    | none => tdel m e.1) objs

/-- The commit of an owner's staging as generation `g` (R387, R411, R721), without what the gateway
adds to it. -/
def commitTables (g o : Nat) (s : State) : State :=
  let c := stagingOf s o
  let gen : Generation := { num := g, commitAt := s.now, objs := applyStaging (currentObjs s) c }
  let added (key : Nat) : Bool := match tget? c (okey .fdb key) with
    | some (some _) => true
    | _ => false
  let t := s.tables
  let s := { s with
    tables.gens := t.gens ++ [gen]
    tables.staging := tdel t.staging o
    tables.fdbSlots := (tmap t.fdbSlots fun _ x => commitSlot g o .fdb c x).filter
      fun e => !(e.2.use == SlotUse.learned && added e.2.key)
    tables.canSlots := tmap t.canSlots fun _ x => commitSlot g o .canExact c x
    tables.learned := tfilter t.learned fun k _ => !added k }
  let s := mirror (.commit g c) s
  raiseEvent 0x0200 0x0103 (le 4 g ++ le 1 o ++ zeros 3 ++ le 4 c.length) (bump (tblCtr 0x0190) s)

/-- Drop an owner's staging with the ways it held (R394). -/
def dropStaging (o : Nat) (s : State) : State :=
  let keep (m : Tab Slot) : Tab Slot := m.filter fun e => e.2.use != SlotUse.staged o
  { s with tables.staging := tdel s.tables.staging o
           tables.fdbSlots := keep s.tables.fdbSlots
           tables.canSlots := keep s.tables.canSlots }

/-- A generation retires (R390). -/
def retireGen (n : Nat) (s : State) : State :=
  let gens := s.tables.gens.filter fun g => g.num != n
  { s with tables.gens := gens
           tables.fdbSlots := pruneSlots gens s.tables.fdbSlots
           tables.canSlots := pruneSlots gens s.tables.canSlots }

/-! ### The flow entry (R400-R403) -/

/-- A flow entry's fields. -/
structure FlowEntry where
  tc : Nat
  safety : Bool
  learn : Bool
  cadence : Bool
  lookup : Nat
  destKind : Nat
  dest : Nat
  gwRef : Nat
  fid : Nat
  ring : Nat
  policer : Nat
  filter : Nat
  protIn : Nat
  protOut : Nat
  frerGen : Nat
  frerRec : Nat
deriving DecidableEq, Repr

/-- The undefined entry's 32 bytes (R403). -/
def undefinedFlow : Bytes :=
  [0, 0, 0, 0, 0, 2] ++ zeros 10 ++ [0xFF, 0xFF, 0xFF, 0xFF, 0xFF, 0xFF, 0xFF, 0xFF] ++ zeros 8

/-- The fields of R400. -/
def readFlow (b : Bytes) : FlowEntry :=
  { tc := byteAt b 2 % 8, safety := bit (byteAt b 3) 0, learn := bit (byteAt b 3) 1,
    cadence := bit (byteAt b 3) 2, lookup := byteAt b 4, destKind := byteAt b 5,
    dest := leAt b 6 2, gwRef := leAt b 8 4, fid := leAt b 0x0C 2, ring := byteAt b 0x0E,
    policer := leAt b 0x10 2, filter := leAt b 0x12 2, protIn := leAt b 0x14 2,
    protOut := leAt b 0x16 2, frerGen := leAt b 0x18 2, frerRec := leAt b 0x1A 2 }

/-- The bytes of a flow entry of a generation, the undefined entry where none is set (R403). -/
def flowBytes (s : State) (gen f : Nat) : Bytes := (genObj s gen .flow f).getD undefinedFlow

/-- A flow entry of a generation. -/
def flowEntry (s : State) (gen f : Nat) : FlowEntry := readFlow (flowBytes s gen f)

/-- A frame's flow entry, in its tagged generation (R25, R29). -/
def frameFlow (s : State) (f : Frame) : FlowEntry := flowEntry s f.gen f.flow

/-- A flow of the current generation carries SAFETY. -/
def flowSafety (s : State) (f : Nat) : Bool := (flowEntry s (currentNum s) f).safety

/-- A destination from DEST_KIND and DEST (R400). -/
def destOf (kind dest : Nat) : Dest :=
  if kind = 0 then .port dest else if kind = 1 then .set dest else .drop

/-! ### The Sieve (R395-R397) -/

/-- An Ethernet frame as the parser sees it. -/
structure EthView where
  da : Nat
  sa : Nat
  tagged : Bool
  vid : Nat
  pcp : Nat
  dei : Nat
  etype : Nat
  /-- The offset after the last EtherType. -/
  off : Nat
deriving DecidableEq, Repr

/-- A VLAN tag protocol identifier of IEEE 802.1Q (PRESUMED, log entry 14). -/
def isTpid (e : Nat) : Bool := e == 0x8100 || e == 0x88A8

/-- The offset of the EtherType after the VLAN tags from offset `o`. -/
def skipTags (d : Bytes) : Nat → Nat → Nat
  | 0, o => o
  | n + 1, o => if isTpid (beAt d o 2) then skipTags d n (o + 4) else o

/-- Parse an Ethernet frame; an untagged one takes PVID and PCP 0 (R396). -/
def ethView (d : Bytes) (pvid : Nat) : EthView :=
  let tagged := isTpid (beAt d 12 2)
  let tci := beAt d 14 2
  let eo := skipTags d 8 12
  { da := beAt d 0 6, sa := beAt d 6 6, tagged := tagged,
    vid := if tagged then tci % 4096 else pvid,
    pcp := if tagged then tci / 8192 else 0,
    dei := if tagged then tci / 4096 % 2 else 0,
    etype := beAt d eo 2, off := eo + 2 }

/-- A key field in bits [hi:lo]. -/
def keyField (v hi lo : Nat) : Nat := v % 2 ^ (hi + 1 - lo) * 2 ^ lo

/-- The port settings of a gport: KEYSEL, DEFAULT_FLOW, PVID (R403). -/
def portSettings (objs : Tab Bytes) (g : Nat) : Nat × Nat × Nat :=
  match tget? objs (okey .portSet g) with
  | some b => (byteAt b 1, leAt b 2 2, leAt b 4 2)
  | none => (0, 0, 1)

/-- The port numbers of a TCP or UDP header at an offset (R396). -/
def l4Ports (d : Bytes) (o proto : Nat) (first : Bool) : Nat × Nat :=
  if (proto == 6 || proto == 17) && first then (beAt d o 2, beAt d (o + 2) 2) else (0, 0)

/-- The fields of an Ethernet key, below bit 304, and its type (R395, R396). -/
def ethKey (d : Bytes) (v : EthView) (keysel : Nat) : Nat × Nat :=
  let o := v.off
  if keysel = 0 ∧ v.etype = 0x0800 then
    let ihl := byteAt d o % 16 * 4
    let proto := byteAt d (o + 9)
    let ports := l4Ports d (o + ihl) proto (beAt d (o + 6) 2 % 8192 == 0)
    (1, keyField v.da 303 256 + keyField v.vid 255 244 + keyField v.pcp 243 241 +
      keyField (byteAt d (o + 1) / 4) 240 235 + keyField proto 234 227 +
      keyField (beAt d (o + 12) 4) 226 195 + keyField (beAt d (o + 16) 4) 194 163 +
      keyField ports.1 162 147 + keyField ports.2 146 131)
  else if keysel = 0 ∧ v.etype = 0x86DD then
    let nh := byteAt d (o + 6)
    let ports := l4Ports d (o + 40) nh true
    (2, keyField (beAt d (o + 24) 16) 303 176 + keyField (beAt d (o + 8) 16) 175 48 +
      keyField nh 47 40 + keyField (beAt d o 2 / 16) 39 32 + keyField ports.1 31 16 +
      keyField ports.2 15 0)
  else if keysel = 0 ∧ v.etype = 0x22F0 then
    (3, keyField v.da 303 256 + keyField v.vid 255 244 + keyField v.pcp 243 241 +
      keyField (byteAt d o) 240 233 + keyField (beAt d (o + 4) 8) 232 169)
  else
    (0, keyField v.da 303 256 + keyField v.sa 255 208 + keyField v.vid 207 196 +
      keyField v.pcp 195 193 + keyField v.dei 192 192 + keyField v.etype 191 176 +
      keyField (beAt d o 4) 175 144)

/-- The fields of a CAN or LIN key, below bit 304 (R396). -/
def busKey (c : CanFrame) : Nat :=
  keyField c.id 303 275 + keyField (b2n c.ide) 274 274 + keyField c.fmt 273 272 +
    keyField c.dlen 271 260 + keyField c.sdt 259 252 + keyField c.vcid 251 244 +
    keyField c.af 243 212 + keyField (beAt c.data 0 8) 211 148

/-- The 320-bit Sieve key of a frame (R395, R396). -/
def sieveKey (objs : Tab Bytes) (f : Frame) : Nat :=
  let g := keyField f.ingress 319 314
  match f.bus with
  | some c => g + keyField 4 313 310 + busKey c
  | none =>
    let ps := portSettings objs f.ingress
    let v := ethView f.data ps.2.2
    let k := ethKey f.data v ps.1
    g + keyField k.1 313 310 + keyField (b2n v.tagged) 309 309 + k.2

/-- The key type of a frame (R395). -/
def keyType (objs : Tab Bytes) (f : Frame) : Nat := bits (sieveKey objs f) 313 310

/-- An enabled rule matches a key (R397). -/
def ruleMatches (r : Bytes) (key : Nat) : Bool :=
  byteAt r 2 % 2 == 1 && ((key ^^^ leAt r 4 40) &&& leAt r 44 40) == 0

/-- The flow a frame takes, and whether by default (R397). -/
def sieveFlow (objs : Tab Bytes) (f : Frame) : Nat × Bool :=
  let key := sieveKey objs f
  match objs.find? (fun e => okind e.1 == Kind.sieve.code && ruleMatches e.2 key) with
  | some e => (leAt e.2 84 2, false)
  | none => ((portSettings objs f.ingress).2.1, true)

/-- Classification: the generation tag, the flow and its class (R25, R29, R397). -/
def classify (f : Frame) (s : State) : Frame × State :=
  let n := currentNum s
  let (fl, dflt) := sieveFlow (currentObjs s) f
  let e := flowEntry s n fl
  ({ f with gen := n, flow := fl, tc := e.tc, gwRef := e.gwRef },
    if dflt then bump (tblCtr 0x0100) s else s)

/-- Classification in a given generation, for a frame that re-enters with its tag (R30). -/
def classifyIn (n : Nat) (f : Frame) (s : State) : Frame × State :=
  let (fl, dflt) := sieveFlow (genObjs s n) f
  let e := flowEntry s n fl
  ({ f with gen := n, flow := fl, tc := e.tc, gwRef := e.gwRef },
    if dflt then bump (tblCtr 0x0100) s else s)

/-! ### Forwarding lookups (R404-R405, R424-R429) -/

/-- The FID of a frame: the flow's, or the outer VID or PVID (R400). -/
def frameFid (objs : Tab Bytes) (fl : FlowEntry) (f : Frame) : Nat :=
  if fl.fid ≠ 0 then fl.fid
  else
    let pvid := (portSettings objs f.ingress).2.2
    let v := ethView f.data pvid
    if v.vid = 0 then pvid else v.vid

/-- Refresh the Patina stamp of a learned entry (R416). -/
def refresh (key : Nat) (s : State) : State :=
  match tget? s.tables.learned key with
  | some l => { s with tables.learned := tset s.tables.learned key { l with stamp := s.tables.epoch } }
  | none => s

/-- The FDB's memory, bank 9, is on (R619, R649). -/
def fdbOn (s : State) : Bool := tget s.power.bankSet 2 9 == 2 || s.mode == .breeze || s.mode == .lee

/-- The FDB entry of a key: static in a generation, else learned, which does not hit in Lee (R404,
R737), nor while its memory is not on (R619). -/
def fdbFind (s : State) (objs : Tab Bytes) (key : Nat) : Option Dest :=
  match tget? objs (okey .fdb key) with
  | some b => some (destOf (byteAt b 8) (leAt b 10 2))
  | none =>
    if leeRule s || !fdbOn s then none
    else (tget? s.tables.learned key).map fun l => .port l.gport

/-- The address a binding's object holds, after the bytes of `J1939_BIND`: 0xFE while its NAME holds none
(R288, R289). -/
def bindAddr (o : Option Bytes) : Nat := match o with
  | some b => byteAt b 12
  | none => 0xFE

/-- A binding holds an address in a generation. -/
def bindingHeld (objs : Tab Bytes) (b : Nat) : Bool := bindAddr (tget? objs (okey .bind b)) != 0xFE

/-- A CAN exact entry matches frames: every binding it names holds an address (R424). -/
def canEntryLive (objs : Tab Bytes) (b : Bytes) : Bool :=
  (!bit (byteAt b 1) 1 || bindingHeld objs (leAt b 2 2)) &&
    (!bit (byteAt b 1) 2 || bindingHeld objs (leAt b 0x10 2))

/-- The word a masked CAN entry compares (R426). -/
def canMaskWord (f : Frame) (c : CanFrame) : Nat :=
  c.id % 2 ^ 29 + b2n c.ide * 2 ^ 29 + c.fmt % 4 * 2 ^ 30 + f.ingress % 64 * 2 ^ 32

/-- An enabled masked entry matches a frame's word (R426). -/
def canMaskMatches (b : Bytes) (w : Nat) : Bool :=
  byteAt b 2 == 1 && ((w ^^^ leAt b 4 8) &&& leAt b 12 8) == 0

/-- The CAN route of a frame: exact, else the lowest masked entry (R404, R425); its destination,
its GW_REF, and whether it was exact. -/
def canRoute (objs : Tab Bytes) (f : Frame) (c : CanFrame) : Option (Dest × Nat × Bool) :=
  let key := canKey f.ingress (c.id % 2 ^ 29 + b2n c.ide * 2 ^ 29)
  let masked : Option (Dest × Nat × Bool) :=
    (objs.find? fun e => okind e.1 == Kind.canMask.code && canMaskMatches e.2 (canMaskWord f c)).map
      fun e => (destOf (byteAt e.2 3) (leAt e.2 20 2), leAt e.2 24 4, false)
  match tget? objs (okey .canExact key) with
  | some b =>
    if canEntryLive objs b then some (destOf (byteAt b 8) (leAt b 10 2), leAt b 12 4, true) else masked
  | none => masked

/-- The key of an LPM prefix: its bits beyond LEN do not count. -/
def lpmKey (family len prefix128 : Nat) : Nat :=
  family * 2 ^ 136 + len * 2 ^ 128 + prefix128 / 2 ^ (128 - len) * 2 ^ (128 - len)

/-- The longest prefix of a family that holds an address, left-aligned in 128 bits (R404). -/
def lpmFind (objs : Tab Bytes) (family addr : Nat) : Option Bytes :=
  (objs.foldl (fun (best : Option (Nat × Bytes)) e =>
    if okind e.1 == Kind.lpm.code && byteAt e.2 0 == family &&
        addr / 2 ^ (128 - byteAt e.2 1) == beAt e.2 4 16 / 2 ^ (128 - byteAt e.2 1) then
      match best with
      | some b => if b.1 ≤ byteAt e.2 1 then some (byteAt e.2 1, e.2) else best
      | none => some (byteAt e.2 1, e.2)
    else best) none).map fun b => b.2

/-- Replace the bytes from offset `o`. -/
def patch (d : Bytes) (o : Nat) (v : Bytes) : Bytes := d.take o ++ v ++ d.drop (o + v.length)

/-- The IPv4 header checksum after the TTL's decrement, updated incrementally (R429). -/
def checksumAfterTtl (c : Nat) : Nat :=
  let x := c + 0x0100
  if 0xFFFF ≤ x then x - 0xFFFF else x

/-- The rewriting of R429 on a frame whose IP header is at offset `o`. -/
def lpmRewrite (d : Bytes) (o family : Nat) (entry : Bytes) : Bytes :=
  let d := patch (patch d 0 (slice entry 24 6)) 6 (slice entry 30 6)
  if family = 4 then
    let d' := patch d (o + 8) (le 1 (byteAt d (o + 8) - 1))
    patch d' (o + 10) (be 2 (checksumAfterTtl (beAt d (o + 10) 2)))
  else patch d (o + 7) (le 1 (byteAt d (o + 7) - 1))

/-- The outcome of stage 6: where the frame goes, the frame as rewritten, and the state with its
counters and stamps. -/
structure Lookup where
  dest : Dest
  frame : Frame
  /-- Discarded as FDB_SAME_PORT or LPM_TTL_DROP (R405, R429). -/
  discard : Bool
  st : State

/-- The forwarding lookup of a frame in its tagged generation (R404, R405, R424-R429, R401). LOOKUP 3 suits
key types 1 and 2 of R395: a port with KEYSEL 1 and a frame classified under MACsec have type 0 (R396). -/
def forwardLookup (f : Frame) (s : State) : Lookup :=
  let objs := genObjs s f.gen
  let fl := flowEntry s f.gen f.flow
  let miss := destOf fl.destKind fl.dest
  let missed (s : State) : Lookup := { dest := miss, frame := f, discard := false, st := s }
  match fl.lookup, f.bus with
  | 1, none =>
    let fid := frameFid objs fl f
    let key := fdbKey (beAt f.data 0 6) fid
    match fdbFind s objs key with
    | some d =>
      let s := bump (tblCtr 0x0108) s
      let s := if thas objs (okey .fdb key) then s else refresh key s
      if d = .port f.ingress ∧ byteAt f.data 0 % 2 = 0 then
        { dest := d, frame := f, discard := true, st := bump (tblCtr 0x0118) s }
      else { dest := d, frame := f, discard := false, st := s }
    | none => missed (bump (tblCtr 0x0110) s)
  | 2, some c =>
    match canRoute objs f c with
    | some (d, ref, exact) =>
      { dest := d, frame := { f with gwRef := ref }, discard := false,
        st := bump (tblCtr (if exact then 0x0160 else 0x0168)) s }
    | none => missed (bump (tblCtr 0x0170) s)
  | 3, none =>
    let ps := portSettings objs f.ingress
    let v := ethView f.data ps.2.2
    if ps.1 ≠ 1 ∧ f.sc.isNone ∧ (v.etype = 0x0800 ∨ v.etype = 0x86DD) then
      let family := if v.etype = 0x0800 then 4 else 6
      let addr := if family = 4 then beAt f.data (v.off + 16) 4 * 2 ^ 96 else beAt f.data (v.off + 24) 16
      match lpmFind objs family addr with
      | some e =>
        let s := bump (tblCtr 0x0178) s
        let d := destOf (byteAt e 20) (leAt e 22 2)
        if bit (byteAt e 2) 0 then
          let ttl := byteAt f.data (v.off + if family = 4 then 8 else 7)
          if ttl ≤ 1 then
            { dest := d, frame := f, discard := true, st := bump (tblCtr 0x0188) s }
          else
            { dest := d, frame := { f with data := lpmRewrite f.data v.off family e },
              discard := false, st := s }
        else { dest := d, frame := f, discard := false, st := s }
      | none => missed (bump (tblCtr 0x0180) s)
    else missed s
  | _, _ => missed s

/-- The gports a replication set names in a generation (R358). -/
def replMask (objs : Tab Bytes) (r : Nat) : Nat := match tget? objs (okey .repl r) with
  | some b => leAt b 4 8
  | none => 0

/-- The gports of a destination, lowest first. -/
def destPorts (objs : Tab Bytes) (d : Dest) : List Nat := match d with
  | .port g => [g]
  | .set r => (List.range 56).filter fun g => (replMask objs r).testBit g
  | .drop => []

/-! ### Learning (R409-R415) -/

/-- Present a learn at its learn instant; a full queue counts a drop (R409, R410). Learning stops in
Lee (R737) and while the FDB's memory is not on. -/
def presentLearn (key g gen : Nat) (s : State) : State :=
  if leeRule s || !fdbOn s then s
  else if 256 ≤ s.tables.learnQ.length then bump (tblCtr 0x0130) s
  else { s with tables.learnQ := s.tables.learnQ ++ [{ key := key, gport := g, at_ := s.now, gen := gen }] }

/-- A learned entry is placed: its way, its entry and its count, or the failure of R410. -/
def placeLearned (l : Learn) (s : State) : State :=
  let x : Slot := { key := l.key, use := .learned }
  let fail (s : State) : State :=
    let s := bump (tblCtr 0x0128) s
    let quiet := match s.tables.learnFail with
      | some t => inWindow l.at_ t (ms 100)
      | none => false
    if quiet then s
    else raiseFull 0x0200 0x0102 (be 6 (l.key % 2 ^ 48) ++ le 2 (l.key / 2 ^ 48) ++ le 1 l.gport)
      l.at_ false false { s with tables.learnFail := some l.at_ }
  let entry : Learned :=
    { gport := l.gport, stamp := s.tables.epoch, locked := false, hold := l.at_, flap := none }
  let done (s : State) : State :=
    mirror (.learned l.key l.gport false)
      (bump (tblCtr 0x0120) { s with tables.learned := tset s.tables.learned l.key entry })
  match s.tables.rehash with
  | some r =>
    if r.table = 0 then
      match hashInsert fdbShape r.seed r.placed x with
      | some m => done { s with tables.rehash := some { r with placed := m } }
      | none => fail s
    else
      match hashInsert fdbShape s.tables.seedFdb s.tables.fdbSlots x with
      | some m => done { s with tables.fdbSlots := m }
      | none => fail s
  | none =>
    match hashInsert fdbShape s.tables.seedFdb s.tables.fdbSlots x with
    | some m => done { s with tables.fdbSlots := m }
    | none => fail s

/-- A sighting of a learned address on another gport (R413). -/
def moveLearned (l : Learn) (e : Learned) (s : State) : State :=
  let put (e : Learned) (s : State) : State :=
    mirror (.learned l.key e.gport e.locked) { s with tables.learned := tset s.tables.learned l.key e }
  if e.locked then bump (tblCtr 0x0150) s
  else if inWindow l.at_ e.hold (ms s.tables.holdMs) then bump (tblCtr 0x0148) s
  else
    let moved (flap : Tick × Nat) : State :=
      bump (tblCtr 0x0140) (put { e with gport := l.gport, hold := l.at_, flap := some flap } s)
    match e.flap with
    | none => moved (l.at_, 1)
    | some (t0, n) =>
      if inWindow l.at_ t0 (s.tables.flapWindowS * ticksPerSec) then
        if s.tables.flapMoves ≤ n then
          raiseFull 0x0200 0x0101
            (be 6 (l.key % 2 ^ 48) ++ le 2 (l.key / 2 ^ 48) ++ le 1 e.gport) l.at_ false false
            (put { e with locked := true } s)
        else moved (t0, n + 1)
      else moved (l.at_, 1)

/-- The learner handles one learn (R410-R414). -/
def handleLearn (l : Learn) (s : State) : State :=
  let objs := genObjs s l.gen
  match tget? objs (okey .fdb l.key) with
  | some b =>
    let d := destOf (byteAt b 8) (leAt b 10 2)
    if (destPorts objs d).contains l.gport then s else bump (tblCtr 0x0158) s
  | none =>
    let s := refresh l.key s
    match tget? s.tables.learned l.key with
    | none => placeLearned l s
    | some e => if e.gport = l.gport then s else moveLearned l e s

/-- Remove the learned entries that meet `f`, with their ways (R417, R420). -/
def removeLearned (f : Nat → Learned → Bool) (s : State) : State :=
  let gone (k : Nat) : Bool := match tget? s.tables.learned k with
    | some e => f k e
    | none => false
  let keep (m : Tab Slot) : Tab Slot :=
    m.filter fun x => !(x.2.use == SlotUse.learned && gone x.2.key)
  let out := tfilter s.tables.learned f
  let s := out.foldl (fun s e => mirror (.learned e.1 0xFF false) s) s
  { s with
    tables.learned := tfilter s.tables.learned fun k e => !f k e
    tables.fdbSlots := keep s.tables.fdbSlots
    tables.rehash := s.tables.rehash.map fun r =>
      if r.table = 0 then { r with placed := keep r.placed } else r }

/-- The learned entries of a gport that are not locked go (R419). -/
def flushPort (g : Nat) (s : State) : State := removeLearned (fun _ e => e.gport == g && !e.locked) s

/-- An entry has aged (R417). -/
def aged (s : State) (e : Learned) : Bool :=
  decide (s.tables.epochs ≤ (s.tables.epoch + 256 - e.stamp) % 256)

end Sys2Proof.Machine
end

