-- ==== Sys2Proof/Machine/TimeOps.lean ====
section
/-!
DEFINITION. Operations of the time unit: domain mappings (R492), the choice of the reference (R496),
the rate limits of R486 and legal time (R508-R514).
-/
namespace Sys2Proof.Machine

/-- The address of a time counter (R528). -/
def timeCtr (o : Nat) : Nat := unitBase 0x0500 + o

/-- One nanosecond and one millisecond in units of 2⁻³² ns. -/
def nsFine : Nat := 2 ^ 32
def msFine : Nat := 1000000 * 2 ^ 32

/-! ### Network time -/

/-- Domain `d`. -/
def domain (s : State) (d : Nat) : Domain := tget s.time.domains Domain.reset d

/-- Replace it. -/
def setDomain (d : Nat) (x : Domain) (s : State) : State :=
  { s with time.domains := tset s.time.domains d x }

/-- Fields of `TIME_DOMAIN_SET` (R529). -/
def Domain.priority (x : Domain) : Nat := byteAt x.raw 3
def Domain.ports (x : Domain) : Nat := leAt x.raw 4 8
def Domain.stepNs (x : Domain) : Nat := orDefault (leAt x.raw 12 4) 1000
def Domain.lockNs (x : Domain) : Nat := orDefault (leAt x.raw 16 4) 50
def Domain.timeoutMs (x : Domain) : Nat := leAt x.raw 20 2
def Domain.gmCapable (x : Domain) : Bool := bit (byteAt x.raw 23) 0
def Domain.gmEpoch (x : Domain) : Nat := leAt x.raw 24 8

/-- The domain time at an IT instant, both in units of 2⁻³² ns (R492). -/
def Domain.at_ (x : Domain) (it : Nat) : Int :=
  x.value + (Int.ofNat it - Int.ofNat x.anchor) * (2 ^ 40 + x.rr) / 2 ^ 40

/-- The IT instant at which the domain time is `v` (R492). -/
def Domain.inverse (x : Domain) (v : Int) : Int :=
  Int.ofNat x.anchor + (v - x.value) * 2 ^ 40 / (2 ^ 40 + x.rr)

/-- The domain of a CLOCK number (R498); `none` for IT. -/
def clockDomain (s : State) (clock : Nat) : Option Domain :=
  if clock = 0 then none else some (domain s (clock - 1))

/-- The tick number of a CLOCK's instant in ns (R487, R498). -/
def clockTick (s : State) (clock ns : Nat) : Tick :=
  match clockDomain s clock with
  | none => nsTick ns
  | some x => (x.inverse (Int.ofNat (ns * nsFine))).toNat / 2 ^ 33

/-- A CLOCK's time in ns at a tick of IT. -/
def clockNs (s : State) (clock : Nat) (t : Tick) : Nat :=
  match clockDomain s clock with
  | none => 2 * t
  | some x => (x.at_ (t * 2 ^ 33)).toNat / nsFine

/-- The first instant base + j × cycle (in ns of a CLOCK) whose tick is `t` or later (R499). -/
def firstStart (s : State) (clock base cycle : Nat) (t : Tick) : Tick :=
  let d := clockNs s clock t
  let j := if d ≤ base then 0 else (d - base) / max 1 cycle
  let at_ (j : Nat) : Tick := clockTick s clock (base + j * cycle)
  if t ≤ at_ j then at_ j else if t ≤ at_ (j + 1) then at_ (j + 1) else at_ (j + 2)

/-- A domain is LOCKED. -/
def isLocked (s : State) (d : Nat) : Bool := (domain s d).state == .locked

/-- The reference R496 gives: 0 none, 1 domain 0, 2 domain 1. -/
def chosenRef (s : State) : Nat :=
  let l0 := isLocked s 0
  let l1 := isLocked s 1
  match s.time.refMode with
  | 0 =>
    if s.time.ref = 1 ∧ l0 then 1
    else if s.time.ref = 2 ∧ l1 then 2
    else if l0 && l1 then (if (domain s 1).priority < (domain s 0).priority then 2 else 1)
    else if l0 then 1
    else if l1 then 2
    else 0
  | 1 => if l0 then 1 else 0
  | 2 => if l1 then 2 else 0
  | _ => 0

/-- Choose the reference again, for a reason of R531. -/
def selectRef (reason : Nat) (s : State) : State :=
  let r := chosenRef s
  if r = s.time.ref then s
  else
    raiseEvent 0x0500 0x0103 (le 1 s.time.ref ++ le 1 r ++ le 1 reason)
      (bump (timeCtr 0x0110) { s with time.ref := r })

/-- A domain changes its state (R493), with the reference (R496). -/
def setDomState (d : Nat) (st : DomState) (s : State) : State :=
  let x := domain s d
  if x.state = st then s
  else
    let s := setDomain d { x with state := st, good := 0 } s
    let s := raiseEvent 0x0500 0x0101 (le 1 d ++ le 1 x.state.code ++ le 1 st.code) s
    if st = .locked then selectRef 3 s else if x.state = .locked then selectRef 1 s else s

/-- A signed number of `n` bytes in two's complement. -/
def leSigned (n : Nat) (v : Int) : Bytes := le n (v % 2 ^ (8 * n)).toNat

/-- A domain step by `by_` units of 2⁻³² ns (R494). -/
def domainStep (d : Nat) (by_ : Int) (s : State) : State :=
  let s := bump (timeCtr (0x0100 + 8 * d)) (setW1c 0x0500 0 9 d s)
  raiseEvent 0x0500 0x0102 (le 1 d ++ zeros 3 ++ leSigned 8 (by_ / Int.ofNat nsFine)) s

/-- RATE_ADJ as R486 limits a wanted value. -/
def rateLimit (s : State) (want : Int) : Int :=
  let seen := s.rateAdj ::
    ((s.time.rateHist.filter fun e => decide (s.now < e.1 + ms 125)).map fun e => e.2)
  let lo := seen.foldl (fun m v => max m (v - 1717)) (-2147483)
  let hi := seen.foldl (fun m v => min m (v + 1717)) 2147483
  max lo (min hi want)

/-- The servo writes RATE_ADJ (R486), which holds during a hitless activation (R647): `rateHist` holds, with
its end, each value replaced. -/
def steer (want : Int) (s : State) : State :=
  let v := rateLimit s want
  if v = s.rateAdj ∨ s.power.activating.isSome then s
  else
    { s with
      rateAdj := v
      time.rateHist := (s.now, s.rateAdj) ::
        s.time.rateHist.filter fun e => decide (s.now < e.1 + ms 125) }

/-! ### Legal time -/

/-- The slew still outstanding, in units of 2⁻³² ns (R514). -/
def slewLeft (s : State) : Nat := s.time.slew - (s.it - s.time.legalAnchor) / 2

/-- SLEWING (R514). -/
def slewing (s : State) : Bool := decide (0 < slewLeft s)

/-- Legal time in units of 2⁻³² ns (R508, R514). -/
def legalFine (s : State) : Nat :=
  let e := s.it - s.time.legalAnchor
  s.time.legal + e - min s.time.slew (e / 2)

/-- Legal time in milliseconds (R489). -/
def legalMs (s : State) : Nat := legalFine s / msFine

/-- LFLAGS of R529. -/
def legalFlags (s : State) : Nat :=
  b2n s.time.valid + 2 * b2n s.time.uncertain + 4 * b2n (slewing s)

/-- Legal time set to `v`, with a slew outstanding. -/
def setLegal (v slew : Nat) (s : State) : State :=
  { s with time.legal := v, time.legalAnchor := s.it, time.slew := slew }

/-- The UTC day of a legal time in ms. -/
def legalDay (v : Nat) : Nat := v / 86400000

/-- DAY_USED in the UTC day of legal time (R511). -/
def dayUsed (s : State) : Nat := if s.time.day = legalDay (legalMs s) then s.time.dayUsed else 0

end Sys2Proof.Machine
end

