-- ==== Sys2Proof/Machine/HeraxOps.lean ====
section
/-!
DEFINITION. Operations of Herax: monotonic counters (R653), the sealed record (R560-R565), the identity
chain (R536, R537), key slots, their use, their invalidation and the wipe (R540-R557).
-/
namespace Sys2Proof.Machine

/-- The address of a Herax counter (R567). -/
def hxCtr (o : Nat) : Nat := unitBase 0x0600 + o

/-! ### Primitives -/

/-- SHA-256 as bytes. -/
def sha256 (b : Bytes) : Bytes := be 32 (Config.sha256Raw b).toNat

/-- AES-CMAC of 16 bytes. -/
def cmac (key msg : Bytes) : Bytes := be 16 (Config.cmacRaw key msg).toNat

/-- The KDF of R536 with `n` bytes of output. -/
def kdf (key label context : Bytes) (n : Nat) : Bytes := padTo n (Config.kdfText key label context n)

/-- The KCV of a key (R546). -/
def kcvOf (key : Bytes) : Nat := leAt (cmac key (zeros 16)) 0 4

/-- A public key as X ‖ Y (R537). -/
def publicOf (priv : Bytes) : Bytes := be 64 (Config.ecdsaPublic priv).toNat

/-- A signature r ‖ s over SHA-256 of a message, with a free nonce (R537). -/
def signWith (priv msg : Bytes) (s : State) : Bytes × State :=
  (be 64 (Config.ecdsaSign priv (sha256 msg) s.free).toNat, { s with free := s.free + 1 })

/-- The ASCII bytes of a label. -/
def label (t : String) : Bytes := t.toList.map fun c => BitVec.ofNat 8 c.toNat

/-! ### Monotonic counters (R653) -/

/-- Numbers of the monotonic counters: the legal-time floor, DAY_USED, the SEQ at the last
checkpoint, a slot's uses and a profile's freshness values. -/
def mcFloor : Nat := 0
def mcDay : Nat := 1
def mcSeal : Nat := 2
def mcUses (slot : Nat) : Nat := 0x1000 + slot
def mcTxFv (profile : Nat) : Nat := 0x2000 + profile
def mcLatest (profile : Nat) : Nat := 0x4000 + profile

/-- Words written in the last second. -/
def recent (s : State) (l : List Tick) : List Tick := l.filter fun t => decide (s.now < t + ticksPerSec)

/-- Perform the write of a counter. -/
def monoPerform (id v : Nat) (s : State) : State :=
  { s with power.mono := tset s.power.mono id v
           power.monoWait := tdel s.power.monoWait id
           power.monoTimes := recent s s.power.monoTimes ++ [s.now] }

/-- Write a counter, or let the write wait for the 1,000 words a second. -/
def monoWrite (id v : Nat) (s : State) : State :=
  if (recent s s.power.monoTimes).length < 1000 then monoPerform id v s
  else { s with power.monoWait := tset s.power.monoWait id v }

/-- The value last given to a counter. -/
def monoValue (s : State) (id : Nat) : Nat :=
  match tget? s.power.monoWait id with
  | some v => v
  | none => tget s.power.mono 0 id

/-- Write the legal-time floor and DAY_USED (R509). -/
def writeFloor (s : State) : State :=
  monoWrite mcDay (dayUsed s) (monoWrite mcFloor (legalMs s) s)

/-! ### The sealed record (R560-R565) -/

/-- Queue a record of a KIND with its DATA, or lose it (R562). -/
def sealQueue (kind : Nat) (data : Bytes) (s : State) : State :=
  if s.herax.queue.length < 256 then
    { s with herax.queue := s.herax.queue ++ [(kind, padTo 22 data)] }
  else { s with herax.lost := s.herax.lost + 1 }

/-- The record of a SEQ as held in the ring (R561). -/
def sealRecord (s : State) (seq : Nat) : Bytes := tget s.herax.ring (zeros 64) (seq % 65536)

/-- RFLAGS (R560); an ATELIER record states its own phase (R564). -/
def rflags (s : State) (kind : Nat) (data : Bytes) : Nat :=
  legalFlags s + 8 * b2n (if kind = 0x0013 then byteAt data 0 == 1 else s.mode == .atelier)

/-- Write a record to the ring (R560, R561, R565). -/
def sealWrite (kind : Nat) (data : Bytes) (s : State) : State :=
  let seq := s.herax.head + 1
  let chain := if seq = 1 then zeros 16 else (sha256 (sealRecord s s.herax.head)).take 16
  let r := le 6 seq ++ le 2 kind ++ le 8 (legalMs s) ++ le 4 (nsOf s.now) ++
    le 4 (secOf s.now % 2 ^ 32) ++ le 2 (rflags s kind data) ++ padTo 22 data ++ chain
  let s := bump (hxCtr 0x0430)
    { s with herax.ring := tset s.herax.ring (seq % 65536) r
             herax.head := seq
             herax.sinceCp := s.herax.sinceCp + 1
             herax.sealTimes := recent s s.herax.sealTimes ++ [s.now] }
  let un := seq - s.herax.ack
  if 58982 ≤ un ∧ s.herax.unexported = false then
    raiseEvent 0x0600 0x0106 (le 6 seq ++ zeros 2 ++ le 4 un)
      (setW1c 0x0600 0 9 0 { s with herax.unexported := true })
  else s

/-- The identity class of a lifecycle state: 0 none, 1 or 2 (R532). -/
def classOf (lc : Nat) : Nat := if lc = 1 ∨ lc = 2 then 1 else if lc = 3 then 2 else 0

/-- The private DeviceID key (R536). -/
def deviceIdKey (s : State) : Bytes :=
  Config.eccPrivate (kdf s.herax.fuseRoot (label "LYS-DEVID")
    (le 1 (classOf s.herax.lc)) 40)

/-- The private alias key (R536). -/
def aliasKey (s : State) : Bytes :=
  let cdi := kdf s.herax.fuseRoot (label "LYS-CDI")
    (padTo 32 s.power.mFw ++ le 2 s.power.fwSvn) 32
  Config.eccPrivate (kdf cdi (label "LYS-ALIAS") [] 40)

/-- DEVICE_ID, zero without an identity (R537, R568). -/
def deviceId (s : State) : Bytes :=
  if classOf s.herax.lc = 0 then zeros 32 else sha256 (publicOf (deviceIdKey s))

/-- A checkpoint: CHECKPOINT and three SIGNATURE records (R563). -/
def checkpoint (s : State) : State :=
  let cls := classOf s.herax.lc
  let s := sealWrite 0x0002
    (le 6 s.herax.prevCp ++ le 1 s.herax.lc ++ le 1 cls ++ le 4 s.herax.bootCount) s
  let seq := s.herax.head
  let (sig, s) := if cls = 0 then (zeros 64, s) else signWith (deviceIdKey s) (sealRecord s seq) s
  let s := sealWrite 0x0003 (slice sig 44 20) (sealWrite 0x0003 (slice sig 22 22)
    (sealWrite 0x0003 (slice sig 0 22) s))
  monoWrite mcSeal s.herax.head
    (bump (hxCtr 0x0438) { s with herax.prevCp := seq, herax.sinceCp := 0 })

/-- Write the next waiting record: RECORD_LOST first where events were lost (R562). -/
def sealNext (s : State) : State :=
  if 0 < s.herax.lost then
    let n := s.herax.lost
    raiseEvent 0x0600 0x0107 (le 4 n)
      (setW1c 0x0600 0 8 0 (sealWrite 0x0004 (le 4 n) { s with herax.lost := 0 }))
  else
    match s.herax.queue with
    | [] => s
    | (k, d) :: r => sealWrite k d { s with herax.queue := r }

/-- A checkpoint is due (R563). -/
def checkpointDue (s : State) : Bool := decide (s.herax.cpN ≤ s.herax.sinceCp)

/-- Write `n` waiting records, with the checkpoints that fall due among them. -/
def sealFlush : Nat → State → State
  | 0, s => s
  | n + 1, s =>
    let s := if checkpointDue s then checkpoint s else s
    sealFlush n (sealNext s)

/-- Write every waiting record and then a checkpoint (R563). -/
def sealAll (s : State) : State := checkpoint (sealFlush (s.herax.queue.length + 1) s)

/-! ### Key slots (R541-R543) -/

/-- A slot as the secure bank holds it. -/
def keySlot (s : State) (i : Nat) : KeySlot := tget s.herax.bank KeySlot.empty i

/-- Slots that the key store holds too. -/
def persistentSlot (i : Nat) : Bool := decide (16 ≤ i) && decide (i < 2048)

/-- Replace a slot, in the key store too where it is persistent. -/
def setSlot (i : Nat) (x : KeySlot) (s : State) : State :=
  let put (m : Tab KeySlot) : Tab KeySlot := if x = KeySlot.empty then tdel m i else tset m i x
  { s with herax.bank := put s.herax.bank
           herax.store := if persistentSlot i then put s.herax.store else s.herax.store }

/-- KEY_STATE (R570). -/
def keyStateEvent (i : Nat) (old new : SlotState) (cause version affected : Nat) (s : State) : State :=
  raiseEvent 0x0600 0x0101
    (le 2 i ++ le 1 old.code ++ le 1 new.code ++ le 1 cause ++ zeros 1 ++ le 4 version ++
      le 2 affected) s

/-- The slots one level below a set of slots. -/
def childrenOf (s : State) (ps : List Nat) : List Nat :=
  (s.herax.bank.filter fun e => ps.contains e.2.parent && e.2.state != .empty).map fun e => e.1

/-- The slots that descend from a slot at any depth: three levels exist (R542). -/
def descendants (s : State) (i : Nat) : List Nat :=
  let a := childrenOf s [i]
  let b := childrenOf s a
  let c := childrenOf s b
  (a ++ b ++ c).eraseDups

/-- A slot is invalidated (R552): it takes a new content, and its ACTIVE or EXHAUSTED descendants
become ORPHANED. Gives how many. -/
def invalidate (i : Nat) (x' : KeySlot) (cause : Nat) (s : State) : Nat × State :=
  let x := keySlot s i
  let hit := (descendants s i).filter fun j =>
    j != i && ((keySlot s j).state == .active || (keySlot s j).state == .exhausted)
  let s := hit.foldl (fun s j => setSlot j { keySlot s j with state := .orphaned } s) s
  let s := bumpBy (hxCtr 0x0410) hit.length (bump (hxCtr 0x0408) (setSlot i x' s))
  (hit.length, keyStateEvent i x.state x'.state cause x.version hit.length s)

/-- The wipe of the secure bank (R540): every slot not EMPTY is invalidated. -/
def wipeBank (cause : Nat) (s : State) : State :=
  let old := s.herax.bank.filter fun e => e.2.state != .empty
  let s := { s with herax.bank := [], herax.wipeBusy := true }
  old.foldl (fun s e =>
    keyStateEvent e.1 e.2.state .empty cause e.2.version 0 (bump (hxCtr 0x0408) s)) s

/-- An operation is refused with a status (R567). -/
def refuse (status : Nat) (s : State) : State :=
  if status = stKeyRevoked then bump (hxCtr 0x0420) s
  else if status = stKeyExhausted then bump (hxCtr 0x0428) s
  else s

/-- The status with which a slot's operation is refused, if it is (R539, R543). -/
def keyRefusal (s : State) (i : Nat) : Option Nat :=
  match (keySlot s i).state with
  | .active => if s.herax.keysBlocked || s.herax.lc == 4 then some stKeyRevoked else none
  | .exhausted => some stKeyExhausted
  | _ => some stKeyRevoked

/-- Count one use of an ACTIVE slot (R555-R557). -/
def countUse (i : Nat) (s : State) : State :=
  let x := keySlot s i
  let n := x.uses + 1
  let x1 := { x with uses := n }
  let s := setSlot i x1 s
  let s := if persistentSlot i && n % 2 ^ 20 == 0 then monoWrite (mcUses i) n s else s
  let s := if x.limit ≠ 0 ∧ x.due = false ∧ (9 * x.limit + 9) / 10 ≤ n then
      raiseEvent 0x0600 0x0102 (le 2 i ++ zeros 2 ++ le 8 n) (setSlot i { x1 with due := true } s)
    else s
  if x.limit ≠ 0 ∧ x.limit ≤ n then
    keyStateEvent i x.state .exhausted 3 x.version 0
      (bump (hxCtr 0x0418) (setSlot i { keySlot s i with state := .exhausted } s))
  else s

/-- Start one counted operation on a slot: its key, or the refusal (R543, R555). -/
def useKey (i : Nat) (s : State) : Except Nat Bytes × State :=
  match keyRefusal s i with
  | some st => (.error st, refuse st s)
  | none => (.ok (keySlot s i).key, countUse i s)

/-- Write the usage counts of every persistent slot (R557, R616). -/
def writeUses (s : State) : State :=
  (s.herax.bank.filter fun e => persistentSlot e.1).foldl
    (fun s e => monoWrite (mcUses e.1) e.2.uses s) s

end Sys2Proof.Machine
end

