-- ==== Sys2Proof/Machine/HeraxCmds.lean ====
section
/-!
DEFINITION. The commands of Herax (R568, R569) and its events: lifecycle, keys, attestation, sealed
record and tamper (R532-R565).
-/
namespace Sys2Proof.Machine

/-! ### Lifecycle (R532-R535) -/

/-- `LC_QUERY`. -/
def lcQuerySpec : CmdSpec :=
  { opcode := 0x0601, change := false, len := lenIs 0
    apply := answer fun _ s =>
      le 1 s.herax.lc ++ le 1 (classOf s.herax.lc) ++ zeros 2 ++ le 4 s.herax.bootCount ++ deviceId s }

/-- The transitions of R533: whether a token is required; `none` where there is no such transition. -/
def lcTransition (old new : Nat) : Option Bool :=
  match old, new with
  | 0, 1 => some false
  | 1, 2 => some false
  | 2, 3 => some true
  | 1, 4 => some false
  | 2, 4 => some true
  | 3, 4 => some true
  | _, _ => none

/-- A lifecycle token is valid (R534). -/
def tokenValid (s : State) (target : Nat) (tok : Bytes) : Bool :=
  byteAt tok 0 == target && slice tok 4 32 == deviceId s &&
    s.herax.challenge == some (slice tok 0x24 16) &&
    Config.ecdsaVerify Config.lysrothLifecycleKey (sha256 (slice tok 0 64)) (slice tok 0x40 64)

/-- Overwrite the key store, which holds the configuration authority too, and its usage checkpoints with
zeros (R535, R539, R635). -/
def eraseStore (s : State) : State :=
  let s := s.herax.store.foldl (fun s e => monoWrite (mcUses e.1) 0 s) s
  { s with herax.store := [], herax.kek := none, power.authority := [] }

/-- A lifecycle transition changes the identity class or ends in Scrapped (R535). -/
def lcWipes (old new : Nat) : Bool := classOf old != classOf new || new == 4

/-- Steps 2 to 5 of R535. -/
def lcAdvance (target partner : Nat) (challenge : Bytes) (s : State) : State :=
  let old := s.herax.lc
  let s := if lcWipes old target then eraseStore (wipeBank 4 s) else s
  let s := if target = 1 then
      let (root, s) := takeFreeBytes 32 s
      { s with herax.fuseRoot := root }
    else if target = 4 then { s with herax.fuseRoot := List.replicate 32 0xFF }
    else s
  let s := { s with herax.lc := target, herax.challenge := none, herax.lcIntent := none }
  let s := sealQueue 0x0020 (le 1 old ++ le 1 target ++ le 1 partner ++ zeros 3 ++ padTo 16 challenge) s
  raiseEvent 0x0600 0x0104 (le 1 old ++ le 1 target ++ le 1 partner) s

/-- `LC_ADVANCE`; whether TOKEN must be there depends on the state, so step 10 judges it (DEDUCED,
log entry 25). -/
def lcAdvanceSpec : CmdSpec :=
  { opcode := 0x0602, change := true, service := true, modes := some [.atelier]
    len := fun ps => ps.length == 4 || ps.length == 132
    values := fun c _ => firstOf [c.upto 0 1 4, c.zero 1 3]
    conds := fun c s =>
      match lcTransition s.herax.lc (c.u8 0) with
      | none => some { status := stBadValue }
      | some tok => firstOf
        [ need (c.ps.length == if tok then 132 else 4) stBadLength,
          need (!tok || tokenValid s (c.u8 0) (c.raw 4 128)) stCheckFail ]
    apply := quiet fun c s =>
      lcAdvance (c.u8 0) c.p (if c.ps.length = 132 then c.raw (4 + 0x24) 16 else zeros 16) s
    onReject := fun _ r s =>
      if r.status = stCheckFail then { s with herax.challenge := none } else s }

/-- `LC_CHALLENGE`: a fresh challenge is a free value. -/
def lcChallengeSpec : CmdSpec :=
  { opcode := 0x0603, change := true, service := true, modes := some [.atelier], len := lenIs 0
    apply := fun _ s =>
      let (b, s) := takeFreeBytes 16 s
      ({ s with herax.challenge := some b }, b) }

/-- `TAMPER_CONFIG`. -/
def tamperConfigSpec : CmdSpec :=
  { opcode := 0x0604, change := true, len := lenIs 4
    values := fun c _ => firstOf
      [ range (decide (c.u16 0 < 1024) && bits (c.u16 0) 9 8 == 2 &&
          [0, 1, 2, 3].all fun n => bits (c.u16 0) (2 * n + 1) (2 * n) != 3) 0, c.zero 2 2 ]
    conds := fun _ s => need (decide (s.herax.lc < 2)) stDenied
    apply := quiet fun c s => { s with herax.tamperAction := c.u16 0 } }

/-! ### The KEK (R544) -/

/-- Open an AES-256-GCM wrapped key of 32 bytes; `none` where the tag is wrong (R545). -/
def gcmOpen (key iv aad ct tag : Bytes) : Option Bytes :=
  let plain := padTo ct.length (Config.gcmText key iv aad ct false)
  if be 16 (Config.gcmTag key iv aad plain).toNat = tag then some plain else none

/-- A KEK is placed. -/
def setKek (op partner : Nat) (kek : Bytes) (s : State) : State :=
  sealQueue 0x0023 (le 1 op ++ le 1 partner ++ zeros 2 ++ le 4 (kcvOf kek))
    { s with herax.kek := some kek }

/-- `KEK_LOAD_CLEAR`. -/
def kekLoadClearSpec : CmdSpec :=
  { opcode := 0x0611, change := true, service := true, modes := some [.atelier], len := lenIs 36
    conds := fun c s => firstOf
      [ need ((s.herax.lc == 0 || s.herax.lc == 1 || s.herax.lc == 3) && !s.herax.keysBlocked) stDenied,
        need (kcvOf (c.raw 0 32) == c.u32 32) stCheckFail ]
    apply := quiet fun c s => setKek 1 c.p (c.raw 0 32) s }

/-- The KEK a `KEK_ROTATE` brings. -/
def rotatedKek (c : Ctx) (s : State) : Option Bytes :=
  match s.herax.kek with
  | none => none
  | some k => (gcmOpen k (c.raw 0 12) [] (c.raw 12 32) (c.raw 44 16)).filter fun n => kcvOf n == c.u32 60

/-- `KEK_ROTATE`. -/
def kekRotateSpec : CmdSpec :=
  { opcode := 0x0612, change := true, service := true, modes := some [.atelier], len := lenIs 64
    conds := fun c s => firstOf
      [ need (s.herax.kek.isSome && s.herax.lc != 4 && !s.herax.keysBlocked) stDenied,
        need (rotatedKek c s).isSome stCheckFail ]
    apply := quiet fun c s => match rotatedKek c s with
      | some k => setKek 2 c.p k s
      | none => s }

/-! ### Key commands (R545-R554, R569) -/

/-- SLOT at offset 0 lies in 16-4,095. -/
def Ctx.slotOk (c : Ctx) : Check := c.btw 0 2 16 4095

/-- The DENIED cases of R569 for a slot of a level. -/
def keyDenied (c : Ctx) (s : State) (level : Nat) : Check :=
  need (s.herax.lc != 4 && !s.herax.keysBlocked &&
    (level != 2 || (s.mode == .atelier && (partner s c.p).service))) stDenied

/-- Attributes agree with those of a slot that is not EMPTY. -/
def attrsAgree (x : KeySlot) (typ level usage kflags limit : Nat) : Bool :=
  x.state == .empty ||
    (x.typ == typ && x.level == level && x.usage == usage && x.kflags == kflags && x.limit == limit)

/-- The slot can take a pending key now (R569, R654). -/
def pendingFree (s : State) (i : Nat) : Bool :=
  (keySlot s i).pending.isNone && !(persistentSlot i && (match (keySlot s i).committed with
    | some t => inWindow s.now t (60 * ticksPerSec)
    | none => false))

/-- The length of a key of a TYPE. -/
def keyLen (typ : Nat) : Nat := if typ = 0 then 16 else 32

/-- The key a `KEY_STAGE` brings (R545). -/
def stagedKey (c : Ctx) (s : State) : Option Bytes :=
  match s.herax.kek with
  | none => none
  | some k =>
    match gcmOpen k (c.raw 0x14 12) (c.raw 0 16) (c.raw 0x20 32) (c.raw 0x40 16) with
    | none => none
    | some plain =>
      let key := plain.take (keyLen (c.u8 2))
      if (c.u8 2 != 0 || zeroAt plain 16 16) && kcvOf key == c.u32 0x10 then some key else none

/-- Put a key into a slot's pending half, fixing the attributes of an EMPTY slot (R542). -/
def putPending (i typ level usage kflags limit : Nat) (k : PendingKey) (s : State) : State :=
  let x := keySlot s i
  let x := if x.state = .empty then
      { x with typ := typ, level := level, usage := usage, kflags := kflags, limit := limit }
    else x
  setSlot i { x with pending := some k } s

/-- `KEY_STAGE`. -/
def keyStageSpec : CmdSpec :=
  { opcode := 0x0621, change := true, len := lenIs 80
    values := fun c _ => firstOf
      [ c.slotOk, c.upto 2 1 1, c.btw 3 1 2 4, c.upto 4 1 7, c.upto 5 1 1, c.zero 6 2, c.upto 8 8 (2 ^ 48) ]
    conds := fun c s => firstOf
      [ range (!(decide (2048 ≤ c.u16 0) && c.u8 3 == 2)) 3, keyDenied c s (c.u8 3),
        need s.herax.kek.isSome stDenied,
        range (attrsAgree (keySlot s (c.u16 0)) (c.u8 2) (c.u8 3) (c.u8 4) (c.u8 5) (c.u64 8)) 2,
        need (pendingFree s (c.u16 0)) stBusy,
        need (stagedKey c s).isSome stCheckFail ]
    apply := quiet fun c s =>
      let s := { s with herax.keyIn := c.raw 0x14 60 ++ zeros 4 }
      match stagedKey c s with
      | some k => putPending (c.u16 0) (c.u8 2) (c.u8 3) (c.u8 4) (c.u8 5) (c.u64 8)
          { key := k, kcv := c.u32 0x10, parent := 0xFFFF } s
      | none => s }

/-- The status with which `KEY_DERIVE` is refused for its parent's state (R554). -/
def parentRefusal (s : State) (i : Nat) : Nat :=
  if (keySlot s i).state = .exhausted then stKeyExhausted else stKeyRevoked

/-- The child's flags: HARDEN whenever the parent has it (R542). -/
def childFlags (c : Ctx) (s : State) : Nat :=
  if c.u8 6 = 1 ∨ (keySlot s (c.u16 2)).kflags % 2 = 1 then 1 else 0

/-- `KEY_DERIVE` (R547). -/
def keyDeriveSpec : CmdSpec :=
  { opcode := 0x0622, change := true, len := lenIs 64
    values := fun c _ => firstOf
      [ c.slotOk, c.btw 2 2 16 4095, c.upto 4 1 1, c.upto 5 1 7, c.upto 6 1 1, c.zero 7 1,
        c.upto 8 8 (2 ^ 48) ]
    conds := fun c s =>
      let par := keySlot s (c.u16 2)
      let x := keySlot s (c.u16 0)
      let level := if x.state = .empty then par.level + 1 else x.level
      firstOf
        [ keyDenied c s level,
          range (bit par.usage 2 && par.level + 1 == level && decide (level ≤ 4) || par.state == .empty) 2,
          range (attrsAgree x (c.u8 4) level (c.u8 5) (childFlags c s) (c.u64 8)) 4,
          need (pendingFree s (c.u16 0)) stBusy,
          need (par.state == .active) (parentRefusal s (c.u16 2)) ]
    apply := fun c s =>
      let par := keySlot s (c.u16 2)
      let key := kdf par.key (c.raw 16 16) (c.raw 32 32) (keyLen (c.u8 4))
      let s := countUse (c.u16 2) s
      (putPending (c.u16 0) (c.u8 4) (par.level + 1) (c.u8 5) (childFlags c s) (c.u64 8)
        { key := key, kcv := kcvOf key, parent := c.u16 2 } s, le 4 (kcvOf key))
    onReject := fun _ r s => refuse r.status s }

/-- A KEY_CHANGE record, for the slots that have them (R564). -/
def sealKeyChange (i op : Nat) (x : KeySlot) (p affected : Nat) (s : State) : State :=
  if i < 2048 then
    sealQueue 0x0022 (le 2 i ++ le 1 op ++ le 1 x.level ++ le 4 x.version ++ le 4 x.kcv ++ le 1 p ++
      zeros 1 ++ le 2 affected) s
  else s

/-- The effect of `KEY_COMMIT` (R548, R550, R557). -/
def keyCommit (i p : Nat) (k : PendingKey) (s : State) : State :=
  let x := keySlot s i
  let y : KeySlot :=
    { x with state := .active, version := (x.version + 1) % 2 ^ 32, key := k.key, kcv := k.kcv
             parent := k.parent, pending := none, uses := 0, due := false, committed := some s.now }
  let s := bump (hxCtr 0x0400) (setSlot i y s)
  let s := if persistentSlot i then monoWrite (mcUses i) 0 s else s
  let s := if x.state = .active then s else keyStateEvent i x.state .active 1 y.version 0 s
  sealKeyChange i 1 y p 0 s

/-- `KEY_COMMIT`. -/
def keyCommitSpec : CmdSpec :=
  { opcode := 0x0623, change := true, len := lenIs 8
    values := fun c _ => firstOf [c.slotOk, c.zero 2 2]
    conds := fun c s => firstOf
      [ keyDenied c s (keySlot s (c.u16 0)).level,
        range (keySlot s (c.u16 0)).pending.isSome 0,
        need (match (keySlot s (c.u16 0)).pending with
          | some k => kcvOf k.key == c.u32 4
          | none => false) stCheckFail ]
    apply := quiet fun c s => match (keySlot s (c.u16 0)).pending with
      | some k => keyCommit (c.u16 0) c.p k s
      | none => s }

/-- SLOT and two zero bytes. -/
def Ctx.slotOnly (c : Ctx) : Check := firstOf [c.slotOk, c.zero 2 2]

/-- `KEY_DISCARD`. -/
def keyDiscardSpec : CmdSpec :=
  { opcode := 0x0624, change := true, len := lenIs 4
    values := fun c _ => c.slotOnly
    apply := quiet fun c s => setSlot (c.u16 0) { keySlot s (c.u16 0) with pending := none } s }

/-- `KEY_REVOKE` (R552). -/
def keyRevokeSpec : CmdSpec :=
  { opcode := 0x0625, change := true, len := lenIs 4
    values := fun c _ => c.slotOnly
    apply := quiet fun c s =>
      let x := keySlot s (c.u16 0)
      let (n, s) := invalidate (c.u16 0) { x with state := .revoked } 1 s
      sealKeyChange (c.u16 0) 2 x c.p n s }

/-- `KEY_ERASE` (R552). -/
def keyEraseSpec : CmdSpec :=
  { opcode := 0x0626, change := true, len := lenIs 4
    values := fun c _ => c.slotOnly
    apply := quiet fun c s =>
      let x := keySlot s (c.u16 0)
      let (n, s) := invalidate (c.u16 0) KeySlot.empty 1 s
      sealKeyChange (c.u16 0) 3 x c.p n s }

/-- `KEY_QUERY`. -/
def keyQuerySpec : CmdSpec :=
  { opcode := 0x0627, change := false, len := lenIs 4
    values := fun c _ => c.slotOnly
    apply := answer fun c s =>
      let x := keySlot s (c.u16 0)
      let pend := x.pending.getD { key := [], kcv := 0, parent := 0xFFFF }
      le 1 x.state.code ++ le 1 x.typ ++ le 1 x.level ++ le 1 x.usage ++ le 1 x.kflags ++
        le 1 (b2n x.pending.isSome) ++ le 2 x.parent ++ le 2 pend.parent ++
        le 2 (childrenOf s [c.u16 0]).length ++ le 4 x.version ++ le 4 x.kcv ++ le 4 pend.kcv ++
        le 8 x.uses ++ le 8 x.limit }

/-! ### Attestation (R558, R559) -/

/-- M_KEYS (R559). -/
def mKeys (s : State) : Bytes :=
  sha256 (le 4 (match s.herax.kek with
    | some k => kcvOf k
    | none => 0) ++
    (s.herax.bank.filter fun e => persistentSlot e.1 && e.2.state != .empty).flatMap fun e =>
      le 2 e.1 ++ le 1 e.2.state.code ++ le 1 e.2.level ++ le 4 e.2.version ++ le 4 e.2.kcv)

/-- The alias public key. -/
def aliasPub (s : State) : Bytes := publicOf (aliasKey s)

/-- The alias endorsement (R537). -/
def endorsement (s : State) : Bytes :=
  be 64 (Config.ecdsaSign (deviceIdKey s)
    (sha256 (aliasPub s ++ padTo 32 s.power.mFw ++ le 2 s.power.fwSvn)) 0).toNat

/-- Bytes 0x000-0x167 of the attestation statement. -/
def statement (s : State) (nonce : Bytes) : Bytes :=
  le 2 1 ++ le 2 424 ++ le 1 s.herax.lc ++ le 1 s.mode.code ++ le 1 s.power.fwSlot ++ [0xB0] ++
    le 2 s.power.fwSvn ++ zeros 2 ++ le 4 s.herax.bootCount ++ nonce ++ deviceId s ++
    padTo 32 s.power.mFw ++ padTo 32 s.power.mCfg ++ mKeys s ++ le 4 (currentNum s) ++
    le 1 (legalFlags s) ++ zeros 3 ++ le 8 (legalMs s) ++ le 4 (nsOf s.now) ++ le 6 (secOf s.now) ++
    zeros 2 ++ le 6 s.herax.head ++ zeros 2 ++
    (if s.herax.head = 0 then zeros 16 else (sha256 (sealRecord s s.herax.head)).take 16) ++
    le 4 (b2n (!s.kernel.ledger.entries.isEmpty) + 2 * b2n s.herax.keysBlocked +
      4 * b2n ([0, 1, 2, 3, 4].any fun n => w1cIs s 0x0600 4 n)) ++ aliasPub s ++ endorsement s

/-- The device has an identity (R532). -/
def hasIdentity (s : State) : Bool := s.herax.lc != 0 && s.herax.lc != 4

/-- `ATTEST`. -/
def attestSpec : CmdSpec :=
  { opcode := 0x0631, change := false, len := lenIs 32
    conds := fun _ s => need (hasIdentity s) stDenied
    apply := fun c s =>
      let m := statement s (c.raw 0 32)
      let (sig, s) := signWith (aliasKey s) m s
      (bump (hxCtr 0x0448) s, m ++ sig) }

/-- `IDENTITY_QUERY`. -/
def identityQuerySpec : CmdSpec :=
  { opcode := 0x0632, change := false, len := lenIs 0
    conds := fun _ s => need (hasIdentity s) stDenied
    apply := answer fun _ s => publicOf (deviceIdKey s) ++ aliasPub s ++ endorsement s }

/-! ### The sealed record -/

/-- `SEAL_READ`. -/
def sealReadSpec : CmdSpec :=
  { opcode := 0x0641, change := false, len := lenIs 8
    values := fun c _ => c.btw 6 2 1 63
    apply := answer fun c s =>
      let h := s.herax.head
      let first := max (c.u48 0) (max 1 (h - 65535))
      le 6 h ++ zeros 2 ++ (List.range (min (c.u16 6) (h + 1 - first))).flatMap fun i =>
        sealRecord s (first + i) }

/-- `SEAL_ACK` (R565). -/
def sealAckSpec : CmdSpec :=
  { opcode := 0x0642, change := true, len := lenIs 8
    values := fun c _ => c.zero 6 2
    conds := fun c s => range (within (c.u48 0) s.herax.ack s.herax.head) 0
    apply := quiet fun c s => { s with herax.ack := c.u48 0, herax.unexported := false } }

/-- `SEAL_CHECKPOINT` (R563): every record before it is written first. -/
def sealCheckpointSpec : CmdSpec :=
  { opcode := 0x0643, change := true, len := lenIs 4
    values := fun c _ => c.zero 0 4
    apply := quiet fun _ s => sealAll s }

/-- `SEAL_CONFIG`. -/
def sealConfigSpec : CmdSpec :=
  { opcode := 0x0644, change := true, len := lenIs 4
    values := fun c _ => firstOf [c.btw0 0 2 16 4096, c.zero 2 2]
    apply := quiet fun c s => { s with herax.cpN := orDefault (c.u16 0) 256 } }

/-- `SEAL_NOTE`. -/
def sealNoteSpec : CmdSpec :=
  { opcode := 0x0645, change := true, len := lenIs 20
    apply := quiet fun c s => sealQueue 0x0040 (le 1 c.p ++ zeros 1 ++ c.raw 0 20) s }

/-- `HERAX_COUNTERS`. -/
def heraxCountersSpec : CmdSpec :=
  { opcode := 0x0651, change := false, len := lenIs 0
    apply := answer fun _ s => counterBlock s (hxCtr 0x0400) 10 }

/-- A read of `HERAX_SEAL_HEAD_LO` (R566). -/
def readSealHead (s : State) : Nat × State :=
  (s.herax.head % 2 ^ 32, { s with herax.headLatch := s.herax.head / 2 ^ 32 })

/-- A read of `HERAX_SEAL_ACK_LO` (R566). -/
def readSealAck (s : State) : Nat × State :=
  (s.herax.ack % 2 ^ 32, { s with herax.ackLatch := s.herax.ack / 2 ^ 32 })

/-! ### Tamper (R538-R540) -/

/-- The action of a source. -/
def tamperActionOf (s : State) (n : Nat) : Nat := bits s.herax.tamperAction (2 * n + 1) (2 * n)

/-- Act on detected sources (R539). -/
def tamperAct (sources : Nat) (s : State) : State :=
  let ns := [0, 1, 2, 3, 4].filter fun n => bit sources n
  let act := ns.foldl (fun a n => max a (tamperActionOf s n)) 0
  let s := ns.foldl (fun s n => bump (hxCtr 0x0440) (setW1c 0x0600 0x0004 n n s)) s
  let s := setW1c 0x0600 0 4 0 s
  let s := if 1 ≤ act then { wipeBank 2 s with herax.keysBlocked := true } else s
  let s := if 2 ≤ act then { s with herax.eraseAtStart := true } else s
  let s := sealQueue 0x0021 (le 1 sources ++ le 1 act ++ le 1 s.mode.code) s
  let s := ledgerAdd 0x0007 0x0600 0 1 false (le 1 sources) s
  raiseFull 0x0600 0x0103 (le 1 sources ++ le 1 act) s.now false true s

/-- A source is detected: at once, or at the next start-up where the main domain sleeps (R539). -/
def tamperDetect (n : Nat) (s : State) : State :=
  if 4 < n then s
  else if s.mainUp && s.mode != .calm && s.mode != .zephyr then tamperAct (2 ^ n) s
  else { s with herax.tamperWaiting := s.herax.tamperWaiting ||| 2 ^ n }

/-- The secure bank is filled with zeros (R540). -/
def wipeComplete (s : State) : State := { s with herax.wipeBusy := false }

/-- The controller takes the next waiting record, at most 2,000 a second and none while a checkpoint
is due (R562, R652). -/
def sealRecordWrite (s : State) : State :=
  if checkpointDue s || decide (2000 ≤ (recent s s.herax.sealTimes).length) then s else sealNext s

/-- A checkpoint that is due is written (R563). -/
def checkpointStep (s : State) : State := if checkpointDue s then checkpoint s else s

/-- A waiting counter write is performed (R653). -/
def monoStep (id : Nat) (s : State) : State :=
  match tget? s.power.monoWait id with
  | some v => if (recent s s.power.monoTimes).length < 1000 then monoPerform id v s else s
  | none => s

/-- Settle the commit journal at start-up (R549). -/
def settleJournal (s : State) : State :=
  let one (s : State) (e : KeyJournal) : State :=
    if e.a % 256 ≠ 0x4B then s
    else
      let slot := bits e.a 19 8
      let ver := bits e.a 51 20
      let crc := (crc32c (le 8 e.a ++ le 4 (e.b % 2 ^ 32))).toNat
      let ok := e.b / 2 ^ 32 == crc && e.c % 256 == 0x43 && bits e.c 19 8 == slot && bits e.c 51 20 == ver
      let x := tget s.herax.store KeySlot.empty slot
      let s := match ok && x.version != ver, x.pending with
        | true, some k =>
          let y : KeySlot :=
            { x with state := .active, version := ver, key := k.key, kcv := k.kcv, parent := k.parent
                     pending := none, uses := 0, due := false }
          { s with herax.store := tset s.herax.store slot y }
        | _, _ => s
      let result := if ok then 1 else 2
      let s := setW1c 0x0600 0 7 slot s
      let s := sealQueue 0x0024 (le 2 slot ++ le 1 result ++ zeros 1 ++ le 4 ver) s
      let s := ledgerAdd 0x0008 0x0600 slot 1 false (le 2 slot ++ le 1 result) s
      raiseFull 0x0600 0x0105 (le 2 slot ++ le 1 result ++ zeros 1 ++ le 4 ver) s.now false true s
  { s.herax.journal.foldl one s with herax.journal := [] }

end Sys2Proof.Machine
end

