-- ==== Sys2Proof/Machine/KernelCmds.lean ====
section
/-!
DEFINITION. The commands of the Sprinaz service (R112-R116) and its doorbells, event window and
windows of time (R82, R95-R101).
-/
namespace Sys2Proof.Machine

/-- The ring sizes of R48. -/
def ringLogOf (slots : Nat) : Option Nat :=
  (List.range 7).find? fun i => 64 * 2 ^ i == slots

/-- The half sizes of R92. -/
def halfLogOf (h : Nat) : Option Nat := (List.range 8).find? fun i => 32 * 2 ^ i == h

/-- The bytes of bank 2 the queues of all attached partners use, partner `p` counted with halves of
`h` records (R92). -/
def bank2Use (s : State) (p h : Nat) : Nat :=
  (partnerIds.map fun q =>
    if q = p then 64 * h
    else if (partner s q).attached then 64 * (partner s q).evq.half else 0).sum

/-- `ECHO`. -/
def echoSpec : CmdSpec :=
  { opcode := 0x0B01, change := false, masked := false
    modes := some [.breeze, .gale, .lee, .atelier]
    len := fun _ => true
    apply := answer fun c _ => c.ps }

/-- A little-endian field of an image slot's header (R634). -/
def imageField (s : State) (slot off n : Nat) : Nat :=
  leAt (memReadBytes (tget s.power.images ImageSlot.empty slot).bytes off n) 0 n

/-- `VERSION_QUERY`: the stepping is 0xB0. -/
def versionQuerySpec : CmdSpec :=
  { opcode := 0x0B02, change := false, masked := false
    modes := some [.breeze, .gale, .lee, .atelier]
    len := lenIs 0
    apply := answer fun c s =>
      le 4 1 ++ le 4 (if s.power.recovery then 0 else imageField s s.power.fwSlot 0x0C 4) ++
        le 1 (if s.power.recovery then 0xFF else s.power.fwSlot) ++ [0xB0] ++ le 1 c.p ++ zeros 1 ++
        le 4 4076 }

/-- Some attached partner would hold ADMIN once partner `t` had a transport and a mask (R113). -/
def adminRemains (s : State) (t tr : Nat) (perm : Word) : Bool :=
  partnerIds.any fun q =>
    if q = t then tr != 0 && perm.getLsbD 29
    else (partner s q).attached && (partner s q).admin

/-- What else ends with a partner's attachment: its Atelier (R622) and its stopped jobs (R601). -/
def detachOthers (t : Nat) (s : State) : State :=
  let s := { s with cipher.jobs := s.cipher.jobs.map fun j =>
    if j.partner = t ∧ j.st = .stopped then { j with st := JobState.zeroing, status := stTxnAborted }
    else j }
  if s.mode = .atelier ∧ s.power.atelierPartner = t ∧ s.power.transition = none then
    let x : Transition := { target := .gale, cause := 7, source := 0xFF, started := s.clk, partner := t }
    { s with power.transition := some x }
  else s

/-- The effect of `PARTNER_SET` (R88, R114, R394). -/
def partnerSet (c : Ctx) (s : State) : State :=
  let t := c.u8 0
  let tr := c.u8 1
  let perm := w32 (c.u32 4)
  let old := partner s t
  let s := if old.attached then
      dropStaging t (abortTxn t 2 (resetCmdQueue t 3 (resetEvQueue t 3 s)))
    else s
  let shaped (x : Partner) : Partner :=
    { x with transport := tr, perm := perm, ringLog := (ringLogOf (c.u16 2)).getD 0
             cmdBase := c.u64 8, rplBase := c.u64 16, wbAddr := c.u64 24 }
  let s :=
    if tr = 0 then
      let s := setPartner t Partner.detached s
      if old.attached then detachOthers t s else s
    else if old.attached then updPartner t shaped s
    else setPartner t (shaped Partner.detached) s
  let body := le 1 t ++ le 1 tr ++ zeros 2 ++ le 4 (if tr = 0 then 0 else perm.toNat) ++ le 1 c.p
  partnerIds.foldl (fun s q =>
    if (partner s q).attached && (partner s q).admin then commonEvent q 5 body s else s) s

/-- `PARTNER_SET` (R113, R114); RING_SLOTS and PERM do not count in a detachment (DEDUCED, log
entry 23). -/
def partnerSetSpec : CmdSpec :=
  { opcode := 0x0B03, change := true, admin := true
    modes := some [.breeze, .gale, .lee, .atelier]
    len := lenIs 32
    values := fun c _ =>
      let tr := c.u8 1
      firstOf
        [ c.upto 0 1 7, c.upto 1 1 5,
          range (tr == 0 || (ringLogOf (c.u16 2)).isSome) 2,
          range (tr == 0 || (bits (c.u32 4) 15 12 == 0 && bits (c.u32 4) 31 30 == 0)) 4,
          range (c.u64 24 % 64 == 0) 24 ]
    conds := fun c s =>
      let t := c.u8 0
      let h := if (partner s t).attached then (partner s t).evq.half else 32
      let tr := c.u8 1
      firstOf
        [ range (tr == 0 || tr == 1 || decide (c.u16 2 ≤ 256)) 2, range (tr == 1 || c.u64 8 == 0) 8,
          range (tr == 1 || c.u64 16 == 0) 16, range (tr == 1 || c.u64 24 == 0) 24,
          need (t != c.p && adminRemains s t (c.u8 1) (w32 (c.u32 4))) stDenied,
          need (c.u8 1 == 0 || decide (bank2Use s t h ≤ 458752)) stNoRoom ]
    apply := quiet partnerSet }

/-- `PARTNER_QUERY`. -/
def partnerQuerySpec : CmdSpec :=
  { opcode := 0x0B04, change := false
    modes := some [.breeze, .gale, .lee, .atelier]
    len := lenIs 4
    values := fun c _ => firstOf [c.upto 0 1 7, c.zero 1 3]
    conds := fun c s => need (c.u8 0 == c.p || (partner s c.p).admin) stDenied
    apply := answer fun c s =>
      let x := partner s (c.u8 0)
      le 1 (c.u8 0) ++ le 1 x.transport ++ le 2 x.slots ++ le 4 x.perm.toNat ++ le 8 x.cmdBase ++
        le 8 x.rplBase ++ le 8 x.wbAddr }

/-- `EVENT_SUBSCRIBE` (R90). -/
def eventSubscribeSpec : CmdSpec :=
  { opcode := 0x0B05, change := false, masked := false
    modes := some [.breeze, .gale, .lee, .atelier]
    len := lenIs 4
    values := fun c _ => firstOf [need (unitExists (c.u16 0)) stBadUnit, c.upto 2 1 1, c.zero 3 1]
    conds := fun c s => need ((partner s c.p).hasQuery (unitClass (c.u16 0))) stDenied
    apply := quiet fun c s => updPartner c.p (fun x =>
      let rest := x.subs.filter fun u => u != c.u16 0
      { x with subs := if c.u8 2 = 1 then rest ++ [c.u16 0] else rest }) s }

/-- `EVQ_CONFIG` (R115). -/
def evqConfigSpec : CmdSpec :=
  { opcode := 0x0B06, change := false, masked := false
    modes := some [.breeze, .gale, .lee, .atelier]
    len := lenIs 12
    values := fun c _ => firstOf [range (halfLogOf (c.u16 0)).isSome 0, range (c.u64 4 % 4096 == 0) 4]
    conds := fun c s => firstOf
      [ range ((partner s c.p).transport == 1 || c.u64 4 == 0) 4, need ((partner s c.p).evq.used == 0) stBusy,
        need (decide (bank2Use s c.p (c.u16 0) ≤ 458752)) stNoRoom ]
    apply := quiet fun c s => updPartner c.p (fun x =>
      { x with evq.halfLog := (halfLogOf (c.u16 0)).getD 0, evq.coalUs := c.u16 2
               evq.mirrorBase := c.u64 4 }) s }

/-- `TXN_ABORT` (R116). -/
def txnAbortSpec : CmdSpec :=
  { opcode := 0x0B07, change := false, masked := false
    modes := some [.breeze, .gale, .lee, .atelier]
    len := lenIs 4
    values := fun c _ => c.zero 2 2
    conds := fun c s => range (match (partner s c.p).txn with
      | some t => t.id == c.u16 0
      | none => false) 0
    apply := quiet fun c s => updPartner c.p (fun x => { x with txn := none }) s }

/-- `EVQ_RESET` (R101). -/
def evqResetSpec : CmdSpec :=
  { opcode := 0x0B08, change := false, masked := false
    modes := some [.breeze, .gale, .lee, .atelier]
    len := lenIs 4
    values := fun c _ => c.zero 0 4
    apply := quiet fun c s => resetEvQueue c.p 2 s }

/-! ### Doorbells -/

/-- The pointer a duplicated word carries, where its halves agree (R100). -/
def pairedPtr (v : Word) : Option Half :=
  let lo : Half := v.extractLsb' 0 16
  if v.extractLsb' 16 16 = ~~~lo then some lo else none

/-- A pointer with its complement (R100). -/
def pairWord (p : Half) : Nat := p.toNat + 65536 * (~~~p).toNat

/-- Write the replies that wait, while the ring has room (R58, R69). -/
def writeWaiting : Nat → Nat → State → State
  | 0, _, s => s
  | n + 1, p, s =>
    let x := partner s p
    match x.waiting with
    | [] => s
    | r :: rest =>
      if packetSlots r.params.length ≤ x.replyRoom then
        let y := { x with waiting := [] }.putReply r
        let s := setPartner p { y with waiting := rest } s
        writeWaiting n p (if x.transport = 1 then raiseVec (128 + 8 * p) s else s)
      else s

/-- A write of the request-ring tail (R101). -/
def cmdDoorbell (p : Nat) (v : Word) (s : State) : State :=
  match pairedPtr v with
  | none => resetCmdQueue p 1 s
  | some ptr => updPartner p (fun x => { x with reqTail := ptr }) s

/-- A write of the reply-ring head (R101, R58). -/
def rplDoorbell (p : Nat) (v : Word) (s : State) : State :=
  match pairedPtr v with
  | none => resetCmdQueue p 1 s
  | some ptr =>
    let s := updPartner p (fun x =>
      { x with rplHead := ptr
               replies := x.replies.filter fun r =>
                 decide ((ptr - x.rplHead).toNat < (r.1 - x.rplHead).toNat) }) s
    writeWaiting (partner s p).waiting.length p s

/-- The address offset of a partner's HOST_EVQ_STATUS in unit 0x0B00 (R102). -/
def evqStatusOff (p : Nat) : Nat := 0x1024 + 0x40 * p

/-- An operation ignored under R99: PTR_ERR, PTR_ERRS and vector 130 + 8p (R110). -/
def ptrErr (p : Nat) (s : State) : State :=
  let s := setW1c 0x0B00 (evqStatusOff p) 0 p s
  let s := updPartner p (fun x => { x with ptrErrs := satAdd 0xFF x.ptrErrs 1 }) s
  if (partner s p).transport = 1 then raiseVec (130 + 8 * p) s else s

/-- A pointer lies in REL to WR (R98). -/
def EvQueue.inRange (q : EvQueue) (ptr : Half) : Bool := decide ((ptr - q.rel).toNat ≤ q.used)

/-- A queue operation of a doorbell: a word whose halves disagree resets the queue (R101). -/
def evqOp (p : Nat) (v : Word) (f : Half → State → State) (s : State) : State :=
  match pairedPtr v with
  | none => resetEvQueue p 1 s
  | some ptr => f ptr s

/-- Mark (R98). -/
def evqMark (p : Nat) (ptr : Half) (s : State) : State :=
  if (partner s p).evq.inRange ptr then updPartner p (fun x => { x with evq.mark := ptr }) s
  else ptrErr p s

/-- Rewind (R98). -/
def evqRewind (p : Nat) (ptr : Half) (s : State) : State :=
  let x := partner s p
  let q := x.evq
  if ptr ≠ q.mark then ptrErr p s
  else if x.transport ≠ 1 then setPartner p { x with evq.rd := q.mark } s
  else
    let n := (q.mark - q.rel).toNat
    let again := (q.records.drop n).map fun r => { r with rewound := true }
    let base := q.mark.toNat
    let mirror := (again.zipIdx).foldl
      (fun m e => tset m ((base + e.2) % 65536 % (2 * q.half)) e.1) q.mirror
    let s := setPartner p { x with evq := { q with records := q.records.take n ++ again, mirror := mirror
                                                   sig := q.wr, firstUnsig := none } } s
    if again.isEmpty then s else raiseVec (129 + 8 * p) s

/-- Release (R98). -/
def evqRelease (p : Nat) (ptr : Half) (s : State) : State :=
  let x := partner s p
  let q := x.evq
  if !q.inRange ptr then ptrErr p s
  else
    let n := (ptr - q.rel).toNat
    let before (a : Half) : Bool := decide ((a - q.rel).toNat < n)
    let fwd (a : Half) : Half := if before a then ptr else a
    let rest := q.records.drop n
    let mirror := if x.transport = 1 then
        (List.range n).foldl (fun m i =>
          tset m ((q.rel.toNat + i) % 65536 % (2 * q.half)) (EventRecord.idle q.lastSeq)) q.mirror
      else q.mirror
    let firstUnsig := if fwd q.sig = q.wr then none
      else if before q.sig then rest.head?.map (·.stamp) else q.firstUnsig
    setPartner p
      { x with
        evq := { q with rel := ptr, mark := fwd q.mark, rd := fwd q.rd, sig := fwd q.sig
                        records := rest, mirror := mirror, firstUnsig := firstUnsig }
        resetRecs := x.resetRecs.filter fun a => !before a } s

/-! ### The event window (R97) -/

/-- The 32 bytes of a record (R86). -/
def EventRecord.bytes (r : EventRecord) : Bytes :=
  le 2 r.typ ++ le 2 r.unit ++ le 4 r.seq.toNat ++ le 4 (nsOf r.stamp) ++ le 6 (secOf r.stamp) ++
    le 2 (b2n r.safety + 2 * b2n r.ledger + 4 * b2n r.rewound) ++ padTo 12 r.payload

/-- A read of the event window: the word, and the queue after it. -/
def windowRead (p off : Nat) (s : State) : Nat × State :=
  let x := partner s p
  let q := x.evq
  let q' :=
    if off = 0 then
      if q.rd = q.wr then { q with latch := EventRecord.idle q.lastSeq }
      else { q with latch := q.records.getD (q.rd - q.rel).toNat (EventRecord.idle q.lastSeq)
                    rd := q.rd + 1 }
    else q
  (leAt q'.latch.bytes (off / 4 * 4) 4, setPartner p { x with evq := q' } s)

/-! ### Windows of time -/

/-- An open transaction with no member for 1 s is aborted (R82). -/
def txnTimeout (p : Nat) (s : State) : State :=
  match (partner s p).txn with
  | none => s
  | some x => if x.last + ticksPerSec ≤ s.now then abortTxn p 1 s else s

/-- A partially filled half is signalled once the coalescing time has passed (R95). -/
def evqCoalesce (p : Nat) (s : State) : State :=
  let x := partner s p
  match x.evq.firstUnsig with
  | none => s
  | some f =>
    if f + us x.evq.coalUs ≤ s.now then
      let s := setPartner p { x with evq.sig := x.evq.wr, evq.firstUnsig := none } s
      if x.transport = 1 then raiseVec (129 + 8 * p) s else s
    else s

/-- INTp is asserted (R111). -/
def intAsserted (s : State) (p : Nat) : Bool :=
  let x := partner s p
  x.transport == 2 &&
    (x.rplTail != x.rplHead || decide (0 < (x.evq.sig - x.evq.rel).toNat) ||
      w1cIs s 0x0B00 (evqStatusOff p) 0 || !x.resetRecs.isEmpty)

/-- The 16 bytes of a HOSTP partner's writeback (R109). -/
def writeback (s : State) (p : Nat) : Bytes :=
  let x := partner s p
  le 4 (pairWord x.reqHead) ++ le 4 (pairWord x.rplTail) ++ le 4 (pairWord x.evq.wr) ++ zeros 4

end Sys2Proof.Machine
end

