-- ==== Sys2Proof/Machine/PolicingOps.lean ====
section
/-!
DEFINITION. Stage 4 of the frame path (R439-R469): meters, stream filters and gates, the cadence
monitor, sources and containment, with the safety reactions of severity E (R733).
-/
namespace Sys2Proof.Machine

/-- The address of a policing counter (R471). -/
def polCtr (o : Nat) : Nat := unitBase 0x0400 + o

/-! ### Safety reaction E (R733, R734) -/

/-- Reaction E to a detection of a mechanism row on an object: ledger entry and SAFETY_FAULT (R733,
R744, R754), with the severity and REACTION given. -/
def safetyNote (row reaction object sev : Nat) (s : State) : State :=
  let s := bump (safetyCounter 0x0100) s
  let s := ledgerAdd (0x0010 + row) 0x0A00 object sev false [] s
  let id := match s.kernel.ledger.entries.find? (fun e => e.same (0x0010 + row) 0x0A00 object []) with
    | some e => e.id
    | none => 0xFFFF
  raiseFull 0x0A00 0x0101 (le 1 row ++ le 1 reaction ++ le 2 object ++ le 2 id) s.now true true s

/-- A detection with reaction E. -/
def safetyE (row object : Nat) (s : State) : State := safetyNote row 1 object 2 s

/-- A detection with reaction LEE: a severity 3 entry and the request for Lee (R733, R738). -/
def safetyLee (row object : Nat) (s : State) : State :=
  let s := safetyNote row 2 object 3 s
  requestLee row s

/-- The main domain resets with a cause (R629): it is held due until the reset's own command. -/
def resetDue (cause : Nat) (s : State) : State := { s with power.resetDue := some cause }

/-- A detection with reaction RST: FAIL in the heartbeat and a main-domain reset with cause SAFETY, or
WATCHDOG (R733, R735). -/
def safetyRst (row object cause : Nat) (s : State) : State :=
  let s := safetyNote row 3 object 2 s
  resetDue cause { s with pair.fail := true }

/-! ### Flow counters (R442) -/

/-- FRAMES of a flow increments. -/
def countFlowFrame (f : Nat) (s : State) : State :=
  { s with policing.flowCounts := tupd s.policing.flowCounts (0, 0) f fun c => (c.1 + 1, c.2) }

/-- DROPS of a flow increments. -/
def countFlowDrop (f : Nat) (s : State) : State :=
  { s with policing.flowCounts := tupd s.policing.flowCounts (0, 0) f fun c => (c.1, c.2 + 1) }

/-! ### Meters (R443-R447) -/

/-- The metered length of a frame in bytes (R443). -/
def meteredLen (f : Frame) : Nat := match f.bus with
  | some c => c.dlen
  | none => f.data.length + 4

/-- The verdict of a meter. -/
inductive Colour where
  | green | yellow | red
deriving DecidableEq, Repr

/-- The tick length of a meter's interval. -/
def Meter.interval (m : Meter) : Tick := max 1 (nsTick (leAt m.raw 4 4))

/-- The refill and colouring of R444. -/
def Meter.act (m : Meter) (t : Tick) (len : Nat) : Colour × Meter :=
  let cf := bit (byteAt m.raw 3) 0
  let cir := leAt m.raw 8 4
  let gust := leAt m.raw 12 4
  let eir := leAt m.raw 16 4
  let egust := leAt m.raw 20 4
  let k := max (t / m.interval) m.lastN
  let m1 :=
    if m.lastN < k then
      let full := m.c + (k - m.lastN) * cir
      let spill := if cf && decide (gust < full) then full - gust else 0
      { m with c := min gust full, e := min egust (m.e + (k - m.lastN) * eir + spill), lastN := k }
    else m
  if m1.allRed then (.red, m1)
  else if len ≤ m1.c then (.green, { m1 with c := m1.c - len })
  else if len ≤ m1.e then (.yellow, { m1 with e := m1.e - len })
  else (.red, if bit (byteAt m.raw 3) 2 then { m1 with allRed := true } else m1)

/-- A red or blocked frame of a SAFETY flow (R468). -/
def safetyFlagged (flow : Nat) (s : State) : State :=
  safetyE 12 flow (setW1c 0x0400 0 1 flow (bump (polCtr 0x0190) s))

/-- POLICE_RED of a meter, at most once in 100 ms except for a SAFETY flow (R480, R468, R782). -/
def policeRed (i : Nat) (m : Meter) (f : Frame) (safety : Bool) (s : State) : State :=
  let quiet := !safety && (match m.lastEvent with
    | some t => inWindow f.stamp t (ms 100)
    | none => false)
  if quiet then { s with policing.meters := tset s.policing.meters i { m with suppressed := m.suppressed + 1 } }
  else
    let n := if safety then 1 else satAdd 0xFFFFFFFF m.suppressed 1
    let m' := if safety then m else { m with lastEvent := some f.stamp, suppressed := 0 }
    raiseFull 0x0400 0x0101 (le 2 i ++ le 2 f.flow ++ le 1 f.ingress ++ zeros 3 ++ le 4 n)
      f.stamp safety false { s with policing.meters := tset s.policing.meters i m' }

/-- Step 4 of R440: the meter of the flow. -/
def meterStep (i : Nat) (f : Frame) (safety : Bool) (s : State) : Bool × Frame × State :=
  match tget? s.policing.meters i with
  | none => (false, f, s)
  | some m =>
    let len := if byteAt m.raw 2 = 1 then 1 else meteredLen f
    let (colour, m) := m.act f.stamp len
    let put (m : Meter) (s : State) : State := { s with policing.meters := tset s.policing.meters i m }
    match colour with
    | .green => (false, f, bump (polCtr 0x0100) (put { m with green := m.green + 1 } s))
    | .yellow =>
      let s := put { m with yellow := m.yellow + 1 } s
      if bit (byteAt m.raw 3) 1 then (true, f, bump (polCtr 0x0110) s)
      else (false, if bit (byteAt m.raw 3) 3 then { f with dei := true } else f, bump (polCtr 0x0108) s)
    | .red =>
      let m := { m with red := m.red + 1 }
      let s := policeRed i m f safety (bump (polCtr 0x0118) (put m s))
      (true, f, if safety then safetyFlagged f.flow s else s)

/-! ### Gate lists at an instant (R361) -/

/-- The length of a list's cycle in ticks. -/
def GateList.cycle (l : GateList) : Tick := max 1 (nsTick l.cycleNs)

/-- The entry in effect `off` ticks into a cycle, from entry `i` on, and where it began. -/
def entryFrom : List GateEntry → Nat → Tick → Tick → Option (Nat × GateEntry × Tick)
  | [], _, _, _ => none
  | [e], i, _, at0 => some (i, e, at0)
  | e :: es, i, off, at0 =>
    if off < e.interval then some (i, e, at0) else entryFrom es (i + 1) (off - e.interval) (at0 + e.interval)

/-- The start of the cycle that holds an instant: the current one, or one counted back or on. -/
def cycleStartAt (g : GateRun) (cycle t : Tick) : Tick :=
  if t < g.start then t - (cycle - (g.start - t) % cycle) % cycle
  else if t < g.next ∨ g.next ≤ g.start then
    if g.next ≤ g.start then t - (t - g.start) % cycle else g.start
  else t - (t - g.next) % cycle

/-- The entry in effect at an instant: index, entry and the start of its run. -/
def gateEntryAt (g : GateRun) (t : Tick) : Option (Nat × GateEntry × Tick) :=
  match g.oper with
  | none => none
  | some l =>
    let c := cycleStartAt g l.cycle t
    entryFrom l.entries 0 (t - c) c

/-! ### Stream filters and gates (R448-R453) -/

/-- SF_BLOCKED, once for the frame that caused it (R453). -/
def sfBlocked (i gate cause : Nat) (f : Frame) (safety : Bool) (s : State) : State :=
  raiseFull 0x0400 0x0102 (le 2 i ++ le 1 cause ++ zeros 1 ++ le 2 f.flow ++ le 2 gate) f.stamp
    safety false s

/-- Step 3 of R440: the stream filter of the flow; whether it drops. -/
def filterStep (i : Nat) (f : Frame) (safety : Bool) (s : State) : Bool × State :=
  match tget? s.policing.filters i with
  | none => (false, s)
  | some x0 =>
    let x := { x0 with matching := x0.matching + 1 }
    let maxSdu := leAt x.raw 2 2
    let gi := leAt x.raw 4 2
    let fl := byteAt x.raw 6
    let len := meteredLen f
    let put (x : StreamFilter) (s : State) : State := { s with policing.filters := tset s.policing.filters i x }
    let flag (s : State) : State := if safety then safetyFlagged f.flow s else s
    let gateDrop (x : StreamFilter) (s : State) : Bool × State :=
      (true, flag (bump (polCtr 0x0128) (put { x with notGate := x.notGate + 1 } s)))
    if maxSdu ≠ 0 ∧ maxSdu < len then
      let s := flag (bump (polCtr 0x0120) s)
      let x := { x with notSdu := x.notSdu + 1 }
      if bit fl 0 && !x.blocked then
        (true, sfBlocked i gi 1 f safety (put { x with blocked := true } s))
      else (true, put x s)
    else if x.blocked then gateDrop x s
    else if gi = 0xFFFF then (false, put { x with passing := x.passing + 1 } s)
    else
      let g := tget s.policing.gates StreamGate.none gi
      if g.closed then gateDrop x s
      else
        match gateEntryAt g.run f.stamp with
        | none => (false, put { x with passing := x.passing + 1 } s)
        | some (_, e, run) =>
          let putG (g : StreamGate) (s : State) : State := { s with policing.gates := tset s.policing.gates gi g }
          if e.states % 2 = 0 then
            let (d, s) := gateDrop x s
            if bit fl 1 then (d, sfBlocked i gi 2 f safety (putG { g with closed := true } s)) else (d, s)
          else
            let sum := if g.sumStart = run then g.sum else 0
            if e.octetMax ≠ 0 ∧ e.octetMax < sum + len then
              let s := flag (bump (polCtr 0x0130) (put { x with notGate := x.notGate + 1 } s))
              if bit fl 2 then
                (true, sfBlocked i gi 3 f safety
                  (putG { g with closed := true, sumStart := run, sum := sum } s))
              else (true, putG { g with sumStart := run, sum := sum } s)
            else
              (false, put { x with passing := x.passing + 1 }
                (putG { g with sumStart := run, sum := sum + len } s))

/-! ### Containment (R462-R466) -/

/-- The quarantine of a target is in force. -/
def quarantined (s : State) (kind target : Nat) : Bool :=
  s.policing.quarantines.any fun q => q.kind == kind && q.target == target

/-- The number of quarantines started in the budget window of an instant (R464). -/
def newUsedAt (s : State) (t : Tick) : Nat :=
  if s.policing.budgetWindow = t / ms s.policing.winMs then s.policing.newUsed else 0

/-- A verdict that would quarantine a target: it extends a quarantine in force, starts one, or is
refused by the budget; gives the ACTION (R463, R464). -/
def quarantine (kind target cause holdMs : Nat) (t : Tick) (safety : Bool) (s : State) : Nat × State :=
  let p := s.policing
  let action := if kind = 0 then 2 else 3
  if quarantined s kind target then
    (action, { s with policing.quarantines := p.quarantines.map fun q =>
      if q.kind = kind ∧ q.target = target then { q with again := true } else q })
  else
    let w := t / ms p.winMs
    let used := newUsedAt s t
    if p.quarantines.length < p.maxActive ∧ used < p.newMax then
      let q : Quarantine :=
        { kind := kind, target := target, cause := cause, start := t, holdMs := holdMs,
          holdStart := t, again := false, dropped := 0 }
      let s := { s with policing.quarantines := p.quarantines ++ [q]
                        policing.budgetWindow := w
                        policing.newUsed := used + 1 }
      (action, bump (polCtr 0x0178) (mirror (.quarantine kind target cause holdMs true) s))
    else (4, setW1c 0x0400 0 2 target (bump (polCtr 0x0180) s))

/-- CONTAIN_START of a quarantine that a verdict started, after the verdict's own event; `n` were in force
before the verdict. -/
def announceStart (n : Nat) (t : Tick) (safety : Bool) (s : State) : State :=
  match s.policing.quarantines.drop n with
  | [q] => raiseFull 0x0400 0x0105
      (le 2 q.target ++ le 1 q.kind ++ le 1 q.cause ++ le 4 q.holdMs ++ le 2 (n + 1)) t safety false s
  | _ => s

/-- A quarantine ends with a reason (R463, R469). -/
def endQuarantine (q : Quarantine) (reason : Nat) (safety : Bool) (s : State) : State :=
  let s := mirror (.quarantine q.kind q.target q.cause q.holdMs false) s
  raiseFull 0x0400 0x0106 (le 2 q.target ++ le 1 q.kind ++ le 1 reason ++ le 4 q.dropped) s.now safety
    false { s with policing.quarantines := s.policing.quarantines.filter fun x => x != q }

/-- A source through which a safety flow passes, or a flow with SAFETY (R482). -/
def targetSafety (s : State) (kind target : Nat) : Bool :=
  if kind = 0 then flowSafety s target
  else match tget? s.policing.sources target with
    | some x => x.safetySeen
    | none => false

/-! ### The cadence monitor (R454-R460) -/

/-- A profile's bytes. -/
def profileOf (s : State) (n : Nat) : Bytes := tget s.policing.profiles (profileAtReset n) n

/-- Profile fields (R472). -/
def pLearnCount (b : Bytes) : Nat := byteAt b 1
def pJmaxPct (b : Bytes) : Nat := byteAt b 2
def pMissRelearn (b : Bytes) : Nat := byteAt b 3
def pTol (b : Bytes) : Tick := us (leAt b 4 4)
def pActInsert (b : Bytes) : Nat := byteAt b 8
def pActBabble (b : Bytes) : Nat := byteAt b 9
def pBabbleN (b : Bytes) : Nat := leAt b 10 2
def pBabbleWin (b : Bytes) : Tick := ms (leAt b 12 4)
def pHoldMs (b : Bytes) : Nat := leAt b 16 4
def pAcycN (b : Bytes) : Nat := leAt b 20 2

/-- A flow's monitor. -/
def cadOf (s : State) (f : Nat) : CadFlow := tget s.policing.flows (CadFlow.fresh 0) f

/-- Replace it. -/
def setCad (f : Nat) (x : CadFlow) (s : State) : State :=
  { s with policing.flows := tset s.policing.flows f x }

/-- W, the half-width of the acceptance window (R456). -/
def CadFlow.w (x : CadFlow) (tol : Tick) : Tick := min (x.jitter + tol) (x.period / 2 - 1)

/-- The distance of two instants. -/
def dist (a b : Nat) : Nat := if a ≤ b then b - a else a - b

/-- The intervals between recorded arrivals, newest first. -/
def intervals : List Tick → List Nat
  | a :: b :: r => (a - b) :: intervals (b :: r)
  | _ => []

/-- The decision of R455 over the recorded arrivals, newest first. -/
def CadFlow.decide (x : CadFlow) (jmaxPct : Nat) : CadFlow :=
  let is := intervals x.arrivals
  let p := is.foldl (· + ·) 0 / max 1 is.length
  let j := is.foldl (fun m i => max m (dist i p)) 0
  if p < 50000 ∨ 4000000000 < p ∨ jmaxPct * p < 100 * j then
    { x with state := .acyclic, arrivals := [], babble := none }
  else
    { x with state := .monitoring, arrivals := [], period := p, jitter := j,
             ref := x.arrivals.headD 0, missed := false, misses := 0, onTime := 0, maxDev := 0,
             babble := none }

/-- Move an instant by a signed number of ticks. -/
def shift (t : Nat) (d : Int) : Nat := (Int.ofNat t + d).toNat

/-- The adaptation of R457 after an ON_TIME arrival at `a`, expected at `e`. -/
def CadFlow.adapt (x : CadFlow) (a e : Tick) : CadFlow :=
  let dev : Int := Int.ofNat a - Int.ofNat e
  let m := max x.maxDev dev.natAbs
  let n := x.onTime + 1
  let j := max x.jitter dev.natAbs
  { x with ref := shift e (dev.tdiv 8), period := shift x.period (dev.tdiv 64)
           jitter := if n = 256 then max 1 m else j
           onTime := if n = 256 then 0 else n
           maxDev := if n = 256 then 0 else m
           missed := false, misses := 0 }

/-- A verdict of the monitor: kinds 1 INSERTED, 2 LOSS, 3 LATE, 4 BABBLE (R479). -/
def countVerdict (kind : Nat) (x : CadFlow) : CadFlow :=
  match kind with
  | 1 => { x with inserted := satAdd 0xFFFF x.inserted 1 }
  | 2 => { x with loss := satAdd 0xFFFF x.loss 1 }
  | 3 => { x with late := satAdd 0xFFFF x.late 1 }
  | _ => { x with babbles := satAdd 0xFFFF x.babbles 1 }

/-- The counter of a verdict (R471). -/
def verdictCtr (kind : Nat) : Nat :=
  match kind with
  | 1 => 0x0140
  | 2 => 0x0150
  | 3 => 0x0148
  | _ => 0x0158

/-- Report a verdict: counters, the safety flag and the event with its limit (R468, R479-R483,
R782). `devNs` is signed. -/
def reportVerdict (f kind action : Nat) (devNs : Int) (at_ : Tick) (safety : Bool) (s : State) :
    State :=
  let x := countVerdict kind (cadOf s f)
  let s := bump (polCtr (verdictCtr kind)) s
  let s := if safety then safetyFlagged f s else s
  let (last, supp) := tget x.limits (none, 0) kind
  let limited := !safety && kind != 4
  let quiet := limited && (match last with
    | some t => inWindow at_ t (ms 100)
    | none => false)
  if quiet then setCad f { x with limits := tset x.limits kind (last, supp + 1) } s
  else
    let n := if limited then satAdd 0xFFFF supp 1 else 1
    let x := if limited then { x with limits := tset x.limits kind (some at_, 0) } else x
    let dev := (devNs % 2 ^ 48).toNat
    raiseFull 0x0400 0x0103
      (le 2 f ++ le 1 kind ++ le 1 (if safety then 0 else action) ++ le 6 dev ++ le 2 n)
      at_ safety false (setCad f x s)

/-- Apply the action of a verdict on a flow without SAFETY (R462, R467): gives the ACTION and
whether the frame is dropped. -/
def verdictAction (act cause holdMs : Nat) (f : Frame) (safety : Bool) (s : State) :
    Nat × Bool × State :=
  if safety then (0, false, s)
  else if act = 1 then (1, true, s)
  else if act = 2 then
    let (a, s) := quarantine 0 f.flow cause holdMs f.stamp safety s
    (a, false, s)
  else if act = 3 then
    let (a, s) := quarantine 1 f.ingress cause holdMs f.stamp (targetSafety s 1 f.ingress) s
    (a, false, s)
  else (0, false, s)

/-- A babble event at the frame's instant (R459): reports BABBLE where the count is reached. -/
def babbleEvent (b : Bytes) (limit : Nat) (reached : Nat → Bool) (f : Frame) (safety : Bool)
    (s : State) : State :=
  let x := cadOf s f.flow
  if limit = 0 then s
  else
    let (t0, n) := match x.babble with
      | some (t0, n) => if inWindow f.stamp t0 (pBabbleWin b) then (t0, n + 1) else (f.stamp, 1)
      | none => (f.stamp, 1)
    if reached n then
      let s := setCad f.flow { x with babble := none } s
      let n := s.policing.quarantines.length
      let (a, _, s) := verdictAction (pActBabble b) 4 (pHoldMs b) f safety s
      announceStart n f.stamp safety (reportVerdict f.flow 4 a 0 f.stamp safety s)
    else setCad f.flow { x with babble := some (t0, n) } s

/-- Step 1 of R440: the cadence observation of a frame; whether the insertion action drops it. -/
def cadenceStep (f : Frame) (safety : Bool) (s : State) : Bool × State :=
  let x := cadOf s f.flow
  let b := profileOf s x.profile
  let a := f.stamp
  match x.state with
  | .learning =>
    let x := { x with arrivals := a :: x.arrivals }
    if pLearnCount b < x.arrivals.length then
      let x' := x.decide (pJmaxPct b)
      let mon := x'.state == CadState.monitoring
      let s := bump (polCtr (if mon then 0x0160 else 0x0168)) (setCad f.flow x' s)
      (false, raiseFull 0x0400 0x0104
        (le 2 f.flow ++ le 1 (if mon then 2 else 3) ++ zeros 1 ++
          (if mon then le 4 x'.period ++ le 4 x'.jitter else zeros 8)) a safety false s)
    else (false, setCad f.flow x s)
  | .monitoring =>
    let e := x.ref + x.period
    let w := x.w (pTol b)
    let ns (d : Int) : Int := 2 * d
    if x.missed && decide (x.ref ≤ a + w) && decide (a < x.ref + x.period / 2) then
      let s := setCad f.flow { x with missed := false } s
      (false, reportVerdict f.flow 3 0 (ns (Int.ofNat a - Int.ofNat x.ref)) a safety s)
    else if decide (e ≤ a + w) && decide (a < e + w) then
      (false, bump (polCtr 0x0138) (setCad f.flow (x.adapt a e) s))
    else
      let n := s.policing.quarantines.length
      let (act, drop, s) := verdictAction (pActInsert b) 1 (pHoldMs b) f safety s
      let s := announceStart n a safety (reportVerdict f.flow 1 act (ns (Int.ofNat a - Int.ofNat e)) a safety s)
      (drop, babbleEvent b (pBabbleN b) (fun n => decide (pBabbleN b ≤ n)) f safety s)
  | .acyclic =>
    (false, babbleEvent b (pAcycN b) (fun n => decide (pAcycN b < n)) f safety s)

/-- A missed acceptance window is judged (R458). -/
def cadenceMiss (f : Nat) (s : State) : State :=
  let x := cadOf s f
  let b := profileOf s x.profile
  let e := x.ref + x.period
  let w := x.w (pTol b)
  let safety := flowSafety s f
  let x' := { x with ref := e, missed := true, misses := x.misses + 1 }
  let s := reportVerdict f 2 0 0 (e + w) safety (setCad f x' s)
  if pMissRelearn b ≤ x'.misses then
    let y := cadOf s f
    setCad f { CadFlow.fresh y.profile with inserted := y.inserted, late := y.late, loss := y.loss
                                            babbles := y.babbles, limits := y.limits } s
  else s

/-- A flow returns to LEARNING, ending its quarantine with reason 3 (R469, R782). -/
def relearn (f : Nat) (s : State) : State :=
  let x := cadOf s f
  let s := if thas s.policing.flows f then
      setCad f { CadFlow.fresh x.profile with inserted := x.inserted, late := x.late, loss := x.loss
                                              babbles := x.babbles
                                              limits := tmap x.limits fun _ l => (l.1, 0) } s
    else s
  match s.policing.quarantines.find? (fun q => q.kind == 0 && q.target == f) with
  | some q => endQuarantine q 3 (flowSafety s f) s
  | none => s

/-- Every flow returns to LEARNING (R469). -/
def relearnAll (s : State) : State :=
  let fs := (s.policing.flows.map fun e => e.1) ++
    (s.policing.quarantines.filter fun q => q.kind == 0).map fun q => q.target
  fs.eraseDups.foldl (fun s f => relearn f s) s

/-! ### Sources (R461) -/

/-- The sources a frame belongs to (R461): its gport, and the J1939 entries that cover it. -/
def sourcesOf (s : State) (f : Frame) : List Nat :=
  let j := (s.policing.sources.filter fun e => decide (0x0100 ≤ e.1) && (match f.bus with
      | some c => byteAt e.2.raw 2 == f.ingress && byteAt e.2.raw 3 == c.id % 256
      | none => false)).map fun e => e.1
  f.ingress :: j

/-- A frame counts in a source's window; the verdict SOURCE_BABBLE (R461). -/
def sourceStep (i : Nat) (f : Frame) (safety : Bool) (s : State) : State :=
  match tget? s.policing.sources i with
  | none => s
  | some x0 =>
    let x := { x0 with safetySeen := x0.safetySeen || safety }
    let maxFrames := leAt x.raw 8 4
    if maxFrames = 0 then { s with policing.sources := tset s.policing.sources i x }
    else
      let w := f.stamp / ms (max 1 (leAt x.raw 6 2))
      let x := if x.window < w then { x with window := w, count := 1, given := false }
        else { x with count := x.count + 1 }
      if maxFrames < x.count ∧ x.given = false then
        let s := { s with policing.sources := tset s.policing.sources i { x with given := true } }
        let n := s.policing.quarantines.length
        let (a, s) := if byteAt x.raw 4 = 3 then
            quarantine 1 i 5 (leAt x.raw 12 4) f.stamp x.safetySeen s
          else (0, s)
        announceStart n f.stamp x.safetySeen (raiseFull 0x0400 0x0107
          (le 2 i ++ le 1 a ++ zeros 1 ++ le 4 (maxFrames + 1)) f.stamp x.safetySeen false (bump (polCtr 0x0170) s))
      else { s with policing.sources := tset s.policing.sources i x }

/-! ### Stage 4 (R440) -/

/-- Charge a containment drop to the first quarantine that makes it. -/
def chargeQuarantine (f : Frame) (srcs : List Nat) (s : State) : State :=
  let hit (q : Quarantine) : Bool :=
    (q.kind == 0 && q.target == f.flow) || (q.kind == 1 && srcs.contains q.target)
  { s with policing.quarantines := s.policing.quarantines.map fun q =>
      if hit q then { q with dropped := q.dropped + 1 } else q }

/-- Stage 4 on a frame with its flow (R440, R442): whether it is dropped, the frame and the state. -/
def stage4 (f : Frame) (s : State) : Bool × Frame × State :=
  let fl := frameFlow s f
  let safety := fl.safety
  let s := countFlowFrame f.flow s
  let srcs := sourcesOf s f
  let held := !safety && (quarantined s 0 f.flow || srcs.any fun i => quarantined s 1 i)
  let (ins, s) := if fl.cadence then cadenceStep f safety s else (false, s)
  let s := srcs.foldl (fun s i => sourceStep i f safety s) s
  if held || ins then
    let s := if held then chargeQuarantine f srcs s else s
    (true, f, countFlowDrop f.flow (bump (polCtr 0x0188) s))
  else
    let (d3, s) := if fl.filter = 0xFFFF then (false, s) else filterStep fl.filter f safety s
    if d3 then (true, f, countFlowDrop f.flow s)
    else
      let (d4, f, s) := if fl.policer = 0xFFFF then (false, f, s) else meterStep fl.policer f safety s
      (d4, f, if d4 then countFlowDrop f.flow s else s)

end Sys2Proof.Machine
end

