-- ==== Sys2Proof/Machine/CipherOps.lean ====
section
/-!
DEFINITION. Protection and verification of frames: MACsec (R582-R585), the secured-PDU trailer
(R586-R595) and failing keys (R596, R597).
-/
namespace Sys2Proof.Machine

/-- The address of a cipher counter (R606). -/
def ciphCtr (o : Nat) : Nat := unitBase 0x0600 + o

/-! ### Profiles (R586-R588) -/

/-- The profile a flow entry names in a generation. -/
def profileIn (s : State) (gen i : Nat) : Option Bytes :=
  if i = 0xFFFF then none else genObj s gen .prot i

/-- A frame is exempt from MACsec at a port by a bypass profile (R583, R587). -/
def bypasses (s : State) (gen i g : Nat) : Bool :=
  isEth g && (match profileIn s gen i with
    | some b => byteAt b 2 == 0
    | none => false)

/-- The secured-PDU profile that acts on a frame at a gport (R587). -/
def securedProfile (s : State) (gen i g : Nat) : Option Bytes :=
  if g < 32 then (profileIn s gen i).filter fun b => byteAt b 2 == 1 else none

/-- TX_FV and LATEST of a profile (R588). -/
def freshOf (s : State) (i : Nat) : Nat × Nat := tget s.cipher.fresh (0, 0) i

/-- Set them, with what a PERSIST profile keeps (R595). -/
def setFresh (i : Nat) (persist : Bool) (tx latest : Nat) (s : State) : State :=
  let old := freshOf s i
  let s := { s with cipher.fresh := tset s.cipher.fresh i (tx, latest) }
  let s := if tx != old.1 && tx % 256 == 0 then mirror (.securedFv i tx) s else s
  let s := if persist && tx != old.1 && tx % 2 ^ 16 == 0 then monoWrite (mcTxFv i) tx s else s
  if persist && latest != old.2 && latest / 2 ^ 16 != old.2 / 2 ^ 16 then
    monoWrite (mcLatest i) (latest / 2 ^ 16 * 2 ^ 16) s
  else s

/-! ### Failures (R594, R597) -/

/-- VERIFY_FAIL of a kind, limited to one in 100 ms except for a SAFETY flow, and the report to
Armature (R594, R734 row 12, R782). -/
def verifyFail (kind object : Nat) (f : Frame) (safety : Bool) (s : State) : State :=
  let key := 8 * f.flow + kind
  let (last, supp) := tget s.cipher.limits (none, 0) key
  let quiet := !safety && (match last with
    | some t => inWindow f.stamp t (ms 100)
    | none => false)
  let s := countFlowDrop f.flow s
  if quiet then { s with cipher.limits := tset s.cipher.limits key (last, supp + 1) }
  else
    let n := if safety then 1 else satAdd 0xFFFF supp 1
    let s := if safety then s
      else { s with cipher.limits := tset s.cipher.limits key (some f.stamp, 0) }
    let s := raiseFull 0x0600 0x0182
      (le 1 kind ++ le 1 f.ingress ++ le 2 f.flow ++ le 2 object ++ le 2 n) f.stamp safety false s
    if safety then safetyE 12 f.flow s else s

/-- CIPHER_ABORT: KIND 1 ingress, 2 egress, 3 job (R597, R609). -/
def cipherAbortEvent (slot kind g flow off : Nat) (s : State) : State :=
  let s := bump (ciphCtr 0x0910) (setW1c 0x0600 0x0800 12 slot s)
  raiseEvent 0x0600 0x0181
    (le 2 slot ++ le 1 kind ++ le 1 g ++ le 2 flow ++ zeros 2 ++ le 4 off) s

/-- MSG_DONE counts a message that completes (R606). -/
def messageDone (s : State) : State := bump (ciphCtr 0x0900) s

/-- Start a message on a slot: its key, or none with what R596 and R597 count for a start refused. -/
def startMessage (slot kind g flow : Nat) (s : State) : Option Bytes × State :=
  match useKey slot s with
  | (.ok key, s) => (some key, s)
  | (.error st, s) => (none, if st = stKeyRevoked then cipherAbortEvent slot kind g flow 0 s else s)

/-! ### MACsec -/

/-- The SecY of a port. -/
def secY (s : State) (g : Nat) : SecY := tget s.cipher.secys SecY.off g

/-- Replace it. -/
def setSecY (g : Nat) (x : SecY) (s : State) : State :=
  { s with cipher.secys := tset s.cipher.secys g x }

/-- Fields of `MACSEC_SECY_SET` (R607). -/
def SecY.enabled (x : SecY) : Bool := byteAt x.raw 1 == 1
def SecY.strict (x : SecY) : Bool := byteAt x.raw 3 == 1
def SecY.xpn (x : SecY) : Bool := decide (2 ≤ byteAt x.raw 2)
def SecY.off_ (x : SecY) : Nat := byteAt x.raw 4
def SecY.conf (x : SecY) : Bool := bit (byteAt x.raw 5) 0
def SecY.replay (x : SecY) : Bool := bit (byteAt x.raw 5) 1
def SecY.clearTag (x : SecY) : Bool := bit (byteAt x.raw 5) 2
def SecY.window (x : SecY) : Nat := leAt x.raw 8 4

/-- The number of an SA in a SecY's table. -/
def saKey (dir sc an : Nat) : Nat := 64 * dir + 4 * sc + an

/-- Fields of `MACSEC_SA_SET`. -/
def Sa.slot (x : Sa) : Nat := leAt x.raw 4 2
def Sa.on (x : Sa) : Bool := byteAt x.raw 6 == 1
def Sa.ssci (x : Sa) : Nat := leAt x.raw 16 4
def Sa.salt (x : Sa) : Bytes := slice x.raw 20 12

/-- The highest PN of a SecY's suite (R585). -/
def SecY.topPn (x : SecY) : Nat := if x.xpn then 2 ^ 64 - 1 else 0xFFFFFFFF

/-- The 12-byte initial vector of a frame (IEEE 802.1AE). -/
def macsecIv (x : SecY) (a : Sa) (sci pn : Nat) : Bytes :=
  if x.xpn then
    (List.zipWith (fun u v => u ^^^ v) (be 4 a.ssci ++ be 8 pn) a.salt)
  else be 8 sci ++ be 4 pn

/-- Where the SecTAG stands: after the addresses, or after one VLAN tag left clear (R582). -/
def secTagAt (x : SecY) (d : Bytes) : Nat := if x.clearTag && isTpid (beAt d 12 2) then 16 else 12

/-- The octets left in the clear at the front of the user data. -/
def SecY.clearLen (x : SecY) (n : Nat) : Nat := if x.conf then min n x.off_ else n

/-- An Ethernet frame protected with an SA and PN (R582, IEEE 802.1AE). -/
def macsecSeal (x : SecY) (a : Sa) (key : Bytes) (g an pn : Nat) (d : Bytes) : Bytes :=
  let o := secTagAt x d
  let user := d.drop o
  let sci := (Config.macsecSci g).toNat
  let sl := if user.length < 48 then user.length else 0
  let hdr := d.take o ++ be 2 0x88E5 ++ le 1 (0x20 + (if x.conf then 12 else 0) + an) ++ le 1 sl ++
    be 4 pn ++ be 8 sci
  let n := x.clearLen user.length
  let plain := user.drop n
  let aad := hdr ++ user.take n
  let iv := macsecIv x a sci pn
  aad ++ padTo plain.length (Config.gcmText key iv aad plain true) ++
    be 16 (Config.gcmTag key iv aad plain).toNat

/-- The PN of a received frame: under XPN the nearest number at or above the lowest acceptable. -/
def fullPn (x : SecY) (low pn : Nat) : Nat :=
  if x.xpn then
    let hi := low / 2 ^ 32
    if low % 2 ^ 32 ≤ pn ∨ low % 2 ^ 32 < 2 ^ 31 then hi * 2 ^ 32 + pn else (hi + 1) * 2 ^ 32 + pn
  else pn

/-- A received frame at a SecY in Strict: `none` where it is dropped (R583, R584). -/
def macsecRx (f : Frame) (fl : FlowEntry) (s : State) : Option Frame × State :=
  let g := f.ingress
  let x := secY s g
  let d := f.data
  let o := secTagAt x d
  let safety := fl.safety
  let drop (kind object ctr : Nat) (s : State) : Option Frame × State :=
    (none, verifyFail kind object f safety (bump (ciphCtr ctr) s))
  if beAt d o 2 ≠ 0x88E5 then
    if bypasses s f.gen fl.protIn g then (some f, s) else drop 4 0xFFFF 0x0940 s
  else
    let tci := byteAt d (o + 2)
    let an := tci % 4
    let sci := beAt d (o + 8) 8
    let formed := bits tci 7 7 == 0 && bits tci 5 5 == 1 && decide (o + 32 ≤ d.length) &&
      decide (byteAt d (o + 3) < 48)
    let sc := x.rxsc.find? fun e => byteAt e.2 2 == 1 && leAt e.2 4 8 == sci
    match formed, sc with
    | true, some (i, _) =>
      match tget? x.sas (saKey 1 i an) with
      | none => drop 3 0xFFFF 0x0938 s
      | some a =>
        if !a.on then drop 3 0xFFFF 0x0938 s
        else
          let pn := fullPn x a.pn (beAt d (o + 4) 4)
          if x.replay && decide (pn < a.pn) then drop 2 i 0x0930 s
          else
            match startMessage a.slot 1 g f.flow s with
            | (none, s) => (none, countFlowDrop f.flow s)
            | (some key, s) =>
              let s := messageDone s
              let secured := (d.drop (o + 16)).take (d.length - (o + 32))
              let n := if bit tci 3 then min secured.length x.off_ else secured.length
              let aad := d.take (o + 16) ++ secured.take n
              let iv := macsecIv x a sci pn
              let ct := secured.drop n
              let plain := padTo ct.length (Config.gcmText key iv aad ct false)
              if be 16 (Config.gcmTag key iv aad plain).toNat = d.drop (d.length - 16) then
                let low := max a.pn (pn + 1 - x.window)
                let x' := { x with sas := tset x.sas (saKey 1 i an) { a with pn := low } }
                (some { f with data := d.take o ++ secured.take n ++ plain, verified := true, sc := some i },
                  bump (ciphCtr 0x0920) (setSecY g x' s))
              else drop 1 i 0x0928 s
    | _, _ => drop 3 0xFFFF 0x0938 s

/-! ### The secured-PDU trailer -/

/-- Fields of a profile (R586). -/
def pfSlot (b : Bytes) : Nat := leAt b 4 2
def pfTfv (b : Bytes) : Nat := byteAt b 6 / 8
def pfMac (b : Bytes) : Nat := byteAt b 7 / 8
def pfPersist (b : Bytes) : Bool := bit (byteAt b 3) 0

/-- The MAC of the authenticated bytes under a freshness value (R590). -/
def trailerMac (b key data : Bytes) (fv : Nat) : Bytes :=
  (cmac key (be (if bit (byteAt b 3) 1 then 4 else 2) (leAt b 8 4) ++ data ++ be 8 fv)).take (pfMac b)

/-- Verification of a CAN or LIN frame (R593): `none` where it is dropped. -/
def securedRx (b : Bytes) (f : Frame) (c : CanFrame) (safety : Bool) (s : State) :
    Option Frame × State :=
  let i := leAt b 0 2
  let (tx, latest) := freshOf s i
  match startMessage (pfSlot b) 1 f.ingress f.flow s with
  | (none, s) => (none, countFlowDrop f.flow s)
  | (some key, s) =>
    let s := messageDone s
    let tl := pfTfv b + pfMac b
    let data := c.data.take (c.dlen - tl)
    let m := 2 ^ (8 * pfTfv b)
    let tfv := beAt c.data (c.dlen - tl) (pfTfv b)
    let cand0 := latest / m * m + tfv
    let cand := if cand0 ≤ latest then cand0 + m else cand0
    let macOk := decide (tl ≤ c.dlen) &&
      trailerMac b key data cand == slice c.data (c.dlen - pfMac b) (pfMac b)
    if leAt b 12 4 < cand - latest then
      (none, verifyFail 6 i f safety (bump (ciphCtr 0x0960) s))
    else if !macOk then (none, verifyFail 5 i f safety (bump (ciphCtr 0x0958) s))
    else
      (some { f with bus := some { c with data := data, dlen := c.dlen - tl }, verified := true },
        bump (ciphCtr 0x0950) (setFresh i (pfPersist b) tx cand s))

/-- Stage 5 on a frame (R583, R587, R593). -/
def verifyIngress (f : Frame) (s : State) : Option Frame × State :=
  let fl := frameFlow s f
  match f.bus with
  | none =>
    if isEth f.ingress && (secY s f.ingress).enabled && (secY s f.ingress).strict then macsecRx f fl s
    else (some f, s)
  | some c =>
    match securedProfile s f.gen fl.protIn f.ingress with
    | some b => securedRx b f c fl.safety s
    | none => (some f, s)

/-- The valid lengths of a CAN FD frame (R198). -/
def fdLengths : List Nat := [0, 1, 2, 3, 4, 5, 6, 7, 8, 12, 16, 20, 24, 32, 48, 64]

/-- The least valid CAN FD length of at least `n`. -/
def fdLength (n : Nat) : Option Nat := fdLengths.find? fun l => decide (n ≤ l)

/-- The DLC of a data length (ISO 11898-1). -/
def dlcOf (n : Nat) : Nat := (fdLengths.findIdx? fun l => l == n).getD 15

/-- A CAN or LIN frame with the trailer of a profile (R589-R592); `none` where its slot refuses. -/
def securedTx (b : Bytes) (g flow : Nat) (c : CanFrame) (s : State) : Option CanFrame × State :=
  match startMessage (pfSlot b) 2 g flow s with
  | (none, s) => (none, s)
  | (some key, s) =>
    let s := messageDone s
    let i := leAt b 0 2
    let (tx, latest) := freshOf s i
    let fv := tx + 1
    let tl := pfTfv b + pfMac b
    let pad := if c.fmt = 1 then (fdLength (c.dlen + tl)).getD (c.dlen + tl) - (c.dlen + tl) else 0
    let data := padTo c.dlen c.data ++ List.replicate pad (BitVec.ofNat 8 (byteAt b 16))
    let out := data ++ be (pfTfv b) fv ++ trailerMac b key data fv
    let n := out.length
    (some { c with data := out, dlen := n, dlc := if c.fmt ≤ 1 then dlcOf n else c.dlc },
      bump (ciphCtr 0x0948) (setFresh i (pfPersist b) fv latest s))

/-! ### Egress protection (R583, R585) -/

/-- An SA can send: enabled, with an ACTIVE slot and a PN left. -/
def saUsable (s : State) (x : SecY) (an : Nat) : Bool :=
  match tget? x.sas (saKey 0 0 an) with
  | some a => a.on && (keyRefusal s a.slot).isNone && decide (a.pn ≤ x.topPn)
  | none => false

/-- The SA to send with at a frame start, with the switch of R585: its AN, or none. -/
def chooseSa (g : Nat) (s : State) : Option Nat × State :=
  let x := secY s g
  let switch (an cause : Nat) (s : State) : State :=
    let x := secY s g
    let pn := match tget? x.sas (saKey 0 0 an) with
      | some a => a.pn
      | none => 0
    let s := setSecY g { x with encAn := an, switchTo := none } s
    raiseEvent 0x0600 0x0183 (le 1 g ++ le 1 x.encAn ++ le 1 an ++ le 1 cause ++ le 8 pn)
      (bump (ciphCtr 0x0968) s)
  let s := match x.switchTo with
    | some an => if an = x.encAn then setSecY g { x with switchTo := none } s else switch an 3 s
    | none => s
  let x := secY s g
  if saUsable s x x.encAn then (some x.encAn, s)
  else
    let next := (x.encAn + 1) % 4
    let a := tget x.sas { raw := [], pn := 0, exhausted := false } (saKey 0 0 x.encAn)
    if saUsable s x next then (some next, switch next (if x.topPn < a.pn then 1 else 2) s)
    else
      let s := match keyRefusal s a.slot with
        | some st => refuse st s
        | none => s
      if thas x.sas (saKey 0 0 x.encAn) && !a.exhausted then
        let x' := { x with sas := tset x.sas (saKey 0 0 x.encAn) { a with exhausted := true } }
        (none, raiseEvent 0x0600 0x0184 (le 1 g ++ le 1 x.encAn) (setSecY g x' s))
      else (none, s)

/-- Whether MACsec applies to a frame leaving a port (R583). -/
def macsecApplies (s : State) (g gen protOut : Nat) : Bool :=
  isEth g && (secY s g).enabled && !bypasses s gen protOut g

/-- MACsec protection of a frame leaving a port, where its SecY applies (R583): the bytes as sent and the
slot that protects them, or none where no SA can send it. -/
def protectEth (g : Nat) (gen flow protOut : Nat) (d : Bytes) (s : State) :
    Option (Bytes × Option Nat) × State :=
  if !macsecApplies s g gen protOut then (some (d, none), s)
  else
    match chooseSa g s with
    | (none, s) => (none, s)
    | (some an, s) =>
      let x := secY s g
      match tget? x.sas (saKey 0 0 an) with
      | none => (none, s)
      | some a =>
        match startMessage a.slot 2 g flow s with
        | (none, s) => (none, s)
        | (some key, s) =>
          let x := secY s g
          let s := setSecY g { x with sas := tset x.sas (saKey 0 0 an) { a with pn := a.pn + 1 } } s
          let s := if (a.pn + 1) % 4096 = 0 then mirror (.macsecPn (g * 256 + saKey 0 0 an) (a.pn + 1)) s else s
          (some (macsecSeal x a key g an a.pn d, some a.slot), bump (ciphCtr 0x0918) s)

/-! ### Lanes (R576-R580) -/

/-- Lane `n`. -/
def laneOf (s : State) (n : Nat) : Lane := tget s.cipher.lanes { run := none, suspended := [] } n

/-- Replace it. -/
def setLane (n : Nat) (x : Lane) (s : State) : State := { s with cipher.lanes := tset s.cipher.lanes n x }

/-- The four lanes. -/
def lanes : List Nat := [0, 1, 2, 3]

/-- The running message of a lane may be suspended (R578). -/
def Lane.suspendable (x : Lane) : Bool := match x.run with
  | some m => !m.begun && decide (x.suspended.length < 2)
  | none => false

/-- The least urgent suspendable lane, the lowest-numbered among equals. -/
def weakestLane (s : State) : Option (Nat × LaneMsg) :=
  (lanes.filterMap fun n => if (laneOf s n).suspendable then (laneOf s n).run.map fun m => (n, m) else none).foldl
    (fun best e => match best with
      | some b => if e.2.urgency < b.2.urgency then some e else best
      | none => some e) none

/-- The lane a message of an urgency would take now: an idle one, or one whose message it displaces. -/
def laneChoice (s : State) (urgency : Nat) : Option Nat :=
  match lanes.find? (fun n => (laneOf s n).run.isNone) with
  | some n => some n
  | none => match weakestLane s with
    | some (n, m) => if m.urgency < urgency then some n else none
    | none => none

/-- A message takes a lane, suspending what runs there (R576, R578, R579). -/
def laneStart (n : Nat) (m : LaneMsg) (s : State) : State :=
  let x := laneOf s n
  match x.run with
  | none => setLane n { x with run := some m } s
  | some old => bump (ciphCtr 0x0908) (setLane n { run := some m, suspended := old :: x.suspended } s)

/-- A lane's message ends, and the one suspended last resumes (R580). -/
def laneEnd (n : Nat) (s : State) : State :=
  let x := laneOf s n
  match x.suspended with
  | [] => setLane n { x with run := none } s
  | m :: r => setLane n { run := some m, suspended := r } s

/-- The lane that runs the egress message of a port. -/
def egressLane (s : State) (g : Nat) : Option Nat :=
  lanes.find? fun n => match (laneOf s n).run with
    | some m => m.job.isNone && m.gport == g
    | none => false

/-- The egress message of a port ends with its frame. -/
def egressLaneEnd (g : Nat) (s : State) : State := match egressLane s g with
  | some n => laneEnd n s
  | none => s

end Sys2Proof.Machine
end

