-- ==== Sys2Proof/Machine/HostOps.lean ====
section
/-!
DEFINITION. Operations of host attachment below the commands: translation by the DMMU (R138-R141),
memories by address, and the descriptor rings (R122-R147).
-/
namespace Sys2Proof.Machine

/-! ### Internal addresses (R35, R37, R41) -/

/-- The base of LPDDR5. -/
def lpddrBase : Nat := 0x1000000000

/-- The end of the fitted LPDDR5 (R37): its base is 64 GiB. -/
def lpddrEnd : Nat := (64 + Config.lpddrGiB) * 2 ^ 30

/-- An internal address lies in LPDDR5. -/
def isLpddr (a : Nat) : Bool := decide (lpddrBase ≤ a) && decide (a < lpddrEnd)

/-- The 256 MiB of LPDDR5 reserved to the 9460 (R37). -/
def isReservedLpddr (a : Nat) : Bool := decide (lpddrBase ≤ a) && decide (a < lpddrBase + 2 ^ 28)

/-- Unit registers. -/
def isUnitReg (a : Nat) : Bool := decide (0x0800000000 ≤ a) && decide (a < 0x080C000000)

/-- The secure bank and the key store, which only Herax reaches (R42). -/
def isHeraxOnly (a : Nat) : Bool :=
  (decide (0x0300000000 ≤ a) && decide (a < 0x0300080000)) ||
    (decide (0x0600200000 ≤ a) && decide (a < 0x0600240000))

/-- A populated address of the internal map (R35, R36). -/
def isMapped (a : Nat) : Bool :=
  decide (a < 0x40000) || (decide (0x0100000000 ≤ a) && decide (a < 0x0100100000)) ||
    (decide (0x0200000000 ≤ a) && decide (a < 0x0200400000)) ||
    (decide (0x0300000000 ≤ a) && decide (a < 0x0300080000)) ||
    (decide (0x0400000000 ≤ a) && decide (a < 0x0401000000)) ||
    (decide (0x0500000000 ≤ a) && decide (a < 0x0500680000)) ||
    (decide (0x0600000000 ≤ a) && decide (a < 0x0600800000)) ||
    (isUnitReg a && unitExists ((a - 0x0800000000) / 0x10000)) || isLpddr a ||
    (decide (0x2000000000 ≤ a) && decide (a < 0x2000000000 + Config.norMiB * 2 ^ 20))

/-! ### The DMMU (R138-R142) -/

/-- A context. -/
def ctxOfNum (s : State) (c : Nat) : Context := tget s.host.ctxs { owner := none, enabled := false, pages := [] } c

/-- The owner of a context: partners 0 to 7 for contexts 0 to 7, no partner for 8 to 15 (R171). -/
def ctxOwner (s : State) (c : Nat) : Option Nat :=
  if c < 8 then some c else if c < 16 then none else (ctxOfNum s c).owner

/-- The bytes of a page. -/
def Page.size (p : Page) : Nat := if p.big then 2 ^ 21 else 2 ^ 12

/-- The page that holds a virtual address. -/
def pageAt (x : Context) (va : Nat) : Option (Nat × Page) :=
  x.pages.find? fun e => decide (e.1 ≤ va) && decide (va < e.1 + e.2.size)

/-- A translated address: in host memory or in the internal map. -/
structure Target where
  host : Bool
  addr : Nat
deriving DecidableEq, Repr

/-- Translation of one virtual address for a read or a write; the cause of R128 where it faults. -/
def translate (s : State) (c va : Nat) (write : Bool) : Except Nat Target :=
  match pageAt (ctxOfNum s c) va with
  | none => .error (if s.lpddrUp then 1 else 9)
  | some (b, p) =>
    if !s.lpddrUp && !p.pinned then .error 9
    else if !p.perm.testBit (if write then 1 else 0) then .error 2
    else
      let a := p.pa + (va - b)
      if !p.host && isHeraxOnly a then .error 3 else .ok { host := p.host, addr := a }

/-- The DMMU_FAULT event of an access (R141). -/
def dmmuFault (master c cause va : Nat) (write : Bool) (s : State) : State :=
  raiseEvent 0x0B00 0x0102 (le 1 c ++ le 1 master ++ le 1 cause ++ le 1 (b2n write) ++ le 8 (va % 2 ^ 39)) s

/-- The internal target memory that ring and job masters reach is LPDDR5 (R37). -/
def Target.bulk (x : Target) : Bool := x.host || isLpddr x.addr

/-- One byte of host memory or LPDDR5. -/
def loadByte (s : State) (x : Target) : Byte :=
  if x.host then memRead s.host.mem x.addr else memRead s.host.internal x.addr

/-- Write one byte of host memory or LPDDR5. -/
def storeByte (x : Target) (b : Byte) (s : State) : State :=
  if x.host then { s with host.mem := memWrite s.host.mem x.addr b }
  else { s with host.internal := memWrite s.host.internal x.addr b }

/-- Translate for a bulk master: a target that it may not reach faults with cause 3. -/
def bulkTarget (s : State) (c va : Nat) (write : Bool) : Except Nat Target :=
  match translate s c va write with
  | .ok x => if x.bulk then .ok x else .error 3
  | .error e => .error e

/-- Read `n` bytes at a virtual address: the bytes before the first fault, and its cause. -/
def bulkRead (s : State) (c : Nat) : Nat → Nat → Bytes × Option Nat
  | _, 0 => ([], none)
  | va, n + 1 =>
    match bulkTarget s c va false with
    | .error e => ([], some e)
    | .ok x =>
      let (bs, e) := bulkRead s c (va + 1) n
      (loadByte s x :: bs, e)

/-- Write bytes at a virtual address: how many were written before the first fault, and its cause. -/
def bulkWrite (c : Nat) : Nat → Bytes → State → Nat × Option Nat × State
  | _, [], s => (0, none, s)
  | va, b :: bs, s =>
    match bulkTarget s c va true with
    | .error e => (0, some e, s)
    | .ok x =>
      let (n, e, s) := bulkWrite c (va + 1) bs (storeByte x b s)
      (n + 1, e, s)

/-! ### Rings -/

/-- Ring `n`, if a partner owns it. -/
def ringOf (s : State) (n : Nat) : Option Ring := tget? s.host.rings n

/-- Replace it. -/
def setRing (n : Nat) (r : Ring) (s : State) : State := { s with host.rings := tset s.host.rings n r }

/-- Fields of `RING_CONFIG` (R170). -/
def Ring.rx (r : Ring) : Bool := byteAt r.raw 1 == 1
def Ring.tc (r : Ring) : Nat := byteAt r.raw 2
def Ring.size (r : Ring) : Nat := 2 ^ byteAt r.raw 3
def Ring.ctx (r : Ring) : Nat := byteAt r.raw 4
def Ring.bufSize (r : Ring) : Nat := leAt r.raw 6 2
def Ring.base (r : Ring) : Nat := leAt r.raw 8 8
def Ring.wbAddr (r : Ring) : Nat := leAt r.raw 16 8
def Ring.coalUs (r : Ring) : Nat := leAt r.raw 24 2

/-- min(S, 65,535): the most descriptors between DONE and the tail (R123). -/
def Ring.most (r : Ring) : Nat := min r.size 65535

/-- Descriptors posted beyond HEAD. -/
def Ring.posted (r : Ring) : Nat := (r.tail - r.head).toNat

/-- The virtual address of the descriptor at a pointer. -/
def Ring.descVa (r : Ring) (p : Half) : Nat := r.base + 32 * (p.toNat % r.size)

/-- The owner's host port carries the ring: HOSTP while its link is up, or HOSTS (R122). -/
def ringServed (s : State) (r : Ring) : Bool :=
  (partner s r.owner).transport == 2 || ((partner s r.owner).transport == 1 && s.host.linkUp)

/-- The gport of a ring's owner. -/
def ringGport (s : State) (r : Ring) : Nat := if (partner s r.owner).transport = 2 then gHosts else gHostp

/-- The ring stops with a cause (R128, R144, R145). -/
def ringStop (n cause : Nat) (fault frame : Half) (off : Nat) (s : State) : State :=
  match ringOf s n with
  | none => s
  | some r =>
    let s := setRing n { r with st := 2, cause := cause, faultDesc := fault, frameDesc := frame, offset := off } s
    raiseEvent 0x0B00 0x0101
      (le 1 n ++ le 1 cause ++ le 2 fault.toNat ++ le 2 frame.toNat ++ zeros 2 ++ le 4 off) s

/-- A ring's access faults: DMMU_FAULT and the stop. -/
def ringFault (n cause va : Nat) (write : Bool) (fault frame : Half) (off : Nat) (s : State) : State :=
  match ringOf s n with
  | none => s
  | some r => ringStop n cause fault frame off (dmmuFault 8 r.ctx cause va write s)

/-- A pointer with its complement (R104). -/
def ptrWord (p : Half) : Bytes := le 2 p.toNat ++ le 2 (~~~p).toNat

/-- The writeback and the vector after frames completed (R132). -/
def ringNotify (n : Nat) (s : State) : State :=
  match ringOf s n with
  | none => s
  | some r =>
    let s :=
      if r.wbAddr = 0 then s
      else
        match bulkWrite r.ctx r.wbAddr (ptrWord r.done ++ ptrWord r.head) s with
        | (_, none, s) => s
        | (k, some e, s) => ringFault n e (r.wbAddr + k) true r.done r.done 0 s
    match ringOf s n with
    | none => s
    | some r =>
      if (partner s r.owner).transport != 1 then s
      else if r.coalUs = 0 then raiseVec n s
      else setRing n { r with firstUnsig := some (r.firstUnsig.getD s.now) } s

/-- DONE of a TX ring: the first descriptor still awaited. -/
def Ring.txDone (r : Ring) : Half :=
  match r.stamps, r.fetch with
  | x :: _, _ => x.2.1
  | [], some f => f.desc
  | [], none => r.head

/-- A TX frame's descriptors complete: what the device writes in the EOP descriptor (R129, R130). -/
def txDescDone (n : Nat) (first : Half) (count status : Nat) (stamp : Option Tick) (s : State) : State :=
  match ringOf s n with
  | none => s
  | some r =>
    let eop := first + BitVec.ofNat 16 (count - 1)
    let body := le 2 status ++ zeros 2 ++ (match stamp with
      | some t => le 4 (nsOf t) ++ le 6 (secOf t)
      | none => zeros 10) ++ zeros 2
    let (k, e, s) := bulkWrite r.ctx (r.descVa eop + 16) body s
    match e with
    | some c => ringFault n c (r.descVa eop + 16 + k) true eop first 0 s
    | none =>
      match ringOf s n with
      | none => s
      | some r =>
        let r := { r with frames := r.frames + 1 }
        ringNotify n (setRing n { r with done := r.txDone } s)

/-- A TX frame with TS_REQ has its first egress stamp, or was dropped (R129, R130). -/
def txStampDone (fid : Nat) (ring : Option (Nat × Nat)) (stamp : Option Tick) (s : State) : State :=
  match ring with
  | none => s
  | some (n, _) =>
    match ringOf s n with
    | none => s
    | some r =>
      match r.stamps.find? (fun x => x.1 == fid) with
      | none => s
      | some (_, first, count) =>
        let s := setRing n { r with stamps := r.stamps.filter fun x => x.1 != fid } s
        txDescDone n first count (if stamp.isSome then 0 else 2) stamp s

end Sys2Proof.Machine
end

