-- ==== Sys2Proof/Machine/GateOps.lean ====
section
/-!
DEFINITION. Gate lists as they are set and as they run (R361-R368, R450, R498-R500): parsing, the
change of a list, cycle starts, windows and the fit tests.
-/
namespace Sys2Proof.Machine

/-! ### Lists -/

/-- The bytes of a list entry: 8 at a port, 12 at a stream gate. -/
def entryLen (stream : Bool) : Nat := if stream then 12 else 8

/-- COUNT entries from the parameter bytes. -/
def readEntries (stream : Bool) (ps : Bytes) (n : Nat) : List GateEntry :=
  (List.range n).map fun i =>
    let b := slice ps (32 + entryLen stream * i) (entryLen stream)
    { states := byteAt b 0, interval := nsTick (leAt b 4 4), octetMax := if stream then leAt b 8 4 else 0 }

/-- The list a `GATE_LIST_SET` or `SGATE_LIST_SET` names (R361, R450). -/
def readGateList (stream : Bool) (ps : Bytes) : GateList :=
  { clock := byteAt ps 1, cycleNs := leAt ps 4 4
    baseNs := leAt ps 8 4 + 1000000000 * leAt ps 12 6
    changeNs := leAt ps 20 4 + 1000000000 * leAt ps 24 6
    entries := readEntries stream ps (leAt ps 2 2), raw := ps }

/-- The gate of a port or the stream gate of a number. -/
def gateOf (s : State) (stream : Bool) (n : Nat) : GateRun :=
  if stream then (tget s.policing.gates StreamGate.none n).run else tget s.switch.gates GateRun.none n

/-- Replace it. -/
def setGate (stream : Bool) (n : Nat) (g : GateRun) (s : State) : State :=
  let x : StreamGate := { tget s.policing.gates StreamGate.none n with run := g }
  if stream then { s with policing.gates := tset s.policing.gates n x }
  else { s with switch.gates := tset s.switch.gates n g }

/-- The base within its first cycle: the cycles begin at BASE + k × CYCLE for every integer k (R361). -/
def GateList.phase (l : GateList) : Nat := l.baseNs % max 1 l.cycleNs

/-- The first instant of the list's grid at or after CHANGE, in ns of its clock. -/
def GateList.firstNs (l : GateList) : Nat :=
  l.phase + (l.changeNs - l.phase + (max 1 l.cycleNs - 1)) / max 1 l.cycleNs * max 1 l.cycleNs

/-- The instant at which a list answered at `t` becomes operational (R363, R500). -/
def applyDue (s : State) (l : GateList) (t : Tick) : Tick :=
  firstStart s l.clock l.firstNs l.cycleNs t

/-- The cycle start chosen at the cycle start `st` (R499). -/
def nextStart (s : State) (l : GateList) (st : Tick) : Tick :=
  firstStart s l.clock l.phase l.cycleNs (st + l.cycle / 2)

/-- A cycle begins at `st`: the next one is chosen, and a resynchronisation counted (R499). -/
def beginCycle (stream : Bool) (n : Nat) (g : GateRun) (l : GateList) (st : Tick) (s : State) : State :=
  let nx := nextStart s l st
  let s := setGate stream n { g with start := st, next := nx, entry := 0 } s
  if 500 < dist nx (st + l.cycle) then bump (timeCtr 0x0118) s else s

/-- The admin list becomes operational, once its instant is reached (R363). -/
def gateApplied (stream : Bool) (n : Nat) (s : State) : State :=
  let g := gateOf s stream n
  match g.admin, g.waiting with
  | some l, some a =>
    let due := applyDue s l a
    if due ≤ s.now then
      let s := beginCycle stream n { g with oper := some l, waiting := none } l due s
      if stream then s
      else raiseFull 0x0100 0x0105 (le 1 n ++ zeros 3 ++ le 4 l.cycleNs) due false false s
    else s
  | _, _ => s

/-- A cycle start is reached (R499). -/
def gateCycleStart (stream : Bool) (n : Nat) (s : State) : State :=
  let g := gateOf s stream n
  match g.oper with
  | some l => if g.next ≤ s.now then beginCycle stream n g l g.next s else s
  | none => s

/-- The entry in effect now is entered (R361). -/
def gateEntryChange (stream : Bool) (n : Nat) (s : State) : State :=
  let g := gateOf s stream n
  match gateEntryAt g s.now with
  | some (i, _, _) => if i = g.entry then s else setGate stream n { g with entry := i } s
  | none => s

/-! ### Windows (R361-R364) -/

/-- The gate of a class is open at an instant (R362). -/
def gateOpen (s : State) (g tc : Nat) (t : Tick) : Bool :=
  let r := gateOf s false g
  !r.enabled || (match gateEntryAt r t with
    | some (_, e, _) => e.states.testBit tc
    | none => true)

/-- The first instant from `at0` on at which a run of entries closes a class before the cycle's end. -/
def closesIn (tc : Nat) : List GateEntry → Tick → Tick → Option Tick
  | [], _, _ => none
  | e :: es, at0, ce =>
    if ce ≤ at0 then none
    else if e.states.testBit tc then closesIn tc es (at0 + e.interval) ce
    else some at0

/-- When the operational list closes a class that it holds open at `t`; none for never. -/
def operCloses (r : GateRun) (l : GateList) (tc : Nat) (t : Tick) : Option Tick :=
  let c := cycleStartAt r l.cycle t
  let ce := if c = r.start ∧ r.start < r.next then r.next else c + l.cycle
  match entryFrom l.entries 0 (t - c) c with
  | none => none
  | some (i, _, b) =>
    match closesIn tc (l.entries.drop i) b ce with
    | some x => some (max x t)
    | none => closesIn tc l.entries ce (ce + l.cycle)

/-- The end of the gate window of a class that contains `t`; none where it never ends (R361-R363). -/
def windowEnd (s : State) (g tc : Nat) (t : Tick) : Option Tick :=
  let r := gateOf s false g
  if !r.enabled then none
  else
    let cur := match r.oper with
      | some l => operCloses r l tc t
      | none => none
    match r.admin, r.waiting with
    | some l, some a =>
      let due := max t (applyDue s l a)
      match cur with
      | some x => if x ≤ due then some x else closesIn tc l.entries due (due + l.cycle)
      | none => closesIn tc l.entries due (due + l.cycle)
    | _, _ => cur

/-- A transmission of class `tc` that lasts `dur` ticks may start at `t` (R364). -/
def gateFits (s : State) (g tc : Nat) (t dur : Tick) : Bool :=
  gateOpen s g tc t && (match windowEnd s g tc t with
    | some e => decide (t + dur ≤ e)
    | none => true)

/-! ### Durations -/

/-- Whole ticks that cover `n` bits at `rate` b/s. -/
def bitTicks (n rate : Nat) : Tick := (n * ticksPerSec + (rate - 1)) / max 1 rate

/-- The bit rate of an Ethernet SPEED (R208). -/
def speedRate (speed : Nat) : Nat :=
  match speed with
  | 0 => 10000000
  | 1 => 100000000
  | 2 => 1000000000
  | 3 => 2500000000
  | 4 => 5000000000
  | _ => 10000000000

/-- CANCLK periods in one bit of a bit-timing word (R187). -/
def bitClocks (w : Word) : Nat :=
  let v := w.toNat
  (bits v 7 0 + 1) * (1 + (bits v 15 8 + 1) + (bits v 22 16 + 1))

/-- The unstuffed bit counts of a CAN frame's nominal and data phases (R365). The counts of CC frames
are those of ISO 11898-1 and of the worked example; those of FD and XL frames are PRESUMED from it (log
entry 26). -/
def canBits (c : CanFrame) : Nat × Nat :=
  let n := 8 * c.dlen
  match c.fmt with
  | 0 => ((if c.ide then 64 else 44) + n, 0)
  | 1 =>
    let crc := if c.dlen ≤ 16 then 17 else 21
    let arb := if c.ide then 35 else 16
    let rest := 5 + n + 4 + crc
    if c.brs then (arb + 12, rest) else (arb + 12 + rest, 0)
  | _ => (17 + 14, 64 + n + 32 + 14)

/-- T_max of a CAN frame in ticks at a port's bit timings (R365). One CANCLK period is 6.25 ticks. -/
def canTmax (p : CanPort) (c : CanFrame) : Tick :=
  let (nn, nd) := canBits c
  let up (n : Nat) : Nat := (5 * n + 3) / 4
  let d := if c.fmt = 2 then p.bitX else p.bitD
  let clocks := (up nn + 3) * bitClocks p.bitN + up nd * bitClocks d
  (clocks * 25 + 3) / 4

end Sys2Proof.Machine
end

