-- ==== Sys2Proof/Machine/PortOps.lean ====
section
/-!
DEFINITION. Operations of the wired ports and links that other units share: access, oper states
(R177, R353, R695), counters (R180) and timestamp points (R223, R224).
-/
namespace Sys2Proof.Machine

/-- The address of a port counter (R199, R206, R212). -/
def portCtr (g o : Nat) : Nat := unitBase g + o

/-- What gport `g` has in common with the others. -/
def common (s : State) (g : Nat) : PortCommon := tget s.ports.common PortCommon.reset g

/-- Replace it. -/
def setCommon (g : Nat) (x : PortCommon) (s : State) : State :=
  { s with ports.common := tset s.ports.common g x }

/-- CAN port `g`. -/
def canOf (s : State) (g : Nat) : CanPort := tget s.ports.can CanPort.reset g

/-- Replace it. -/
def setCan (g : Nat) (x : CanPort) (s : State) : State := { s with ports.can := tset s.ports.can g x }

/-- LIN port `g`. -/
def linOf (s : State) (g : Nat) : LinPort := tget s.ports.lin LinPort.reset g

/-- Replace it. -/
def setLin (g : Nat) (x : LinPort) (s : State) : State := { s with ports.lin := tset s.ports.lin g x }

/-- Ethernet port `g`. -/
def ethOf (s : State) (g : Nat) : EthPort := tget s.ports.eth (EthPort.reset g) g

/-- Replace it. -/
def setEth (g : Nat) (x : EthPort) (s : State) : State := { s with ports.eth := tset s.ports.eth g x }

/-- Link `k` (gport 50 + k). -/
def linkOf (s : State) (k : Nat) : Link := tget s.links Link.reset k

/-- Replace it. -/
def setLink (k : Nat) (x : Link) (s : State) : State := { s with links := tset s.links k x }

/-! ### Oper state -/

/-- A link is up: both lanes hold block lock and alignment (R695). -/
def Link.up (x : Link) : Bool := x.lane0 && x.lane1 && x.aligned

/-- The condition of R177 on a wired port's kind, bus-off apart. -/
def mediumUp (s : State) (g : Nat) : Bool :=
  if isCan g then
    let x := canOf s g
    x.integrated && decide (x.trxMode ≤ 1)
  else if isLin g then
    let x := linOf s g
    x.en && (x.commander || x.syncSeen)
  else
    let x := ethOf s g
    x.lock && (!isT1s g || x.plca.toNat % 256 == 0xFF || x.plcaOk)

/-- The admin state of a gport (R177, R695); host, CPU and RECIRC ports have none. -/
def adminUp (s : State) (g : Nat) : Bool :=
  if g < 50 then (common s g).admin else if isLnk g then (linkOf s (g - 50)).admin else true

/-- A port's oper state is up (R177, R695). -/
def operUp (s : State) (g : Nat) : Bool :=
  if g < 50 then (common s g).admin && mediumUp s g && !(isCan g && (canOf s g).busOff)
  else if isLnk g then (linkOf s (g - 50)).admin && (linkOf s (g - 50)).up
  else true

/-- A port is down for egress (R353). -/
def downForEgress (s : State) (g : Nat) : Bool :=
  if g < 50 then !((common s g).admin && mediumUp s g)
  else if isLnk g then !operUp s g
  else false

/-- ERR_STATE (R185). -/
def CanPort.errState (x : CanPort) : Nat :=
  if x.busOff then 2 else if !x.integrated then 3 else if 127 < x.txErr ∨ 127 < x.rxErr then 1 else 0

/-! ### Timestamps (R223-R228) -/

/-- The tick number of IT at a device-clock instant, past or to come. -/
def stampOf (s : State) (c : Tick) : Tick :=
  if c ≤ s.clk then stampAt s c else (s.it + (c - s.clk) * itStep s) / 2 ^ 33

/-- RX_FIXED and TX_FIXED in ns (R223). -/
def fixedNs (s : State) (g : Nat) : Nat × Nat :=
  if g < 32 then (54, 26)
  else if isT1s g then (1240, 960)
  else
    match (ethOf s g).speed with
    | 1 => (1480, 1130)
    | 2 => (232, 176)
    | 3 => (124, 96)
    | 4 => (372, 282)
    | _ => (186, 141)

/-- POS in ns of the lane the first bit after SFD lies in (R223). -/
def posNs (s : State) (g : Nat) (lane4 : Bool) : Nat :=
  if isXg g && lane4 then
    match (ethOf s g).speed with
    | 4 => 6
    | 5 => 3
    | _ => 0
  else 0

/-- The ingress stamp of a capture (R224). -/
def ingressStamp (s : State) (g : Nat) (cap : Tick) (lane4 : Bool) : Tick :=
  nsTick (2 * stampOf s cap + posNs s g lane4 - (fixedNs s g).1 - (common s g).rxExt)

/-- The egress stamp of a capture (R224). -/
def egressStamp (s : State) (g : Nat) (cap : Tick) (lane4 : Bool) : Tick :=
  nsTick (2 * stampOf s cap + posNs s g lane4 + (fixedNs s g).2 + (common s g).txExt)

/-! ### Pause windows (R213-R219) -/

/-- The ticks of `q` quanta at a port's speed, rounded up (R214, R215). -/
def quantaTicks (s : State) (g q : Nat) : Tick := bitTicks (512 * q) (speedRate (ethOf s g).speed)

/-- A pause window holds a class of a port at an instant (R215). -/
def paused (s : State) (g tc : Nat) (t : Tick) : Bool :=
  let x := ethOf s g
  let holds (w : Tick × Tick) : Bool := inWindow t w.1 (w.2 - w.1)
  isEth g && ((match x.pause with
    | some w => holds w
    | none => false) || (match tget? x.pfc tc with
    | some w => holds w
    | none => false))

end Sys2Proof.Machine
end

