-- ==== Sys2Proof/Machine/SwitchOps.lean ====
section
/-!
DEFINITION. The switch core's buffer: cells, accounts and reservations (R329-R348, R787), XOFF (R342),
FRER (R373-R375), admission (R339, R355, R356) and the release of frames (R357).
-/
namespace Sys2Proof.Machine

/-- The address of a switch counter of a gport (R379). -/
def swCtr (g o : Nat) : Nat := unitBase 0x0100 + 0x1000 + 0x100 * g + o

/-! ### Cells (R329, R333) -/

/-- The stored length of a frame in bytes (R329). -/
def storedLen (f : Frame) : Nat := match f.bus with
  | some c => 20 + 4 * ((c.dlen + 3) / 4)
  | none => f.data.length

/-- The cells a frame occupies (R329). -/
def cellsOf (f : Frame) : Nat := max 1 ((storedLen f + 127) / 128)

/-- The power segments by number. -/
def segments : List Nat := List.range 16

/-- Cells are allocated in a segment: it is on and stays on (R333). -/
def segOpen (s : State) (k : Nat) : Bool := s.switch.segOn.testBit k && s.switch.segWanted.testBit k

/-- Retired cells of a segment (R332). -/
def retiredIn (s : State) (k : Nat) : Nat := (s.switch.retired.filter fun c => c / 8192 == k).length

/-- Free cells of a segment open for allocation. -/
def segFree (s : State) (k : Nat) : Nat :=
  if segOpen s k then 8192 - retiredIn s k - tget s.switch.segUsed 0 k else 0

/-- Free cells. -/
def freeCells (s : State) : Nat := (segments.map (segFree s)).sum

/-- The cells there are: free ones and those in use. -/
def allCells (s : State) : Nat := freeCells s + (s.switch.segUsed.map fun e => e.2).sum

/-- Take `n` cells from the lowest open segments (which cells are taken: DESIGN CHOICE, log entry 27). -/
def takeFrom (s : State) : List Nat → Nat → List (Nat × Nat)
  | [], _ => []
  | k :: ks, n =>
    if n = 0 then []
    else
      let m := min n (segFree s k)
      if m = 0 then takeFrom s ks n else (k, m) :: takeFrom s ks (n - m)

/-- Mark cells used or, with `false`, free again. -/
def useCells (segs : List (Nat × Nat)) (use : Bool) (s : State) : State :=
  { s with switch.segUsed := segs.foldl (fun m e =>
      tset m e.1 (if use then tget m 0 e.1 + e.2 else tget m 0 e.1 - e.2)) s.switch.segUsed }

/-! ### Accounts (R338-R343) -/

/-- The account of a source gport and class. -/
def account (s : State) (g c : Nat) : Account := tget s.switch.accounts Account.reset (8 * g + c)

/-- Replace it. -/
def setAccount (g c : Nat) (a : Account) (s : State) : State :=
  { s with switch.accounts := tset s.switch.accounts (8 * g + c) a }

/-- The sum of all reservations. -/
def reserved (s : State) : Nat := (s.switch.accounts.map fun e => e.2.res).sum

/-- Free cells of the shared pool: held by no reservation (R338, R377). -/
def sharedFree (s : State) : Nat :=
  allCells s - (s.switch.accounts.map fun e => max e.2.res e.2.resUsed + e.2.sharedUsed).sum

/-- Cells reservations may take: all but 4,096 (R341). -/
def reservable : Nat := 131072 - 4096

/-- The pool can supply an account's reservation `want` at once. -/
def canReserve (s : State) (a : Account) (want : Nat) : Bool :=
  decide (want ≤ a.res) ||
    (decide (max want a.resUsed - max a.res a.resUsed ≤ sharedFree s) &&
      decide (reserved s - a.res + want ≤ reservable))

/-- Wanted increases are granted whole, in ascending order (R787). -/
def grantWanted (s : State) : State :=
  (s.switch.accounts.map fun e => e.1).foldl (fun s k =>
    let a := tget s.switch.accounts Account.reset k
    match a.wanted with
    | some w =>
      if canReserve s a w then
        { s with switch.accounts := tset s.switch.accounts k { a with res := w, wanted := none } }
      else s
    | none => s) s

/-! ### Flow control (R342-R344) -/

/-- Flow control of a port. -/
def fcOf (s : State) (g : Nat) : FlowControl := tget s.switch.fc FlowControl.reset g

/-- R_est in ns (R344). -/
def FlowControl.rEst (x : FlowControl) : Nat := match x.samples with
  | [] => x.rInit
  | l => l.foldl max 0

/-- FC_MODE and PFC_EN of a gport: 0 for gports without flow control. -/
def fcMode (s : State) (g : Nat) : Nat := if within g 38 49 then (ethOf s g).fcMode else 0

/-- A PAUSE or PFC account: its reservation is the headroom (R340; DEDUCED, log entry 28). -/
def hasHeadroom (s : State) (g c : Nat) : Bool :=
  fcMode s g == 1 || (fcMode s g == 2 && (ethOf s g).pfcEn.testBit c)

/-- The headroom in cells for a response time in ns (R343). -/
def headroomFor (s : State) (g rNs : Nat) : Nat :=
  let x := ethOf s g
  (rNs * speedRate x.speed + 2 * (x.maxFrame + 20) * 8000000000 + (64 * 8000000000 - 1)) / (64 * 8000000000)

/-- Order a PAUSE or PFC frame of an account with a time in quanta (R342, R220). -/
def orderPause (g c quanta : Nat) (opens : Bool) (s : State) : State :=
  let x := ethOf s g
  if fcMode s g = 1 then
    let o : CtlOrder := { pfc := false, times := [(0, quanta)], at_ := s.now, opens := opens }
    setEth g { x with orders := x.orders ++ [o] } s
  else if fcMode s g = 2 ∧ x.pfcEn.testBit c then
    match x.orders.getLast? with
    | some l =>
      if l.pfc ∧ l.at_ = s.now then
        let l' : CtlOrder := { l with times := tset l.times c quanta, opens := l.opens || opens }
        setEth g { x with orders := x.orders.dropLast ++ [l'] } s
      else
        let o : CtlOrder := { pfc := true, times := [(c, quanta)], at_ := s.now, opens := opens }
        setEth g { x with orders := x.orders ++ [o] } s
    | none =>
      let o : CtlOrder := { pfc := true, times := [(c, quanta)], at_ := s.now, opens := opens }
      setEth g { x with orders := [o] } s
  else s

/-- An account enters XOFF (R342). -/
def enterXoff (g c : Nat) (s : State) : State :=
  let a := account s g c
  if a.xoff ∨ fcMode s g = 0 then s
  else orderPause g c (fcOf s g).quanta true (setAccount g c { a with xoff := true, ordered := s.now } s)

/-- Accounts whose conditions for leaving XOFF hold leave it (R342). -/
def leaveXoffs (s : State) : State :=
  (s.switch.accounts.filter fun e => e.2.xoff).foldl (fun s e =>
    let g := e.1 / 8
    let c := e.1 % 8
    let a := account s g c
    if decide (a.resUsed + a.sharedUsed ≤ a.share - a.xonGap) && decide (1024 ≤ sharedFree s) then
      orderPause g c 0 false (setAccount g c { a with xoff := false } s)
    else s) s

/-- The shared pool has grown. -/
def poolGrown (s : State) : State := leaveXoffs (grantWanted s)

/-- BUF_SHORT (R341, R382). -/
def bufShort (g c want held : Nat) (s : State) : State :=
  raiseEvent 0x0100 0x0103 (le 1 g ++ le 1 c ++ zeros 2 ++ le 4 want ++ le 4 held) s

/-- Recompute an account's reservation as `want` (R341, R343, R787). -/
def setReservation (g c want : Nat) (s : State) : State :=
  let a := account s g c
  if canReserve s a want then poolGrown (setAccount g c { a with res := want, wanted := none } s)
  else
    let s' := setAccount g c { a with wanted := some want } s
    if a.wanted = some want then s' else bufShort g c want a.res s'

/-- The nominal bit rate of a CAN port in b/s, rounded up (R187, R340): 80 MHz over CANCLK periods. -/
def canRate (w : Word) : Nat := 80000000 / max 1 (bitClocks w)

/-- RES_CELLS as R340 fixes it for an account's settings. -/
def resWanted (s : State) (g c holdUs minCells : Nat) : Nat :=
  if isCan g then (holdUs * 80000000 + (24 * bitClocks (canOf s g).bitN * 1000000 - 1)) /
      (24 * max 1 (bitClocks (canOf s g).bitN) * 1000000)
  else if isLin g then
    let x := linOf s g
    let num := if x.commander then 100 * x.baud else 115 * x.baud
    (holdUs * num + (54 * 100 * 1000000 - 1)) / (54 * 100 * 1000000)
  else if isT1s g then (holdUs * 16340 + 999999) / 1000000
  else if hasHeadroom s g c then headroomFor s g (fcOf s g).rEst
  else minCells

/-- Every reservation of a gport is recomputed (R341, R343). -/
def recomputePort (g : Nat) (s : State) : State :=
  (List.range 8).foldl (fun s c =>
    let a := account s g c
    setReservation g c (resWanted s g c a.holdUs a.minCells) s) s

/-- A response sample is taken (R344). -/
def addSample (g ns : Nat) (s : State) : State :=
  let x := fcOf s g
  let y : FlowControl := { x with samples := (ns :: x.samples).take 8 }
  let s := { s with switch.fc := tset s.switch.fc g y }
  if y.rEst = x.rEst then s else recomputePort g s

/-! ### Charging (R338, R345-R348) -/

/-- A frame offered to the switch core for admission. -/
structure Offer where
  frame : Frame
  /-- The gport of the account charged (R338). -/
  src : Nat
  dest : Dest
  /-- Frame-driven work of the gateway engine (R347). -/
  driven : Bool
  /-- Received under cut-through: its last byte is still to come (R359). -/
  cut : Bool

/-- The charge of `n` cells: from the reservation and from the shared pool; none where the account or
the pool lacks them (R338, R347). -/
def charge (s : State) (src c n : Nat) (driven : Bool) : Option (Nat × Nat) :=
  let a := account s src c
  let resRoom := a.res - a.resUsed
  let sharedRoom := min (a.share - a.sharedUsed) (sharedFree s)
  if driven then (if n ≤ sharedRoom then some (0, n) else none)
  else if n ≤ resRoom + sharedRoom then
    if src < 38 ∨ gCpup ≤ src then
      let r := min n resRoom
      some (r, n - r)
    else
      let h := min n sharedRoom
      some (n - h, h)
  else none

/-- Queue entries in use. -/
def queueEntries (s : State) : Nat := (s.switch.queues.map fun e => e.2.length).sum

/-- Cells are taken for an account. -/
def takeCells (src c res shared : Nat) (segs : List (Nat × Nat)) (s : State) : State :=
  let a := account s src c
  useCells segs true (setAccount src c { a with resUsed := a.resUsed + res, sharedUsed := a.sharedUsed + shared } s)

/-- Everything a frame with `reps` replicas needs is there (R339). -/
def fits (s : State) (o : Offer) (reps : Nat) : Option (Nat × Nat) :=
  let n := cellsOf o.frame
  let room := decide (s.switch.held.length < 131072) && decide (queueEntries s + reps ≤ 262144)
  match o.frame.credit with
  | some k => if room then some (k.res, k.shared) else none
  | none => if room && decide (n ≤ freeCells s) then charge s o.src o.frame.tc n o.driven else none

/-! ### Queues and release (R326, R351-R357) -/

/-- An egress queue. -/
def queueOf (s : State) (g c : Nat) : List Replica := tget s.switch.queues [] (8 * g + c)

/-- Replace it. -/
def setQueue (g c : Nat) (q : List Replica) (s : State) : State :=
  { s with switch.queues := if q.isEmpty then tdel s.switch.queues (8 * g + c)
                            else tset s.switch.queues (8 * g + c) q }

/-- A held frame. -/
def heldOf (s : State) (fid : Nat) : Option HeldFrame := tget? s.switch.held fid

/-- Settings of a queue. -/
def queueCfg (s : State) (g c : Nat) : QueueCfg := tget s.switch.queueCfg (QueueCfg.reset g) (8 * g + c)

/-- The cells a queue holds on chip. -/
def queueCells (s : State) (g c : Nat) : Nat :=
  ((queueOf s g c).map fun r => if r.spilled then 0 else match heldOf s r.fid with
    | some h => cellsOf h.frame
    | none => 0).sum

/-- Return a held frame's cells and charge. -/
def returnCells (h : HeldFrame) (s : State) : State :=
  let a := account s h.src h.cls
  let s := setAccount h.src h.cls { a with resUsed := a.resUsed - h.res, sharedUsed := a.sharedUsed - h.shared } s
  poolGrown (useCells h.segs false s)

/-- A held frame is freed: cells, descriptor and charge (R357). A TX frame whose stamp is still awaited
was dropped (R130). -/
def freeHeld (fid : Nat) (s : State) : State :=
  match heldOf s fid with
  | none => s
  | some h =>
    let s := { s with switch.held := tdel s.switch.held fid, switch.watched := tdel s.switch.watched fid }
    txStampDone fid h.frame.txRing none (returnCells h s)

/-- A replica has left or is dropped (R357). -/
def releaseRef (fid : Nat) (s : State) : State :=
  match heldOf s fid with
  | none => s
  | some h =>
    if h.refs ≤ 1 then freeHeld fid s
    else { s with switch.held := tset s.switch.held fid { h with refs := h.refs - 1 } }

/-- Cells the spill region loses when a spilled frame goes. -/
def unspill (r : Replica) (h : HeldFrame) (s : State) : State :=
  if r.spilled then { s with switch.spillUsed := s.switch.spillUsed - cellsOf h.frame } else s

/-- A queued replica is dropped and counted at its gport. -/
def dropQueued (g c : Nat) (r : Replica) (ctr : Nat) (s : State) : State :=
  let s := setQueue g c ((queueOf s g c).filter fun x => x.fid != r.fid) s
  let s := match heldOf s r.fid with
    | some h => unspill r h s
    | none => s
  releaseRef r.fid (bump (swCtr g ctr) s)

/-- A frame is expired in its queue (R350). -/
def expired (s : State) (g c : Nat) (h : HeldFrame) : Bool :=
  decide (h.at_ + us (queueCfg s g c).limitUs ≤ s.now)

/-- Every expired frame of a queue is dropped (R351). -/
def sweepQueue (g c : Nat) (s : State) : State :=
  (queueOf s g c).foldl (fun s r => match heldOf s r.fid with
    | some h => if expired s g c h then dropQueued g c r 0x50 s else s
    | none => s) s

/-- EGRESS_FAULT (R371, R372, R382). -/
def egressFault (g cause flow : Nat) (s : State) : State :=
  raiseEvent 0x0100 0x0107 (le 1 g ++ le 1 cause ++ le 2 flow) (bump (swCtr g 0x68) s)

/-! ### FRER (R373-R375) -/

/-- A FRER function of a flow field: its number where enabled and defined in a generation. -/
def frerFunc (s : State) (gen : Nat) (k : Kind) (field : Nat) : Option (Nat × Bytes) :=
  if bit field 15 then (genObj s gen k (field % 1024)).map fun b => (field % 1024, b) else none

/-- The offset of a frame's R-TAG, if it has one (R373). -/
def rtagAt (d : Bytes) : Option Nat :=
  let o := skipTags d 8 12
  if beAt d o 2 = 0xF1C1 then some o else none

/-- A recovery function resets: it counts and raises FRER_RESET (R375). -/
def resetRecovery (i reason : Nat) (at0 : Tick) (s : State) : State :=
  let x := tget s.switch.recoveries Recovery.fresh i
  let y : Recovery := { x with reset := true, history := [], lastPass := none, resets := x.resets + 1 }
  raiseFull 0x0100 0x0106 (le 2 i ++ le 1 reason) at0 false false
    { s with switch.recoveries := tset s.switch.recoveries i y }

/-- The RESET_MS window of a recovery function has ended by now. -/
def recoveryDue (b : Bytes) (x : Recovery) (t : Tick) : Option Tick :=
  match x.lastPass with
  | some l => if !x.reset && decide (l + ms (leAt b 4 2) ≤ t) then some (l + ms (leAt b 4 2)) else none
  | none => none

/-- The recovery function of R375 on a sequence number: whether the frame passes. -/
def Recovery.take (x : Recovery) (b : Bytes) (sq : Nat) : Bool × Recovery :=
  let hist := byteAt b 3
  let d : Int := (Int.ofNat sq - Int.ofNat x.seq + 32768) % 65536 - 32768
  let pass (y : Recovery) : Bool × Recovery := (true, { y with passed := y.passed + 1 })
  if x.reset then pass { x with seq := sq, history := [0], reset := false }
  else if byteAt b 2 = 1 then
    if d = 0 then (false, { x with discarded := x.discarded + 1 }) else pass { x with seq := sq }
  else if decide (Int.ofNat hist ≤ d) || decide (d ≤ -Int.ofNat hist) then
    (false, { x with rogue := x.rogue + 1 })
  else if 0 < d then
    let n := d.toNat
    let gone := (List.range hist).filter fun i => decide (hist ≤ i + n) && !x.history.contains i
    let kept := (x.history.map fun i => i + n).filter fun i => decide (i < hist)
    pass { x with seq := sq, history := 0 :: kept, lost := x.lost + BitVec.ofNat 64 gone.length }
  else
    let n := (-d).toNat
    if x.history.contains n then (false, { x with discarded := x.discarded + 1 })
    else pass { x with history := x.history ++ [n] }

/-- The recovery function of a frame's flow acts at admission (R375): the frame as passed, or none. -/
def frerRecover (f : Frame) (fl : FlowEntry) (s : State) : Option Frame × State :=
  match f.bus, frerFunc s f.gen .recovery fl.frerRec with
  | none, some (i, b) =>
    let x0 := tget s.switch.recoveries Recovery.fresh i
    let s := match recoveryDue b x0 s.now with
      | some e => resetRecovery i 1 e s
      | none => s
    let x := tget s.switch.recoveries Recovery.fresh i
    let put (y : Recovery) (s : State) : State := { s with switch.recoveries := tset s.switch.recoveries i y }
    match rtagAt f.data with
    | none =>
      if bit (byteAt b 6) 1 then
        (some f, put { x with passed := x.passed + 1, lastPass := some s.now } s)
      else (none, put { x with tagless := x.tagless + 1 } s)
    | some o =>
      let (ok, y) := x.take b (beAt f.data (o + 4) 2)
      if ok then
        let d := if bit (byteAt b 6) 0 then f.data.take o ++ f.data.drop (o + 6) else f.data
        (some { f with data := d }, put { y with lastPass := some s.now } s)
      else (none, put y s)
  | _, _ => (some f, s)

/-- The sequence generation function of a frame's flow (R374). -/
def frerGenerate (f : Frame) (fl : FlowEntry) (s : State) : Frame × State :=
  match f.bus, frerFunc s f.gen .seqGen fl.frerGen with
  | none, some (i, b) =>
    if byteAt b 2 = 1 then
      let z : SeqGen := { next := 0, generated := 0 }
      let x := tget s.switch.seqGens z i
      let y : SeqGen := { next := (x.next + 1) % 65536, generated := x.generated + 1 }
      let s := mirror (.frerSeq i y.next) s
      ({ f with rtag := some x.next }, { s with switch.seqGens := tset s.switch.seqGens i y })
    else (f, s)
  | _, _ => (f, s)

/-! ### Admission -/

/-- A replica of this frame is being sent, is in a CAN controller or is being written to a ring (R145): the frame
is not evictable (R348). -/
def inFlight (s : State) (fid : Nat) : Bool :=
  s.switch.sending.any (fun e => e.2.fid == fid) || s.switch.suspended.any (fun e => e.2.fid == fid) ||
    s.ports.can.any (fun e => match e.2.held with
      | some h => h.fid == fid
      | none => false) ||
    s.host.rings.any (fun e => match e.2.writing with
      | some (i, _, _) => i == fid
      | none => false)

/-- A frame is evicted: every replica goes (R348). -/
def evict (fid : Nat) (s : State) : State :=
  match heldOf s fid with
  | none => s
  | some h =>
    let s := { s with switch.queues := (tmap s.switch.queues fun _ q => q.filter fun r => r.fid != fid).filter
                        fun e => !e.2.isEmpty
                      switch.ringIn := tmap s.switch.ringIn fun _ l => l.filter fun i => i != fid }
    freeHeld fid (bump (swCtr h.src 0x18) s)

/-- Evict frames, oldest first, until `ok` holds; none where it never does (R348). -/
def evictUntil (ok : State → Bool) : List Nat → State → Option State
  | [], _ => none
  | i :: is, s =>
    let s := evict i s
    if ok s then some s else evictUntil ok is s

/-- The frames of a flow in an account that may be evicted, oldest first. -/
def evictable (s : State) (o : Offer) : List Nat :=
  (s.switch.held.filter fun e => e.2.src == o.src && e.2.cls == o.frame.tc && e.2.frame.flow == o.frame.flow &&
    !inFlight s e.1).map fun e => e.1

/-- Queue a replica, marked for spill where R335 gives (R334, R335). -/
def enqueue (g c fid : Nat) (single safety cut : Bool) (s : State) : State :=
  let q := queueOf s g c
  let cfg := queueCfg s g c
  let mark := within g 38 53 && s.switch.spillOn && cfg.hi != 0 && single && !safety && !cut &&
    (decide (cfg.hi < queueCells s g c) || q.any fun r => r.spilled || r.mark)
  setQueue g c (q ++ [{ fid := fid, mark := mark, spilled := false }]) s

/-- The outcome of an offer: the held frame's number; or whether it must wait at its source. -/
structure Admission where
  fid : Option Nat
  wait : Bool
  st : State

/-- Admit an offer that fits, to the gports `live` (R339, R355, R374, R409). -/
def admitTo (o : Offer) (fl : FlowEntry) (live : List Nat) (res shared : Nat) (s : State) : Nat × State :=
  let (f, s) := frerGenerate o.frame fl s
  let fid := s.switch.nextFid
  let c := f.tc
  let cls := match f.credit with
    | some k => k.cls
    | none => c
  let segs := match f.credit with
    | some k => k.segs
    | none => takeFrom s segments (cellsOf f)
  let h : HeldFrame :=
    { frame := { f with credit := none }, src := o.src, cls := cls, res := res, shared := shared, segs := segs, at_ := s.now
      refs := live.length, driven := o.driven, faulted := false, receiving := o.cut, secured := none }
  let s := if f.credit.isSome then s else takeCells o.src cls res shared segs s
  let s := { s with switch.held := tset s.switch.held fid h
                    switch.nextFid := fid + 1
                    switch.watched := if fl.safety then tset s.switch.watched fid s.now else s.switch.watched }
  let s := if 0 < res ∧ within o.src 38 49 then enterXoff o.src c s else s
  let s := bump (swCtr o.src 0x00) s
  let s := live.foldl (fun s g => enqueue g c fid (live.length == 1) fl.safety o.cut s) s
  let s := if fl.learn && f.bus.isNone && !o.cut then
      presentLearn (fdbKey (beAt f.data 6 6) (frameFid (genObjs s f.gen) fl f)) f.ingress f.gen s
    else s
  (fid, s)

/-- Count the replicas that are not queued (R352, R356). -/
def countUnqueued (down full : List Nat) (s : State) : State :=
  full.foldl (fun s g => bump (swCtr g 0x58) s) (down.foldl (fun s g => bump (swCtr g 0x48) s) s)

/-- The counter of a frame refused at its source's account (R345, R347, R348). -/
def refusalCtr (s : State) (src : Nat) : Nat :=
  if src < 38 ∨ src = gCpup then 0x20
  else if src = gRecirc then 0x38
  else if fcMode s src = 0 then 0x08 else 0x10

/-- Admission (R328, R339, R345-R348, R355, R356, R375). -/
def admitFrame (o : Offer) (s0 : State) : Admission :=
  let fl := frameFlow s0 o.frame
  let drop (s : State) : Admission := { fid := none, wait := false, st := s }
  if leeRule s0 ∧ !fl.safety ∧ o.src ≠ gCpup then drop (bump (swCtr o.src 0x28) s0)
  else
    match frerRecover o.frame fl s0 with
    | (none, s) => drop s
    | (some f, s) =>
      let o := { o with frame := f }
      let all := (destPorts (genObjs s f.gen) o.dest).filter fun g =>
        match o.dest with
        | .set _ => g != o.src
        | _ => true
      let (all, barred) := all.partition fun g =>
        !standbyPort s g || (isEth g && !isT1s g && f.bus.isNone && (rtagAt o.frame.data).isSome)
      let s := barred.foldl (fun s _ => bump (pairCtr 0x0110) s) s
      let down := all.filter (downForEgress s)
      let full := all.filter fun g => !downForEgress s g && (queueCfg s g f.tc).maxCells != 0 &&
        decide ((queueCfg s g f.tc).maxCells ≤ queueCells s g f.tc)
      let live := all.filter fun g => !down.contains g && !full.contains g
      if live.isEmpty then drop (countUnqueued down full s)
      else
        let go (rs : Nat × Nat) (s : State) : Admission :=
          let (fid, s) := admitTo o fl live rs.1 rs.2 s
          { fid := some fid, wait := false, st := countUnqueued down full s }
        match fits s o live.length with
        | some rs => go rs s
        | none =>
          if within o.src 50 53 ∨ o.driven then { fid := none, wait := true, st := s0 }
          else
            let refused (s : State) : Admission :=
              drop (bump (swCtr o.src (if within o.src 38 49 ∧ (decide (131072 ≤ s.switch.held.length) ||
                decide (262144 < queueEntries s + live.length)) then 0x08 else refusalCtr s o.src)) s)
            if o.src < 38 ∨ o.src = gCpup then
              match evictUntil (fun s => (fits s o live.length).isSome) (evictable s o) s with
              | some s' =>
                match fits s' o live.length with
                | some rs => go rs s'
                | none => refused s
              | none => refused s
            else
              let s := if within o.src 38 49 ∧ fcMode s o.src ≠ 0 then enterXoff o.src f.tc s else s
              refused s

/-! ### Ports that go down (R353, R419) -/

/-- A transmission in progress ends with the port (R353, R371): begun, it is stomped; not begun, it counts
as queued. -/
def cutOff (g : Nat) (x : Sending) (s : State) : State :=
  let flow := match heldOf s x.fid with
    | some h => h.frame.flow
    | none => 0
  let s := if x.begun && isEth g then egressFault g 3 flow (bump (portCtr g 0x0170) s)
    else bump (swCtr g 0x48) s
  releaseRef x.fid (egressLaneEnd g s)

/-- A gport goes down for egress (R353, R419). -/
def portEgressDown (g : Nat) (s : State) : State :=
  let s := match tget? s.switch.sending g with
    | some x => cutOff g x { s with switch.sending := tdel s.switch.sending g }
    | none => s
  let s := match tget? s.switch.suspended g with
    | some x => cutOff g x { s with switch.suspended := tdel s.switch.suspended g }
    | none => s
  let s := if isCan g then
      match (canOf s g).held with
      | some h => releaseRef h.fid (bump (swCtr g 0x48) (setCan g { canOf s g with held := none } s))
      | none => s
    else s
  let s := (List.range 8).foldl (fun s c =>
    (queueOf s g c).foldl (fun s r => dropQueued g c r 0x48 s) s) s
  flushPort g s

/-- A change `f` of a gport's condition, with PORT_OPER and what a fall of its egress brings (R177, R240,
R353). -/
def withOper (g reason : Nat) (f : State → State) (s : State) : State :=
  let was := operUp s g
  let wasDown := downForEgress s g
  let s := f s
  let s := if !wasDown && downForEgress s g then portEgressDown g s else s
  if operUp s g = was then s else raiseEvent g 0x0101 (le 1 (b2n (operUp s g)) ++ le 1 reason) s

end Sys2Proof.Machine
end

