-- ==== Sys2Proof/Machine/ForwardOps.lean ====
section
/-!
DEFINITION. The path of a classified frame through stages 4 to 8 (R25).
-/
namespace Sys2Proof.Machine

/-- Stages 4 to 8 on a classified frame: policing, verification, the forwarding lookup and admission. `src`
is the account's gport; DEST and TCX of a DIRECT frame replace the forwarding lookup (R129); `driven` says frame-driven work of the gateway engine (R347). -/
def forward (f : Frame) (src : Nat) (driven cut : Bool) (s0 : State) : Admission :=
  let gone (s : State) : Admission := { fid := none, wait := false, st := s }
  let (drop, f, s) := stage4 f s0
  if drop then gone s
  else
    match verifyIngress f s with
    | (none, s) => gone s
    | (some f, s) =>
      let l : Lookup := match f.direct with
        | some (g, tc) => { dest := .port g, frame := { f with tc := tc }, discard := false, st := s }
        | none => forwardLookup f s
      if l.discard then
        gone (if (frameFlow s f).lookup = 1 then countFlowDrop f.flow l.st else l.st)
      else if l.dest = .drop then gone (countFlowDrop f.flow l.st)
      else
        let a := admitFrame { frame := l.frame, src := src, dest := l.dest, driven := driven, cut := cut } l.st
        if a.wait then { a with st := s0 } else a

end Sys2Proof.Machine
end

