-- ==== Sys2Proof/Machine/GwOps.lean ====
section
/-!
DEFINITION. The gateway engine's operations on PDUs and containers: emission (R30, R246, R247), E2E
protection (R307-R313), containers (R268-R284), mappings (R252-R260) and triggers (R261-R267).
-/
namespace Sys2Proof.Machine

/-- The address of a gateway counter (R321). -/
def gwCtr (o : Nat) : Nat := unitBase 0x0300 + o

/-! ### Emission (R30, R246, R247, R347) -/

/-- What an emission carries: generation tag and stamp, and whether it answers a frame at RECIRC (R30). -/
structure Cause where
  gen : Nat
  stamp : Tick
  driven : Bool

/-- The cause of an emission without a triggering frame (R30). -/
def ownCause (s : State) : Cause := { gen := currentNum s, stamp := s.now, driven := false }

/-- In Lee the engine emits nothing for a flow without the safety flag (R247). -/
def gwLee (s : State) (gen flow : Nat) : Bool := leeRule s && !(flowEntry s gen flow).safety

/-- Offer an emission at RECIRC to its egress gport; frame-driven work waits for shared cells behind what
already waits (R347). -/
def gwOffer (f : Frame) (dest : Nat) (driven : Bool) (s : State) : State :=
  let f := { f with direct := some (dest, f.tc) }
  let hold (s : State) : State := { s with gw.stalled := s.gw.stalled ++ [f] }
  if driven && !s.gw.stalled.isEmpty then hold s
  else
    let a := admitFrame { frame := f, src := gRecirc, dest := .port dest, driven := driven, cut := false } s
    if a.wait then hold s else a.st

/-- A frame the engine builds, with the flow of its definition (R246). -/
def gwFrame (k : Cause) (bus : Option CanFrame) (data : Bytes) (flow tc : Nat) : Frame :=
  { Frame.arrived bus data gRecirc k.stamp with gen := k.gen, flow := flow, tc := tc }

/-- Emit it (R246, R247, R442). -/
def gwEmit (k : Cause) (f : Frame) (dest : Nat) (s : State) : State :=
  if gwLee s k.gen f.flow then s else gwOffer f dest k.driven (countFlowFrame f.flow s)

/-! ### E2E profiles (R307-R311) -/

/-- Width, polynomial, initial value, final XOR and reflection of a POLY (R308). -/
def polyOf (n : Nat) : Nat × Nat × Nat × Nat × Bool :=
  match n with
  | 0 => (8, 0x1D, 0xFF, 0xFF, false)
  | 1 => (8, 0x2F, 0xFF, 0xFF, false)
  | 2 => (16, 0x1021, 0xFFFF, 0, false)
  | 3 => (32, 0x04C11DB7, 0xFFFFFFFF, 0xFFFFFFFF, true)
  | 4 => (32, 0x1EDC6F41, 0xFFFFFFFF, 0xFFFFFFFF, true)
  | _ => (64, 0x42F0E1EBA9EA3693, 0xFFFFFFFFFFFFFFFF, 0xFFFFFFFFFFFFFFFF, true)

/-- The low `w` bits of a number in reverse order. -/
def revBits (w v : Nat) : Nat := (List.range w).foldl (fun r i => 2 * r + b2n (v.testBit i)) 0

/-- The bytes of a check value's width under a profile. -/
def profWidth (pr : Bytes) : Nat := (polyOf (byteAt pr 1)).1 / 8

/-- The check value of a profile over bytes (R307, R308). -/
def e2eCrc (pr bs : Bytes) : Nat :=
  let (w, poly, init, xorOut, refl) := polyOf (byteAt pr 1)
  let own := bit (byteAt pr 2) 4
  let init := if own then init else leAt pr 16 8
  let xorOut := if own then xorOut else leAt pr 24 8
  let refIn := if own then refl else bit (byteAt pr 2) 0
  let refOut := if own then refl else bit (byteAt pr 2) 1
  let bs := if refIn then bs.map fun b => BitVec.ofNat 8 (revBits 8 b.toNat) else bs
  let r := bs.foldl (crcByteMsb w poly) init
  (if refOut then revBits w r else r) ^^^ xorOut

/-- The bytes of a profile's counter in its trailer (R310). -/
def profCntBytes (pr : Bytes) : Nat := (byteAt pr 3 + 7) / 8

/-- The length of a profile's trailer (R310). -/
def trailerLen (pr : Bytes) : Nat := if bit (byteAt pr 2) 2 then profCntBytes pr + profWidth pr else 0

/-- The data ID before and after the data (R309). -/
def dataIds (pr : Bytes) : Bytes × Bytes :=
  let m := byteAt pr 11
  let d := le (if bit m 2 then 4 else 2) (leAt pr 12 4)
  if m % 4 = 1 then (d, []) else if m % 4 = 2 then ([], d) else ([], [])

/-- A check value as stored (R309). -/
def checkBytes (pr : Bytes) (v : Nat) : Bytes := if bit (byteAt pr 2) 3 then be (profWidth pr) v else le (profWidth pr) v

/-- `w` bits of a number from bit `o`, replaced. -/
def putBits (v o w x : Nat) : Nat := v - v / 2 ^ o % 2 ^ w * 2 ^ o + x % 2 ^ w * 2 ^ o

/-- A counter written into a PDU's bytes where it fits. -/
def putCounter (pr d : Bytes) (c : Nat) : Bytes :=
  let w := byteAt pr 3
  let o := leAt pr 6 2
  if w ≠ 0 ∧ o + w ≤ 8 * d.length then le d.length (putBits (leAt d 0 d.length) o w c) else d

/-- The check value over PDU bytes and trailer counter (R309). -/
def pduCheck (pr d cnt : Bytes) : Nat :=
  let ids := dataIds pr
  let d := if bit (byteAt pr 2) 2 then d else d.take (leAt pr 4 2) ++ d.drop (leAt pr 4 2 + profWidth pr)
  e2eCrc pr (ids.1 ++ d ++ cnt ++ ids.2)

/-- A PDU's bytes with counter and check value (R309-R311). -/
def e2eProtect (pr d : Bytes) (c : Nat) : Bytes :=
  if bit (byteAt pr 2) 2 then
    let cnt := le (profCntBytes pr) c
    d ++ cnt ++ checkBytes pr (pduCheck pr d cnt)
  else
    let d := putCounter pr d c
    if leAt pr 4 2 + profWidth pr ≤ d.length then patch d (leAt pr 4 2) (checkBytes pr (pduCheck pr d [])) else d

/-- The counter and the verdict on the check value of a received PDU (R309, R310, R312): `none` where the
check value is wrong or cannot be there. -/
def e2eRead (pr d : Bytes) (len : Nat) : Option Nat :=
  let w := byteAt pr 3
  let n := profWidth pr
  if bit (byteAt pr 2) 2 then
    let k := profCntBytes pr
    if d.length < len + k + n then none
    else if checkBytes pr (pduCheck pr (d.take len) (slice d len k)) = slice d (len + k) n then
      some (leAt d len k % 2 ^ w)
    else none
  else
    let o := leAt pr 4 2
    let d := d.take len
    if d.length < len ∨ len < o + n ∨ 8 * len < leAt pr 6 2 + w then none
    else if checkBytes pr (pduCheck pr d []) = slice d o n then some (leAt d 0 len / 2 ^ leAt pr 6 2 % 2 ^ w)
    else none

/-! ### Built PDUs -/

/-- A PDU of a role in a generation. -/
def pduOf (s : State) (gen i role : Nat) : Option Bytes := (genObj s gen .pdu i).filter fun b => byteAt b 2 == role

/-- The E2E profile of a PDU in a generation. -/
def pduProfile (s : State) (gen : Nat) (b : Bytes) : Option Bytes :=
  if byteAt b 9 = 0 then none else genObj s gen .e2e (byteAt b 9)

/-- The length of a PDU with its E2E trailer. -/
def pduLen (s : State) (gen : Nat) (b : Bytes) : Nat := leAt b 4 2 + (match pduProfile s gen b with
  | some pr => trailerLen pr
  | none => 0)

/-- The image of a new built PDU (R251). -/
def freshImage (b : Bytes) : Bytes := List.replicate (leAt b 4 2) (if bit (byteAt b 0x1A) 1 then 0xFF else 0)

/-- A built PDU as it starts (R251, R311). -/
def freshBuilt (b : Bytes) : BuiltPdu :=
  { image := freshImage b, counter := 0, lastTrig := 0, lastEmit := none, due := none, deferred := none }

/-- A built PDU as it stands. -/
def builtOf (s : State) (i : Nat) (b : Bytes) : BuiltPdu := tget s.gw.built (freshBuilt b) i

/-- Replace it. -/
def setBuilt (i : Nat) (x : BuiltPdu) (s : State) : State := { s with gw.built := tset s.gw.built i x }

/-- A container definition as it runs. -/
def contOf (s : State) (c : Nat) : Cont := tget s.gw.conts Cont.fresh c

/-- Replace it. -/
def setCont (c : Nat) (x : Cont) (s : State) : State := { s with gw.conts := tset s.gw.conts c x }

/-- A trigger of a built PDU waits: deferred, or in an open container. -/
def pduPending (s : State) (i : Nat) : Bool :=
  (match tget? s.gw.built i with
  | some x => x.deferred.isSome
  | none => false) || s.gw.conts.any fun e => e.2.entries.any fun y => y.pdu == some i

/-- A built PDU's mirror record (R721). -/
def mirrorPdu (i : Nat) (s : State) : State :=
  match tget? s.gw.built i with
  | some x => mirror (.pdu i x.image (pduPending s i) x.counter x.lastTrig (x.due.getD 0)) s
  | none => s

/-- The bytes of a built PDU taken for emission: its counter advances (R267, R311). -/
def takeBuilt (gen i : Nat) (b : Bytes) (s : State) : Bytes × State :=
  let x := builtOf s i b
  match pduProfile s gen b with
  | none => (x.image, s)
  | some pr =>
    let y : BuiltPdu :=
      if byteAt pr 3 = 0 then x else { x with counter := if leAt pr 8 2 ≤ x.counter then 0 else x.counter + 1 }
    (e2eProtect pr x.image x.counter, setBuilt i y s)

/-- A built PDU's bytes as a frame: TX_ID, TX_FMT and TX_RFL (R249, R250). -/
def builtBus (b d : Bytes) : CanFrame :=
  let w := leAt b 0x20 4
  let fmt := byteAt b 0x24
  let rfl := byteAt b 0x25
  { id := if fmt = 3 then w % 64 else w % 2 ^ 29, ide := bit w 29, rtr := bit w 30, fmt := fmt, brs := bit rfl 0
    esi := bit rfl 1, sec := bit rfl 2, enh := bit rfl 3, dlc := if fmt ≤ 1 then dlcOf d.length else 0
    dlen := d.length, af := 0, sdt := 0, vcid := 0, data := d }

/-! ### Containers (R268-R277) -/

/-- The fixed overhead of a container's format, FCS included (R271, R277, R278). -/
def contOverhead (d : Bytes) : Nat :=
  match byteAt d 2 with
  | 0 => 4
  | 1 => 18 + (if bit (byteAt d 0x12) 2 then 4 else 0) + 12
  | _ => 18 + (if bit (byteAt d 0x12) 2 then 4 else 0) + 24

/-- The size of a frame as an ACF message; none where it has no ACF form (R279; header sizes of IEEE 1722
PRESUMED, log entry 30). -/
def acfLen (d : Bytes) (fmt n : Nat) : Option Nat :=
  let body := 4 * ((n + 3) / 4)
  match fmt with
  | 2 => none
  | 3 => some (12 + body)
  | _ => some ((if bit (byteAt d 0x12) 0 then 8 else 16) + body)

/-- The size of an entry in a container (R271, R277, R279). -/
def entrySize (s : State) (gen : Nat) (d : Bytes) (pdu : Option Nat) (tunnel : Option (CanFrame × Nat)) : Option Nat :=
  match pdu, tunnel with
  | some i, _ =>
    match pduOf s gen i 1 with
    | some b => if byteAt d 2 = 0 then some (4 + pduLen s gen b) else acfLen d (byteAt b 0x24) (pduLen s gen b)
    | none => none
  | none, some (c, _) => if byteAt d 2 = 0 then none else acfLen d c.fmt c.dlen
  | none, none => none

/-- TX_EST in ticks, rounded up (R270). -/
def txEst (s : State) (d : Bytes) : Tick :=
  let g := byteAt d 4
  let n := leAt d 6 2
  if byteAt d 2 = 0 then
    let x := canOf s g
    ((20 * bitClocks x.bitN + (8 * n + 152) * bitClocks x.bitX) * 25 + 3) / 4
  else
    let fl := flowEntry s (currentNum s) (leAt d 0x10 2)
    let m := if macsecApplies s g (currentNum s) fl.protOut then 32 else 0
    bitTicks ((n + 20 + m) * 8) (speedRate (ethOf s g).speed)

/-- The gPTP time of an instant in ns, in a container's PTP_DOMAIN (R278, R279). -/
def contNs (s : State) (d : Bytes) (t : Tick) : Nat := clockNs s (1 + b2n (bit (byteAt d 0x12) 3)) t

/-- An ACF message (R279). -/
def acfMessage (s : State) (d : Bytes) (c : CanFrame) (bus : Nat) (trig : Tick) : Bytes :=
  let n := (acfLen d c.fmt c.dlen).getD 0
  let pad := 4 * ((c.dlen + 3) / 4) - c.dlen
  let data := padTo (c.dlen + pad) (c.data.take c.dlen)
  let stamp := be 8 (contNs s d trig)
  if c.fmt = 3 then
    be 2 (3 * 512 + n / 4) ++ be 2 (pad * 2 ^ 14 + 2 ^ 13 + bus % 32 * 2 ^ 8 + c.id % 64) ++ stamp ++ data
  else
    let brief := bit (byteAt d 0x12) 0
    let flags := pad * 2 ^ 14 + b2n (!brief) * 2 ^ 13 + b2n c.rtr * 2 ^ 12 + b2n c.ide * 2 ^ 11 + b2n c.brs * 2 ^ 10 +
      b2n (c.fmt == 1) * 2 ^ 9 + b2n c.esi * 2 ^ 8 + bus % 32
    be 2 ((if brief then 2 else 1) * 512 + n / 4) ++ be 2 flags ++ (if brief then [] else stamp) ++
      be 4 (c.id % 2 ^ 29) ++ data

/-- The bytes of an entry, taken at release (R267, R272, R277, R279). -/
def entryTaken (d : Bytes) (e : ContEntry) (s : State) : Option Bytes × State :=
  match e.pdu, e.tunnel with
  | some i, _ =>
    match pduOf s (currentNum s) i 1 with
    | none => (none, s)
    | some b =>
      let (x, s) := takeBuilt (currentNum s) i b s
      if byteAt d 2 = 0 then
        let age := min 255 ((s.now - e.trig) / us 10)
        (some (be 2 (leAt b 0x20 2) ++ le 1 (x.length - 1) ++ le 1 age ++ x), s)
      else (some (acfMessage s d (builtBus b x) (byteAt d 0x13) e.trig), s)
  | none, some (c, g) => (some (acfMessage s d c g e.trig), s)
  | none, none => (none, s)

/-- The frame of a released container (R277, R278). -/
def contFrame (s : State) (d : Bytes) (seq : Nat) (earliest : Tick) (parts : List Bytes) : Option CanFrame × Bytes :=
  let body := parts.flatMap fun b => b
  if byteAt d 2 = 0 then
    let x := leAt d 0x14 4
    let data := [0x10] ++ le 1 parts.length ++ be 2 seq ++ body
    (some { id := x % 2 ^ 11, ide := false, rtr := false, fmt := 2, brs := false, esi := false, sec := false
            enh := false, dlc := 0, dlen := data.length, af := leAt d 0x18 4, sdt := bits x 23 16
            vcid := bits x 31 24, data := data }, [])
  else
    let tag := if bit (byteAt d 0x12) 2 then be 2 0x8100 ++ be 2 (leAt d 0x14 2) else []
    let head := slice d 0x24 12 ++ tag ++ be 2 0x22F0
    let stream := be 8 (leAt d 0x30 8)
    if byteAt d 2 = 1 then
      (none, head ++ [0x82] ++ be 2 (2 ^ 15 + body.length % 2048) ++ le 1 seq ++ stream ++ body)
    else
      (none, head ++ [0x05, 0x81] ++ le 1 seq ++ [0] ++ stream ++ be 4 (contNs s d earliest) ++ zeros 4 ++
        be 2 body.length ++ zeros 2 ++ body)

/-- Discard an open container without counting (R247). -/
def contDiscard (c : Nat) (s : State) : State := setCont c { contOf s c with entries := [], isOpen := false } s

/-- Release an open container, counted at `ctr` where given (R271, R274, R276, R321). -/
def contRelease (c : Nat) (ctr : Option Nat) (s : State) : State :=
  let x := contOf s c
  let d := x.raw
  if !x.isOpen then s
  else if gwLee s (currentNum s) (leAt d 0x10 2) then contDiscard c s
  else
    let (parts, s) := x.entries.foldl (fun (a : List Bytes × State) e =>
      match entryTaken d e a.2 with
      | (some b, s) => (a.1 ++ [b], s)
      | (none, s) => (a.1, s)) ([], s)
    let (bus, data) := contFrame s d x.seq x.earliest parts
    let top := if byteAt d 2 = 0 then 65536 else 256
    let s := setCont c { contOf s c with entries := [], isOpen := false, seq := (x.seq + 1) % top } s
    let s := x.entries.foldl (fun s e => match e.pdu with
      | some i => mirrorPdu i s
      | none => s) s
    let s := match ctr with
      | some o => bump (gwCtr o) s
      | none => s
    let k := ownCause s
    let f := { gwFrame k bus data (leAt d 0x10 2) (byteAt d 5) with
      deadline := some x.earliest, container := some (c, x.earliest) }
    gwEmit k f (byteAt d 4) (bump (gwCtr 0x0140) s)

/-- Bytes in use of an open container (R271). -/
def Cont.fill (x : Cont) : Nat := contOverhead x.raw + (x.entries.map fun e => e.len).sum

/-- A container's definition for work of a generation: the one it is open under, else that generation's. -/
def contDef (s : State) (gen c : Nat) : Option Bytes :=
  let x := contOf s c
  if x.isOpen then some x.raw else genObj s gen .cont c

/-- The bytes of an entry's mirror record: what it is, its trigger and its deadline (R721). -/
def entryRecord (e : ContEntry) : Bytes :=
  le 8 e.trig ++ le 8 e.deadline ++ le 2 e.len ++ (match e.pdu, e.tunnel with
    | some i, _ => le 1 1 ++ le 2 i
    | none, some (c, g) => le 1 2 ++ le 1 g ++ le 4 (c.id % 2 ^ 29 + b2n c.ide * 2 ^ 29 + b2n c.rtr * 2 ^ 30) ++
        le 1 c.fmt ++ le 1 (b2n c.brs + 2 * b2n c.esi) ++ le 2 c.dlen ++ c.data
    | none, none => [])

/-- A triggered PDU or a tunnelled frame becomes pending in a container (R271). -/
def contPending (gen c : Nat) (pdu : Option Nat) (tunnel : Option (CanFrame × Nat)) (trig deadline : Tick)
    (s : State) : State :=
  match contDef s gen c with
  | none => s
  | some d =>
    let x := contOf s c
    if gwLee s gen (leAt d 0x10 2) then contDiscard c s
    else if x.isOpen && pdu.isSome && x.entries.any (fun e => e.pdu == pdu) then
      let es := x.entries.map fun e =>
        if e.pdu = pdu then { e with deadline := min e.deadline deadline, trig := trig } else e
      bump (gwCtr 0x0128) (setCont c { x with entries := es } s)
    else
      match (entrySize s gen d pdu tunnel).filter fun n => decide (n ≤ leAt d 6 2 - contOverhead d) with
      | none => bump (gwCtr 0x0168) s
      | some n =>
        let s := if x.isOpen && (decide (leAt d 6 2 < x.fill + n) || x.entries.length == 255) then
            contRelease c (some 0x0148) s
          else s
        let x := contOf s c
        let e : ContEntry := { pdu := pdu, tunnel := tunnel, trig := trig, deadline := deadline, len := n }
        let es := x.entries ++ [e]
        let d := if x.isOpen then x.raw else d
        let earliest := es.foldl (fun v e => min v e.deadline) deadline
        let y : Cont := { x with
          entries := es, isOpen := true, raw := d, earliest := earliest
          rel := earliest - txEst s d - us (leAt d 8 4) }
        let s := setCont c y (if pdu.isSome then bump (gwCtr 0x0120) s else s)
        let s := mirror (.container c (entryRecord e) earliest) s
        if y.fill = leAt d 6 2 ∨ es.length = 255 then contRelease c (some 0x0148) s
        else if y.rel ≤ s.now then contRelease c (some 0x0158) s
        else s

/-- A release comparator fires (R271). -/
def contDue (c : Nat) (s : State) : State :=
  let x := contOf s c
  if x.isOpen ∧ x.rel ≤ s.now then contRelease c (some 0x0150) s else s

/-- A container frame's last bit leaves at an instant (R275). -/
def contLeft (f : Frame) (t : Tick) (s : State) : State :=
  match f.container with
  | none => s
  | some (c, dl) =>
    if t ≤ dl then s
    else
      let s := bump (gwCtr 0x0160) s
      let x := contOf s c
      let quiet : Bool := match x.lastMiss with
        | some l => inWindow t l (ms 100)
        | none => false
      if quiet then s
      else raiseFull 0x0300 0x0102 (le 2 c ++ zeros 2 ++ le 4 (min 0xFFFFFFFF (2 * (t - dl)))) t false false
        (setCont c { x with lastMiss := some t } s)

/-! ### Triggers (R261-R266) -/

/-- A built PDU is emitted or becomes pending (R263, R265-R267). -/
def emitPdu (k : Cause) (i : Nat) (b : Bytes) (trig : Tick) (s : State) : State :=
  let x := builtOf s i b
  let mode := byteAt b 3
  let due := if mode = 2 ∨ mode = 4 then some (trig + us (leAt b 0x10 4)) else x.due
  let s := setBuilt i { x with lastTrig := trig, lastEmit := some trig, due := due } s
  let s :=
    if byteAt b 8 = 1 then contPending k.gen (leAt b 0xA 2) (some i) none trig (trig + us (leAt b 0xC 4)) s
    else if gwLee s k.gen (leAt b 0x26 2) then s
    else
      let (d, s) := takeBuilt k.gen i b s
      gwEmit k (gwFrame k (some (builtBus b d)) [] (leAt b 0x26 2) (byteAt b 0x1B)) (leAt b 0xA 2)
        (bump (gwCtr 0x0120) s)
  mirrorPdu i s

/-- An on-change or on-update trigger (R262, R265). -/
def triggerPdu (k : Cause) (i : Nat) (b : Bytes) (trig : Tick) (s : State) : State :=
  let x := builtOf s i b
  let gap := us (100 * leAt b 0x18 2)
  let inGap : Bool := match x.lastEmit with
    | some e => inWindow trig e gap
    | none => false
  if x.deferred.isSome then mirrorPdu i s
  else if inGap then
    let s := setBuilt i { x with deferred := some (x.lastEmit.getD 0 + gap) } s
    mirrorPdu i (bump (gwCtr 0x0130) s)
  else emitPdu k i b trig s

/-- A cyclic due instant (R262-R264). -/
def cyclicDue (i : Nat) (s : State) : State :=
  match pduOf s (currentNum s) i 1 with
  | none => s
  | some b =>
    let x := builtOf s i b
    match x.due with
    | none => s
    | some e =>
      if s.now < e ∨ ¬ [1, 2, 4].contains (byteAt b 3) then s
      else
        let s := setBuilt i { x with due := some (e + us (leAt b 0x10 4)) } s
        emitPdu (ownCause s) i b e s

/-- The end of a MIN_GAP (R261, R265). -/
def minGapEnd (i : Nat) (s : State) : State :=
  match pduOf s (currentNum s) i 1 with
  | none => s
  | some b =>
    let x := builtOf s i b
    match x.deferred with
    | none => s
    | some e => if s.now < e then s else emitPdu (ownCause s) i b e (setBuilt i { x with deferred := none } s)

/-! ### Mappings (R252-R259) -/

/-- The positions of a big-endian signal, most significant bit first (R254). -/
def bigPositions : Nat → Nat → List Nat
  | 0, _ => []
  | n + 1, p => p :: bigPositions n (if p % 8 = 0 then p + 15 else p - 1)

/-- The positions a mapping touches on one side, least significant bit first (R253-R255). -/
def mapPositions (m : Bytes) (src : Bool) : List Nat :=
  let pos := leAt m (if src then 4 else 6) 2
  let w := leAt m 8 2
  let fl := leAt m 0xA 2
  if bit fl 0 then (List.range (8 * w)).map fun i => pos + i
  else if bit fl (if src then 1 else 2) then (bigPositions w pos).reverse
  else (List.range w).map fun i => pos + i

/-- The bits of a number at a list of positions. -/
def getAt (v : Nat) (ps : List Nat) : Nat := ps.foldr (fun p r => 2 * r + b2n (v.testBit p)) 0

/-- The number with the bits at a list of positions replaced by those of `x`. -/
def putAt (v : Nat) : List Nat → Nat → Nat
  | [], _ => v
  | p :: ps, x => putAt (putBits v p 1 x) ps (x / 2)

/-- The mappings of a source PDU in a generation, by index (R257). -/
def mapsOf (s : State) (gen i : Nat) : List Bytes :=
  ((genObjs s gen).filter fun e => okind e.1 == Kind.map.code && leAt e.2 0 2 == i).map fun e => e.2

/-- What a mapping writes: the received PDU, or all zeros or ones (R258, R260). -/
inductive MapInput where
  | data (d : Bytes)
  | fill (ones : Bool)

/-- Apply one mapping; the built PDUs its TRIGGER mappings wrote, with whether bits changed (R257-R259). -/
def applyMap (gen : Nat) (inp : MapInput) (m : Bytes) (a : State × Tab Bool) : State × Tab Bool :=
  let (s, hit) := a
  let j := leAt m 2 2
  match pduOf s gen j 1 with
  | none => a
  | some b =>
    let x := builtOf s j b
    let dst := mapPositions m false
    let sps := mapPositions m true
    let value : Option Nat := match inp with
      | .fill ones => some (if ones then 2 ^ dst.length - 1 else 0)
      | .data d => if sps.all fun p => decide (p < 8 * d.length) then some (getAt (leAt d 0 d.length) sps) else none
    match value with
    | none => (bump (gwCtr 0x0118) s, hit)
    | some v =>
      if dst.any fun p => decide (8 * x.image.length ≤ p) then a
      else
        let old := leAt x.image 0 x.image.length
        let new := putAt old dst v
        let s := bump (gwCtr 0x0110) (setBuilt j { x with image := le x.image.length new } s)
        (s, if bit (leAt m 0xA 2) 3 then tset hit j (tget hit false j || new != old) else hit)

/-- Apply the mappings of a source PDU and trigger what they changed or updated (R257-R262). -/
def applyMaps (k : Cause) (i : Nat) (inp : MapInput) (trig : Tick) (s : State) : State :=
  let (s, hit) := (mapsOf s k.gen i).foldl (fun a m => applyMap k.gen inp m a) (s, [])
  hit.foldl (fun s e => match pduOf s k.gen e.1 1 with
    | none => s
    | some b =>
      let mode := byteAt b 3
      if (mode = 3 ∨ mode = 4) ∨ ((mode = 0 ∨ mode = 2) ∧ e.2) then triggerPdu k e.1 b trig s
      else mirrorPdu e.1 s) s

/-! ### Source PDUs (R258, R260, R312, R313) -/

/-- A source PDU as it stands. -/
def sourceOf (s : State) (i : Nat) : SourcePdu :=
  tget s.gw.source { accepted := none, last := 0, window := 0, timedOut := false, lastFail := none } i

/-- Replace it. -/
def setSource (i : Nat) (x : SourcePdu) (s : State) : State := { s with gw.source := tset s.gw.source i x }

/-- The end of the reception window in force (R260). -/
def sourceDue (b : Bytes) (x : SourcePdu) : Option Tick :=
  if leAt b 0x1C 4 = 0 then none else some (x.window + ms (leAt b 0x1C 4))

/-- One reception window ends without a reception (R260, R312). -/
def sourceTimeout (i : Nat) (s : State) : State :=
  match pduOf s (currentNum s) i 0 with
  | none => s
  | some b =>
    let x := sourceOf s i
    match sourceDue b x with
    | none => s
    | some e =>
      if s.now < e then s
      else
        let s := bump (gwCtr 0x0138) s
        let s := if x.timedOut then s else raiseFull 0x0300 0x0101 (le 2 i) e false false s
        let s := setSource i { x with accepted := none, window := e, timedOut := true } s
        let act := bits (byteAt b 0x1A) 4 3
        if act = 0 then s else applyMaps (ownCause s) i (.fill (act == 1)) e s

/-- The windows that end at or before an instant (R16, R260). -/
def sourceTimeouts (i : Nat) (t : Tick) (s : State) : State :=
  match pduOf s (currentNum s) i 0 with
  | none => s
  | some b =>
    match sourceDue b (sourceOf s i) with
    | none => s
    | some e =>
      if t < e then s
      else (List.range ((t - e) / ms (leAt b 0x1C 4) + 1)).foldl (fun s _ => sourceTimeout i s) s

/-- The E2E judgement of a reception: its RESULT and the source as it then stands (R312). -/
def e2eJudge (pr d : Bytes) (len : Nat) (x : SourcePdu) : Nat × SourcePdu :=
  match e2eRead pr d len with
  | none => (1, x)
  | some n =>
    match x.accepted with
    | none => (0, { x with accepted := some n })
    | some a =>
      if byteAt pr 3 = 0 then (0, x)
      else
        let step := (n + (leAt pr 8 2 + 1) - a % (leAt pr 8 2 + 1)) % (leAt pr 8 2 + 1)
        if step = 0 then (2, x)
        else (if byteAt pr 10 < step then 3 else 0, { x with accepted := some n })

/-- The counter of an E2E RESULT (R321). -/
def e2eCtr (r : Nat) : Nat := match r with
  | 0 => 0x0190
  | 1 => 0x0198
  | 2 => 0x01A0
  | _ => 0x01A8

/-- A source PDU is received (R257-R260, R310-R313): its bytes with trailer, the trigger instant, and the
frame's flow. -/
def sourceRx (k : Cause) (i : Nat) (d : Bytes) (trig : Tick) (flow : Nat) (s : State) : State :=
  match pduOf s k.gen i 0 with
  | none => s
  | some b =>
    let s := sourceTimeouts i trig s
    let s := setSource i { sourceOf s i with last := trig, window := trig, timedOut := false } s
    let len := leAt b 4 2
    let go (s : State) : State := applyMaps k i (.data (d.take len)) trig s
    match pduProfile s k.gen b with
    | none => go s
    | some pr =>
      let (r, x) := e2eJudge pr d len (sourceOf s i)
      let s := bump (gwCtr (e2eCtr r)) (setSource i x s)
      if r = 0 then go s
      else
        let quiet : Bool := match x.lastFail with
          | some l => inWindow k.stamp l (ms 100)
          | none => false
        let s := if quiet then s
          else raiseFull 0x0300 0x0103 (le 2 i ++ le 1 r ++ zeros 1 ++ le 2 flow) k.stamp false false
            (setSource i { x with lastFail := some k.stamp } s)
        let s := if (flowEntry s k.gen flow).safety then safetyE 12 flow s else s
        if bit (byteAt b 0x1A) 2 then s else go s

/-- The data of a frame for extraction: from the first data byte, or after the last EtherType (R249). -/
def frameData (f : Frame) : Bytes := match f.bus with
  | some c => c.data.take c.dlen
  | none => f.data.drop (skipTags f.data 8 12 + 2)

/-! ### Unpacking (R280-R284) -/

/-- The entries of a FORMAT 0 data field from an offset: PID, AGE and data; `none` where one overruns. -/
def xlEntries (d : Bytes) : Nat → Nat → Option (List (Nat × Nat × Bytes))
  | 0, _ => none
  | n + 1, o =>
    if o = d.length then some []
    else if d.length < o + 4 then none
    else
      let len := byteAt d (o + 2) + 1
      if d.length < o + 4 + len then none
      else (xlEntries d n (o + 4 + len)).map fun r => (beAt d o 2, byteAt d (o + 3), slice d (o + 4) len) :: r

/-- The messages of an ACF payload; `none` where one overruns. -/
def acfSplit (d : Bytes) : Nat → Nat → Option (List Bytes)
  | 0, _ => none
  | n + 1, o =>
    if o = d.length then some []
    else
      let len := beAt d o 2 % 512 * 4
      if d.length < o + 4 ∨ len < 4 ∨ d.length < o + len then none
      else (acfSplit d n (o + len)).map fun r => slice d o len :: r

/-- The frame and bus ID of an ACF message of type 0x01, 0x02 or 0x03 (R279, R283). -/
def acfBus (m : Bytes) : Option (CanFrame × Nat) :=
  let typ := beAt m 0 2 / 512
  let w := beAt m 2 2
  let mk (h id : Nat) (fmt : Nat) (ide : Bool) : CanFrame :=
    let n := m.length - h - w / 2 ^ 14
    { id := id, ide := ide, rtr := fmt != 3 && bit w 12, fmt := fmt, brs := fmt == 1 && bit w 10
      esi := fmt == 1 && bit w 8, sec := false, enh := false, dlc := if fmt ≤ 1 then dlcOf n else 0, dlen := n
      af := 0, sdt := 0, vcid := 0, data := slice m h n }
  if typ = 1 ∧ 16 ≤ m.length then
    some (mk 16 (beAt m 12 4 % 2 ^ 29) (b2n (bit w 9)) (bit w 11), w % 32)
  else if typ = 2 ∧ 8 ≤ m.length then
    some (mk 8 (beAt m 4 4 % 2 ^ 29) (b2n (bit w 9)) (bit w 11), w % 32)
  else if typ = 3 ∧ 12 ≤ m.length then some (mk 12 (w % 64) 3 false, w / 2 ^ 8 % 32)
  else none

/-- The ACF messages of an AVTP frame and its sequence number (R278, R280); the pad of a minimum frame is not
part of the data. -/
def avtpMessages (fmt : Nat) (d : Bytes) : Option (Nat × List Bytes) :=
  let o := skipTags d 8 12 + 2
  let head := if fmt = 1 then 12 else 24
  let len := if fmt = 1 then beAt d (o + 1) 2 % 2048 else beAt d (o + 20) 2
  let rest := d.drop (o + head)
  if byteAt d o ≠ (if fmt = 1 then 0x82 else 0x05) ∨ d.length < o + head then none
  else if len = rest.length ∨ (len < rest.length ∧ d.length ≤ 60) then
    (acfSplit (rest.take len) (len + 1) 0).map fun ms => (byteAt d (o + (if fmt = 1 then 3 else 2)), ms)
  else none

/-- The sequence check of a received container (R284). -/
def contSeq (c seq top : Nat) (s : State) : State :=
  let x := contOf s c
  let s := match x.rxSeq with
    | some p => if (p + 1) % top = seq then s else bump (gwCtr 0x0188) s
    | none => s
  setCont c { contOf s c with rxSeq := some seq } s

/-- A tunnel frame re-enters and is classified as if received on its gport (R283). -/
def tunnelOut (f : Frame) (s : State) : State :=
  let hold (s : State) : State := { s with gw.stalled := s.gw.stalled ++ [f] }
  if !s.gw.stalled.isEmpty then hold s
  else
    let (g, s1) := classifyIn f.gen f s
    let a := forward g gRecirc true false s1
    if a.wait then hold s else a.st

/-- Unpack a container frame (R280-R284). -/
def unpack (c : Nat) (d : Bytes) (f : Frame) (s : State) : State :=
  let k : Cause := { gen := f.gen, stamp := f.stamp, driven := true }
  let bad (s : State) : State := bump (gwCtr 0x0178) s
  if byteAt d 2 = 0 then
    let x : Bytes := match f.bus with
      | some b => if b.fmt = 2 then b.data.take b.dlen else []
      | none => []
    match xlEntries x (x.length + 1) 4 with
    | some es =>
      if byteAt x 0 ≠ 0x10 ∨ byteAt x 1 ≠ es.length then bad s
      else
        let s := contSeq c (beAt x 2 2) 65536 (bump (gwCtr 0x0170) s)
        es.foldl (fun s e =>
          let base := leAt d 0x1C 2
          let i := leAt d 0x20 2 + (e.1 - base)
          let fits : Bool := match pduOf s f.gen i 0 with
            | some b => e.2.2.length == pduLen s f.gen b
            | none => false
          if decide (base ≤ e.1) && decide (e.1 < base + leAt d 0x1E 2) && fits then
            sourceRx k i e.2.2 (if bit (byteAt d 0x12) 1 then f.stamp - us (10 * e.2.1) else f.stamp) f.flow s
          else bump (gwCtr 0x0180) s) s
    | none => bad s
  else
    match f.bus, avtpMessages (byteAt d 2) f.data with
    | none, some (seq, ms) =>
      let s := contSeq c seq 256 (bump (gwCtr 0x0170) s)
      ms.foldl (fun s m => match acfBus m with
        | some (b, id) =>
          let g := byteAt d (0x40 + id)
          if (if b.fmt = 3 then isLin g else isCan g) && adminUp s g then
            tunnelOut { Frame.arrived (some b) [] g f.stamp with gen := f.gen } s
          else bump (gwCtr 0x0180) s
        | none => bump (gwCtr 0x0180) s) s
    | _, _ => bad s

end Sys2Proof.Machine
end

