-- ==== Sys2Proof/Machine/TpOps.lean ====
section
/-!
DEFINITION. The transport engine (R295-R306): sessions of J1939-21 and ISO 15765-2 in both directions,
message records, and how sessions end.
-/
namespace Sys2Proof.Machine

/-! ### Channels (R295) -/

def tpProto (b : Bytes) : Nat := byteAt b 2
def tpSend (b : Bytes) : Bool := byteAt b 3 == 1
def tpGport (b : Bytes) : Nat := byteAt b 4
def tpAe (b : Bytes) : Nat := byteAt b 6
def tpDl (b : Bytes) : Nat := byteAt b 7
def tpRxId (b : Bytes) : Nat := leAt b 8 4
def tpTxId (b : Bytes) : Nat := leAt b 0xC 4
def tpMax (b : Bytes) : Nat := leAt b 0x10 2
def tpN (b : Bytes) : Tick := ms (orDefault (leAt b 0x14 2) 1000)

/-- Address bytes before the PCI of ISO 15765-2. -/
def tpOff (b : Bytes) : Nat := if byteAt b 5 = 0 then 0 else 1

/-- Session `n`. -/
def sessionOf (s : State) (n : Nat) : Option TpSession := tget? s.gw.sessions n

/-- Replace it. -/
def setSession (n : Nat) (x : TpSession) (s : State) : State := { s with gw.sessions := tset s.gw.sessions n x }

/-- The lowest free session of 2,048 (DESIGN CHOICE, log entry 31). -/
def freeSession (s : State) : Option Nat :=
  if 2048 ≤ s.gw.sessions.length then none else (List.range 2048).find? fun n => !thas s.gw.sessions n

/-- The first session that meets `f`. -/
def findSession (s : State) (f : TpSession → Bool) : Option (Nat × TpSession) :=
  s.gw.sessions.find? fun e => f e.2

/-- A session as it opens. -/
def TpSession.start (c : Nat) (b : Bytes) (peer dst pgn total : Nat) (k : Cause) : TpSession :=
  { channel := c, raw := b, peer := peer, dst := dst, pgn := pgn, wait := .packet, total := total, data := []
    done := 0, seq := 1, block := 0, maxPackets := 0xFF, stmin := 0, waits := 0, timer := 0, gen := k.gen
    trig := k.stamp, res := 0, shared := 0, segs := [] }

/-! ### Segments -/

/-- A data frame of the engine. -/
def segFrame (id : Nat) (ide fd : Bool) (d : Bytes) : CanFrame :=
  { id := id, ide := ide, rtr := false, fmt := if fd then 1 else 0, brs := fd && Config.tpBrs, esi := false
    sec := false, enh := false, dlc := dlcOf d.length, dlen := d.length, af := 0, sdt := 0, vcid := 0, data := d }

/-- Emit a segment or control frame of a channel (R246). -/
def tpEmit (k : Cause) (b : Bytes) (c : CanFrame) (sess : Option Nat) (s : State) : State :=
  gwEmit k { gwFrame k (some c) [] (leAt b 0x1C 2) (byteAt b 0x19) with session := sess } (tpGport b) s

/-- The own address of a gport, 0xFE without one (R291). -/
def ownAddr (s : State) (g : Nat) : Nat := match tget? s.gw.own g with
  | some x => x.1
  | none => 0xFE

/-- A TP.CM (0xEC) or TP.DT (0xEB) frame of J1939-21. -/
def j1939Tp (pf da sa : Nat) (d : Bytes) : CanFrame :=
  segFrame (7 * 2 ^ 26 + pf * 2 ^ 16 + da * 2 ^ 8 + sa) true false d

/-- The connection management messages of J1939-21. -/
def cmRts (len pgn : Nat) : Bytes := [16] ++ le 2 len ++ le 1 ((len + 6) / 7) ++ [0xFF] ++ le 3 pgn
def cmCts (n next pgn : Nat) : Bytes := [17] ++ le 1 n ++ le 1 next ++ [0xFF, 0xFF] ++ le 3 pgn
def cmEom (len pgn : Nat) : Bytes := [19] ++ le 2 len ++ le 1 ((len + 6) / 7) ++ [0xFF] ++ le 3 pgn
def cmBam (len pgn : Nat) : Bytes := [32] ++ le 2 len ++ le 1 ((len + 6) / 7) ++ [0xFF] ++ le 3 pgn
def cmAbort (reason pgn : Nat) : Bytes := [255] ++ le 1 reason ++ [0xFF, 0xFF, 0xFF] ++ le 3 pgn

/-- A TP.DT packet: sequence number and 7 bytes, filled with 0xFF. -/
def dtBytes (d : Bytes) (seq : Nat) : Bytes :=
  let x := (d.drop (7 * (seq - 1))).take 7
  le 1 seq ++ x ++ List.replicate (7 - x.length) 0xFF

/-- The bytes of an ISO segment: filled as CAN CC, or to a CAN FD length. -/
def isoBytes (b : Bytes) (pci d : Bytes) : Bytes :=
  let x := (if tpOff b = 0 then [] else [BitVec.ofNat 8 (tpAe b)]) ++ pci ++ d
  let n := if x.length ≤ 8 then 8 else (fdLength x.length).getD 64
  x ++ List.replicate (n - x.length) (BitVec.ofNat 8 (byteAt b 0x17))

/-- An ISO segment on TX_ID. -/
def isoFrame (b : Bytes) (pci d : Bytes) : CanFrame :=
  segFrame (tpTxId b % 2 ^ 29) (bit (tpTxId b) 29) (decide (8 < tpDl b)) (isoBytes b pci d)

/-! ### Messages (R296, R297, R304) -/

/-- A message record (R296). -/
def messageRecord (c peer pgn : Nat) (d : Bytes) : Bytes :=
  le 2 c ++ le 1 peer ++ zeros 1 ++ le 4 pgn ++ le 4 d.length ++ padTo (4 * ((d.length + 3) / 4)) d

/-- Give a session's cells back (R347). -/
def dropCells (x : TpSession) (s : State) : State :=
  let a := account s gRecirc (byteAt x.raw 0x19)
  if x.segs.isEmpty then s
  else
    poolGrown (useCells x.segs false (setAccount gRecirc (byteAt x.raw 0x19)
      { a with resUsed := a.resUsed - x.res, sharedUsed := a.sharedUsed - x.shared } s))

/-- Hold the cells a reassembly of `len` bytes needs; none where there are not enough (R347). -/
def growCells (x : TpSession) (len : Nat) (s : State) : Option (TpSession × State) :=
  let c := byteAt x.raw 0x19
  let n := (12 + len + 127) / 128 - (x.res + x.shared)
  if n = 0 then some (x, s)
  else if freeCells s < n then none
  else
    match charge s gRecirc c n false with
    | none => none
    | some (r, h) =>
      let a := account s gRecirc c
      let segs := takeFrom s segments n
      some ({ x with res := x.res + r, shared := x.shared + h, segs := x.segs ++ segs },
        useCells segs true (setAccount gRecirc c
          { a with resUsed := a.resUsed + r, sharedUsed := a.sharedUsed + h } s))

/-- TP_END and the counters of a session's end (R306); its cells go back. -/
def closeSession (n reason : Nat) (x : TpSession) (s : State) : State :=
  let s := dropCells x { s with gw.sessions := tdel s.gw.sessions n }
  let send := tpSend x.raw
  let s := bump (gwCtr (if reason ≠ 0 then 0x01C0 else if send then 0x01B8 else 0x01B0)) s
  raiseEvent 0x0300 0x0104
    (le 2 x.channel ++ le 2 n ++ le 1 (b2n send) ++ le 1 reason ++ zeros 2 ++ le 4 (min x.done x.total)) s

/-- The messages of a send channel that wait (R297). -/
def waitingOf (s : State) (c : Nat) : List TpMessage := tget s.gw.sendQ [] c

/-- Replace them. -/
def setWaiting (c : Nat) (l : List TpMessage) (s : State) : State :=
  { s with gw.sendQ := if l.isEmpty then tdel s.gw.sendQ c else tset s.gw.sendQ c l }

/-- The single-frame capacity of an ISO channel (R300). -/
def isoSingle (b : Bytes) : Nat := if tpDl b ≤ 8 then 7 - tpOff b else tpDl b - 2 - tpOff b

/-- The PCI of an ISO first frame and the data bytes it carries (R300). -/
def isoFirst (b : Bytes) (len : Nat) : Bytes × Nat :=
  if len ≤ 4095 then (be 2 (0x1000 + len), max 8 (tpDl b) - 2 - tpOff b)
  else ([0x10, 0x00] ++ be 4 len, max 8 (tpDl b) - 6 - tpOff b)

/-- Open a send session for a message and release its first frame (R297, R298, R300). -/
def openSend (n c : Nat) (b : Bytes) (m : TpMessage) (s : State) : State :=
  let k := ownCause s
  let x := { TpSession.start c b m.peer (tpAe b) m.pgn m.data.length k with data := m.data }
  let len := m.data.length
  match tpProto b with
  | 0 =>
    let y : TpSession := { x with wait := .release, timer := s.now + ms (orDefault (byteAt b 0x1E) 50) }
    tpEmit k b (j1939Tp 0xEC 0xFF (ownAddr s (tpGport b)) (cmBam len m.pgn)) (some n) (setSession n y s)
  | 1 =>
    let y : TpSession := { x with peer := tpAe b, wait := .grant, timer := s.now + ms 1250 }
    tpEmit k b (j1939Tp 0xEC (tpAe b) (ownAddr s (tpGport b)) (cmRts len m.pgn)) (some n) (setSession n y s)
  | _ =>
    if len ≤ isoSingle b then
      let short := decide (len ≤ 7 - tpOff b)
      let y : TpSession := { x with wait := .sent, done := len, timer := s.now + tpN b }
      tpEmit k b (isoFrame b (if short then le 1 len else [0x00] ++ le 1 len) m.data) (some n) (setSession n y s)
    else
      let (pci, d) := isoFirst b len
      let y : TpSession := { x with wait := .sent, done := d, timer := s.now + tpN b }
      tpEmit k b (isoFrame b pci (m.data.take d)) (some n) (setSession n y s)

/-- Start the next waiting message of a send channel (R297, R291). -/
def startNext (c : Nat) : List TpMessage → State → State
  | [], s => setWaiting c [] s
  | m :: r, s =>
    match curObj s .tpChannel c, freeSession s with
    | some b, some n =>
      if !tpSend b then setWaiting c [] s
      else if tpProto b ≤ 1 ∧ ownAddr s (tpGport b) = 0xFE then
        let x := TpSession.start c b m.peer (tpAe b) m.pgn m.data.length (ownCause s)
        startNext c r (closeSession n 8 x s)
      else openSend n c b m (setWaiting c r s)
    | some _, none => startNext c r (bump (gwCtr 0x01C8) s)
    | none, _ => setWaiting c [] s

/-- A send channel has a session open. -/
def sendBusy (s : State) (c : Nat) : Bool := s.gw.sessions.any fun e => e.2.channel == c && tpSend e.2.raw

/-- A session ends; its channel's next message starts (R306, R297). -/
def tpEnd (n reason : Nat) (s : State) : State :=
  match sessionOf s n with
  | none => s
  | some x =>
    let s := closeSession n reason x s
    if tpSend x.raw then startNext x.channel (waitingOf s x.channel) s else s

/-- A message enters a send channel (R297). -/
def tpQueue (c : Nat) (b : Bytes) (m : TpMessage) (s : State) : State :=
  let w := waitingOf s c
  if tpMax b < m.data.length ∨ 16 ≤ w.length then bump (gwCtr 0x01C8) s
  else
    let s := setWaiting c (w ++ [m]) s
    if sendBusy s c then s else startNext c (w ++ [m]) s

/-- A completed reception is delivered (R304). -/
def tpDeliver (k : Cause) (c : Nat) (b : Bytes) (peer pgn : Nat) (d : Bytes) (s : State) : State :=
  let out := leAt b 0x1A 2
  match byteAt b 0x18 with
  | 0 =>
    let hosts : Bool := match ringOf s out with
      | some r => (partner s r.owner).transport == 2
      | none => false
    let k := { k with driven := false }
    gwEmit k { gwFrame k none (messageRecord c peer pgn d) (leAt b 0x1C 2) (byteAt b 0x19) with ring := some out }
      (if hosts then gHosts else gHostp) s
  | 1 => sourceRx k out d k.stamp (leAt b 0x1C 2) s
  | _ =>
    match genObj s k.gen .tpChannel out with
    | some o =>
      tpQueue out o { peer := peer, pgn := pgn, data := d, gen := k.gen, trig := k.stamp } s
    | none => bump (gwCtr 0x0108) s

/-- A reception is complete: its cells are freed, it is delivered and its session ends (R304, R306). -/
def rxDone (k : Cause) (n : Nat) (x : TpSession) (s : State) : State :=
  let y : TpSession := { x with res := 0, shared := 0, segs := [] }
  let s := setSession n y (dropCells x s)
  let s := tpDeliver k x.channel x.raw (if tpProto x.raw ≤ 1 then x.peer else if tpOff x.raw = 0 then 0 else x.peer)
    (if tpProto x.raw ≤ 1 then x.pgn else 0) (x.data.take x.total) s
  tpEnd n 0 s

/-! ### J1939-21 (R298, R299) -/

/-- Send Connection Abort on a CMDT session. -/
def sendAbort (k : Cause) (x : TpSession) (reason : Nat) (s : State) : State :=
  tpEmit k x.raw (j1939Tp 0xEC x.peer (ownAddr s (tpGport x.raw)) (cmAbort reason x.pgn)) none s

/-- Send the next CTS of a CMDT reception (R298). -/
def sendCts (k : Cause) (n : Nat) (x : TpSession) (s : State) : State :=
  let bs := byteAt x.raw 0x12
  let left := (x.total + 6) / 7 + 1 - x.seq
  let m := min (if bs = 0 then x.maxPackets else min bs x.maxPackets) left
  let y : TpSession := { x with block := m, wait := .afterCts, timer := s.now + ms 1250 }
  tpEmit k x.raw (j1939Tp 0xEC x.peer (ownAddr s (tpGport x.raw)) (cmCts m x.seq x.pgn)) (some n) (setSession n y s)

/-- Open a J1939 reception (R298, R299, R347). -/
def openRx (k : Cause) (c : Nat) (b : Bytes) (sa da len pgn maxP : Nat) (s : State) : State :=
  let refuse (reason : Nat) (s : State) : State :=
    let s := bump (gwCtr 0x01C8) s
    if tpProto b = 1 then
      tpEmit k b (j1939Tp 0xEC sa (ownAddr s (tpGport b)) (cmAbort reason pgn)) none s
    else s
  match freeSession s with
  | none => refuse 1 s
  | some n =>
    if tpMax b < len then refuse 2 s
    else
      let x := { TpSession.start c b sa da pgn len k with maxPackets := maxP, timer := k.stamp + ms 750 }
      match growCells x 0 s with
      | none => closeSession n 10 x s
      | some (x, s) => if tpProto b = 1 then sendCts k n x s else setSession n x s

/-- A J1939 session of a gport with a peer, in a direction. -/
def j1939Session (s : State) (g sa da : Nat) (send : Bool) : Option (Nat × TpSession) :=
  findSession s fun x => tpProto x.raw ≤ 1 && tpGport x.raw == g && tpSend x.raw == send && x.peer == sa &&
    (send || x.dst == da)

/-- A TP.CM frame (R298, R299). -/
def j1939Cm (k : Cause) (c : Nat) (b : Bytes) (sa da : Nat) (d : Bytes) (s : State) : State :=
  let g := tpGport b
  let len := leAt d 1 2
  let pgn := leAt d 5 3 % 2 ^ 18
  let mine := !tpSend b && pgn == tpRxId b % 2 ^ 18 && (tpAe b == 0xFF || tpAe b == sa)
  match byteAt d 0 with
  | 32 =>
    if !mine || tpProto b != 0 || da != 0xFF then s
    else
      let s := match j1939Session s g sa 0xFF false with
        | some (n, _) => tpEnd n 5 s
        | none => s
      openRx k c b sa da len pgn 0xFF s
  | 16 =>
    if tpSend b || tpProto b != 1 || da != ownAddr s g || da == 0xFE then s
    else
      match j1939Session s g sa da false with
      | some (n, x) =>
        if x.pgn = pgn then
          if mine then openRx k c b sa da len pgn (byteAt d 4) (tpEnd n 5 s) else s
        else
          tpEmit k b (j1939Tp 0xEC sa da (cmAbort 1 pgn)) none (bump (gwCtr 0x01C8) s)
      | none => if mine then openRx k c b sa da len pgn (byteAt d 4) s else s
  | 17 =>
    match findSession s (fun x => tpProto x.raw == 1 && tpGport x.raw == g && tpSend x.raw && x.peer == sa &&
        x.pgn == pgn && x.wait == .grant) with
    | none => s
    | some (n, x) =>
      if da ≠ ownAddr s g then s
      else if byteAt d 1 = 0 then setSession n { x with timer := k.stamp + ms 1050 } s
      else
        let last := (x.total + 6) / 7
        let next := max 1 (byteAt d 2)
        let m := min (byteAt d 1) (last + 1 - next)
        let s := (List.range m).foldl (fun s i =>
          tpEmit k x.raw (j1939Tp 0xEB x.peer (ownAddr s g) (dtBytes x.data (next + i))) (some n) s) s
        let all := decide (last < next + m)
        setSession n { x with
          seq := next + m, done := 7 * (next + m - 1), wait := if all then .eom else .grant
          timer := s.now + ms 1250 } s
  | 19 =>
    match findSession s (fun x => tpProto x.raw == 1 && tpGport x.raw == g && tpSend x.raw && x.peer == sa &&
        x.pgn == pgn && x.wait == .eom) with
    | some (n, _) => if da = ownAddr s g then tpEnd n 0 s else s
    | none => s
  | 255 =>
    match findSession s (fun x => tpProto x.raw == 1 && tpGport x.raw == g && x.peer == sa && x.pgn == pgn) with
    | some (n, _) => if da = ownAddr s g then tpEnd n 3 s else s
    | none => s
  | _ => s

/-- A TP.DT frame (R298, R299). -/
def j1939Dt (k : Cause) (g sa da : Nat) (d : Bytes) (s : State) : State :=
  match j1939Session s g sa da false with
  | none => s
  | some (n, x) =>
    let cmdt := tpProto x.raw == 1
    if byteAt d 0 ≠ x.seq then
      tpEnd n 2 (if cmdt then sendAbort k x 7 s else s)
    else
      let data := x.data ++ slice d 1 7
      match growCells x (min data.length x.total) s with
      | none => tpEnd n 10 s
      | some (x, s) =>
        let x : TpSession := { x with data := data, done := data.length, seq := x.seq + 1, block := x.block - 1
                                      wait := .packet, timer := k.stamp + ms 750 }
        if x.total ≤ data.length then
          let s := if cmdt then
              tpEmit k x.raw (j1939Tp 0xEC x.peer (ownAddr s g) (cmEom x.total x.pgn)) none s
            else s
          rxDone k n x s
        else if cmdt && x.block == 0 then sendCts k n x s
        else setSession n x s

/-! ### ISO 15765-2 (R300-R303) -/

/-- A flow control frame of a receive channel (R301). -/
def isoFc (k : Cause) (b : Bytes) (status : Nat) (sess : Option Nat) (s : State) : State :=
  tpEmit k b (isoFrame b (le 1 (0x30 + status) ++ slice b 0x12 2) []) sess s

/-- The ticks of an STmin code (R303). -/
def stminTicks (c : Nat) : Tick := if c ≤ 0x7F then ms c else if within c 0xF1 0xF9 then us (100 * (c - 0xF0)) else ms 0x7F

/-- The reception a channel has open. -/
def isoSession (s : State) (c : Nat) : Option (Nat × TpSession) :=
  findSession s fun x => x.channel == c && !tpSend x.raw

/-- A reception from the same sender is replaced (R302). -/
def isoReplace (c : Nat) (s : State) : State := match isoSession s c with
  | some (n, _) => tpEnd n 5 s
  | none => s

/-- The next consecutive frame of a send session (R303). -/
def isoNextCf (k : Cause) (n : Nat) (x : TpSession) (s : State) : State :=
  let m := max 8 (tpDl x.raw) - 1 - tpOff x.raw
  let y : TpSession := { x with done := x.done + m, seq := (x.seq + 1) % 16, block := x.block - 1, wait := .sent
                                timer := s.now + tpN x.raw }
  tpEmit k x.raw (isoFrame x.raw (le 1 (0x20 + x.seq)) ((x.data.drop x.done).take m)) (some n) (setSession n y s)

/-- A flow control reaches a send session; a block size of 0 is held as one more than any message needs
(R303). -/
def isoFlow (k : Cause) (n : Nat) (x : TpSession) (d : Bytes) (o : Nat) (s : State) : State :=
  if x.wait ≠ .grant then s
  else
    match byteAt d o % 16 with
    | 0 =>
      let bs := byteAt d (o + 1)
      isoNextCf k n { x with waits := 0, block := if bs = 0 then 65536 else bs
                             stmin := stminTicks (byteAt d (o + 2)) } s
    | 1 =>
      if byteAt x.raw 0x16 < x.waits + 1 then tpEnd n 9 s
      else setSession n { x with waits := x.waits + 1, timer := k.stamp + tpN x.raw } s
    | 2 => tpEnd n 6 s
    | _ => s

/-- A frame of ISO 15765-2 sent to a channel (R300-R303). -/
def isoRx (k : Cause) (c : Nat) (b : Bytes) (f : CanFrame) (s : State) : State :=
  let d := f.data.take f.dlen
  let o := tpOff b
  let word := f.id % 2 ^ 29 + b2n f.ide * 2 ^ 29
  if word ≠ tpRxId b % 2 ^ 30 ∨ (o = 1 ∧ byteAt d 0 ≠ tpAe b) ∨ d.length ≤ o then s
  else
    let peer := if o = 1 then tpAe b else 0
    match byteAt d o / 16 with
    | 0 =>
      if tpSend b then s
      else
        let long := byteAt d o % 16 == 0
        let len := if long then byteAt d (o + 1) else byteAt d o % 16
        let h := if long then o + 2 else o + 1
        if len = 0 ∨ d.length < h + len ∨ (long ∧ d.length ≤ 8) then s
        else if tpMax b < len then bump (gwCtr 0x01C8) (isoReplace c s)
        else tpDeliver k c b peer 0 (slice d h len) (isoReplace c s)
    | 1 =>
      if tpSend b ∨ d.length < 8 then s
      else
        let esc := beAt d o 2 == 0x1000
        let len := if esc then beAt d (o + 2) 4 else beAt d o 2 % 4096
        let h := if esc then o + 6 else o + 2
        let s := isoReplace c s
        match freeSession s with
        | none => isoFc k b 2 none (bump (gwCtr 0x01C8) s)
        | some n =>
          if tpMax b < len then isoFc k b 2 none (bump (gwCtr 0x01C8) s)
          else
            let x := { TpSession.start c b peer 0 0 len k with
              data := d.drop h, done := d.length - h, block := byteAt b 0x12, timer := s.now + tpN b }
            match growCells x (min x.done len) s with
            | none => closeSession n 10 x s
            | some (x, s) => isoFc k b 0 (some n) (setSession n x s)
    | 2 =>
      match if tpSend b then none else isoSession s c with
      | none => s
      | some (n, x) =>
        if byteAt d o % 16 ≠ x.seq then tpEnd n 2 s
        else
          let data := x.data ++ d.drop (o + 1)
          match growCells x (min data.length x.total) s with
          | none => tpEnd n 10 s
          | some (x, s) =>
            let bs := byteAt x.raw 0x12
            let x : TpSession := { x with data := data, done := data.length, seq := (x.seq + 1) % 16
                                          block := x.block - 1, timer := k.stamp + tpN x.raw }
            if x.total ≤ data.length then rxDone k n x s
            else if bs ≠ 0 ∧ x.block = 0 then
              isoFc k x.raw 0 (some n) (setSession n { x with block := bs, timer := s.now + tpN x.raw } s)
            else setSession n x s
    | 3 =>
      match findSession s (fun x => tpProto x.raw == 2 && tpSend x.raw && tpGport x.raw == tpGport b &&
          tpRxId x.raw % 2 ^ 30 == word && tpOff x.raw == o && (o == 0 || tpAe x.raw == tpAe b)) with
      | some (n, x) => isoFlow k n x d o s
      | none => s
    | _ => s

/-! ### Frames, egress and timers -/

/-- A frame of KIND 4 reaches its channel (R241, R242, R296): a message record or a CAN segment. -/
def transportRx (k : Cause) (c : Nat) (b : Bytes) (f : Frame) (s : State) : State :=
  match f.bus with
  | none =>
    let n := leAt f.data 8 4
    if !tpSend b ∨ leAt f.data 0 2 ≠ c then bump (gwCtr 0x0108) s
    else if f.data.length < 12 + n then bump (gwCtr 0x01C8) s
    else
      tpQueue c b { peer := byteAt f.data 2, pgn := leAt f.data 4 4 % 2 ^ 18, data := slice f.data 12 n
                    gen := f.gen, trig := f.stamp } s
  | some m =>
    if tpProto b = 2 then isoRx k c b m s
    else
      let pf := m.id / 2 ^ 16 % 256
      let da := m.id / 2 ^ 8 % 256
      let sa := m.id % 256
      if !m.ide then s
      else if pf = 0xEC then j1939Cm k c b sa da m.data s
      else if pf = 0xEB then j1939Dt k (tpGport b) sa da m.data s
      else s

/-- A segment of a session has left its port: the windows that begin at its stamp, and the next step of an ISO
send (R298, R303). -/
def sessionSent (n : Nat) (stamp : Tick) (s : State) : State :=
  match sessionOf s n with
  | none => s
  | some x =>
    let put (y : TpSession) : State := setSession n y s
    match x.wait with
    | .release =>
      if tpProto x.raw = 0 ∧ x.seq = 1 then put { x with timer := stamp + ms (orDefault (byteAt x.raw 0x1E) 50) } else s
    | .grant => if tpProto x.raw = 1 then put { x with timer := stamp + ms 1250 } else s
    | .eom => put { x with timer := stamp + ms 1250 }
    | .afterCts => put { x with timer := stamp + ms 1250 }
    | .packet => if tpProto x.raw = 2 then put { x with timer := stamp + tpN x.raw } else s
    | .sent =>
      if x.total ≤ x.done then tpEnd n 0 s
      else if x.block = 0 then put { x with wait := .grant, timer := stamp + tpN x.raw }
      else put { x with wait := .release, timer := s.now + x.stmin }

/-- What a frame of the engine brings when its last bit has left (R275, R298, R303): `stamp` is its egress
stamp. -/
def frameLeft (f : Frame) (stamp : Tick) (s : State) : State :=
  let s := contLeft f s.now s
  match f.session with
  | some n => sessionSent n stamp s
  | none => s

/-- A transport timer expires (R299, R301, R303). -/
def tpTimer (n : Nat) (s : State) : State :=
  match sessionOf s n with
  | none => s
  | some x =>
    if x.wait = .release ∨ s.now < x.timer then s
    else tpEnd n 1 (if tpProto x.raw = 1 then sendAbort (ownCause s) x 3 s else s)

/-- A send session releases its next segment (R298, R303). -/
def tpRelease (n : Nat) (s : State) : State :=
  match sessionOf s n with
  | none => s
  | some x =>
    if x.wait ≠ .release ∨ s.now < x.timer then s
    else if tpProto x.raw = 0 then
      let last := (x.total + 6) / 7
      let y : TpSession := { x with seq := x.seq + 1, done := 7 * x.seq
                                    timer := x.timer + ms (orDefault (byteAt x.raw 0x1E) 50) }
      let s := tpEmit (ownCause s) x.raw
        (j1939Tp 0xEB 0xFF (ownAddr s (tpGport x.raw)) (dtBytes x.data x.seq)) none (setSession n y s)
      if last < y.seq then tpEnd n 0 s else s
    else isoNextCf (ownCause s) n x s

/-- The sessions of a gport that need its own address end (R291). -/
def tpAddressLost (g : Nat) (s : State) : State :=
  (s.gw.sessions.map fun e => e.1).foldl (fun s n => match sessionOf s n with
    | some x => if tpGport x.raw = g ∧ (tpProto x.raw = 1 ∨ (tpProto x.raw = 0 ∧ tpSend x.raw)) then tpEnd n 8 s else s
    | none => s) s

/-- The sessions of a changed or removed channel end at a commit (R305). -/
def tpChannelChanged (c : Nat) (s : State) : State :=
  (s.gw.sessions.map fun e => e.1).foldl (fun s n => match sessionOf s n with
    | some x =>
      if x.channel = c then tpEnd n 7 (if tpProto x.raw = 1 then sendAbort (ownCause s) x 2 s else s) else s
    | none => s) s

end Sys2Proof.Machine
end

