-- ==== Sys2Proof/Machine/EgressOps.lean ====
section
/-!
DEFINITION. Egress: the host record of bus frames (R198), what a frame becomes as it is sent (R374, R445,
R502-R505, R583), the selection of R327 for each kind of port, hand-off (R366, R372), pre-emption
(R368, R369) and the end of a transmission (R357).
-/
namespace Sys2Proof.Machine

/-! ### Records and lengths -/

/-- The host record of a CAN or LIN frame (R198). -/
def busRecord (c : CanFrame) (sofDelta : Nat) : Bytes :=
  let word := c.id % 2 ^ 29 + b2n c.ide * 2 ^ 29 + b2n c.rtr * 2 ^ 30
  let rfl := b2n c.brs + 2 * b2n c.esi + 4 * b2n c.sec + 8 * b2n c.enh + 16 * (if c.fmt ≤ 1 then c.dlc else 0)
  le 4 word ++ le 1 c.fmt ++ le 1 rfl ++ le 2 c.dlen ++ le 4 c.af ++ le 1 c.sdt ++ le 1 c.vcid ++ zeros 2 ++
    le 4 sofDelta ++ padTo (4 * ((c.dlen + 3) / 4)) (c.data.take c.dlen)

/-- A TX record has the shape of R198: its length, its zero fields and its padding. -/
def recordWf (b : Bytes) : Bool :=
  let fmt := byteAt b 4
  let n := leAt b 6 2
  !bit (leAt b 0 4) 31 && b.length == 20 + 4 * ((n + 3) / 4) && leAt b 14 6 == 0 &&
    (b.drop (20 + n)).all (fun x => x == 0) && (fmt == 2 || (leAt b 8 4 == 0 && leAt b 12 2 == 0)) &&
    (decide (fmt ≤ 1) || byteAt b 5 / 16 == 0)

/-- The DLC a TX record's frame carries: that of DLEN, or RFL[7:4] where it says the same length or the frame
is a remote frame (R198; log entry 146). -/
def recordDlc (fmt rfl dlen : Nat) (rtr : Bool) : Nat :=
  let n := rfl / 16
  if 2 ≤ fmt then 0
  else if rtr ∨ (if fmt = 0 then min n 8 else fdLengths.getD n 0) = dlen then n
  else dlcOf dlen

/-- A CAN or LIN frame read from its host TX record. A record malformed under R198 reads as a format beyond
those of any port, 256 + FMT, so that it is dropped at egress (R222). -/
def recordBus (b : Bytes) : CanFrame :=
  let w := leAt b 0 4
  let rfl := byteAt b 5
  let fmt := byteAt b 4
  { id := w % 2 ^ 29, ide := bit w 29, rtr := bit w 30, fmt := if recordWf b then fmt else 256 + fmt
    brs := bit rfl 0, esi := bit rfl 1, sec := bit rfl 2, enh := bit rfl 3
    dlc := recordDlc fmt rfl (leAt b 6 2) (bit w 30), dlen := leAt b 6 2, af := leAt b 8 4
    sdt := byteAt b 12, vcid := byteAt b 13, data := slice b 20 (leAt b 6 2) }

/-- The bytes of a frame in its stored form (R329). -/
def storedBytes (f : Frame) : Bytes := match f.bus with
  | some c => busRecord c f.sofDelta
  | none => f.data

/-- The length of a data part is one its format allows (R198). -/
def dlenOk (c : CanFrame) : Bool :=
  match c.fmt with
  | 0 => decide (c.dlen ≤ 8)
  | 1 => fdLengths.contains c.dlen
  | 2 => within c.dlen 1 2048
  | _ => decide (c.dlen ≤ 8)

/-- A record a CAN port can send: well formed, its format enabled, its identifier as wide as its format
allows (R198, R222). -/
def canSendable (p : CanPort) (c : CanFrame) : Bool :=
  decide (c.fmt ≤ 2) && decide (c.fmt ≤ p.config.toNat % 4) && dlenOk c && decide (c.dlen ≤ c.data.length) &&
    (if c.fmt = 2 then !c.ide && decide (c.id < 2 ^ 11) else decide (c.id < if c.ide then 2 ^ 29 else 2 ^ 11)) &&
    (!c.rtr || (c.fmt == 0 && c.dlen == 0))

/-- A record a LIN port can send; only a commander takes a header-only one (R198, R204). -/
def linSendable (p : LinPort) (c : CanFrame) : Bool :=
  c.fmt == 3 && decide (c.id < 64) && !c.ide && !c.rtr && decide (c.dlen ≤ 8) &&
    (decide (1 ≤ c.dlen) || p.commander)

/-! ### Ethernet frames as sent -/

/-- DEI set in the outer VLAN tag (R445). -/
def withDei (d : Bytes) : Bytes :=
  if isTpid (beAt d 12 2) then patch d 14 (be 1 (byteAt d 14 ||| 0x10)) else d

/-- An R-TAG after the last VLAN tag or the source address (R373). -/
def withRtag (d : Bytes) (n : Nat) : Bytes :=
  let o := skipTags d 8 12
  d.take o ++ be 2 0xF1C1 ++ zeros 2 ++ be 2 n ++ d.drop o

/-- The offset of a PTPv2 event message in a frame, with the IP version that carries it (R502). -/
def ptpAt (d : Bytes) : Option (Nat × Nat) :=
  let v := ethView d 1
  let o := v.off
  let here := match v.etype with
    | 0x88F7 => some (o, 0)
    | 0x0800 =>
      let ihl := byteAt d o % 16 * 4
      if byteAt d (o + 9) = 17 ∧ beAt d (o + 6) 2 % 8192 = 0 ∧ beAt d (o + ihl + 2) 2 = 319 then
        some (o + ihl + 8, 4)
      else none
    | 0x86DD => if byteAt d (o + 6) = 17 ∧ beAt d (o + 42) 2 = 319 then some (o + 48, 6) else none
    | _ => none
  here.filter fun h => decide (byteAt d h.1 % 16 ≤ 3) && byteAt d (h.1 + 1) % 16 == 2

/-- The enabled entry of `TIME_RTC_SET` for a domain number: its TRACK (R502, R529). -/
def rtcTrack (s : State) (dom : Nat) : Option Nat :=
  ((List.range 4).find? fun i => byteAt s.time.rtc (4 * i) == dom && byteAt s.time.rtc (4 * i + 2) == 1).map
    fun i => byteAt s.time.rtc (4 * i + 1)

/-- A PTP event message of an enabled domain: its offset, IP version and TRACK (R502). -/
def rtcMessage (s : State) (d : Bytes) : Option (Nat × Nat × Nat) :=
  match ptpAt d with
  | none => none
  | some (o, v) => (rtcTrack s (byteAt d (o + 4))).map fun k => (o, v, k)

/-- The ingress stamp of a frame for R503, where it has one (R502, R704). -/
def rtcIngress (f : Frame) : Option Tick :=
  if isEth f.ingress then some f.stamp else if isLnk f.ingress then f.resStamp else none

/-- A one's complement sum folded to 16 bits. -/
def fold16 (n : Nat) : Nat :=
  let a := n % 65536 + n / 65536
  let b := a % 65536 + a / 65536
  b % 65536 + b / 65536

/-- A checksum after the change of 8 bytes from `old` to `new`. -/
def checksumChange (c : Nat) (old new : Bytes) : Nat :=
  let w (b : Bytes) (i : Nat) : Nat := beAt b (2 * i) 2
  let sum := (List.range 4).foldl (fun n i => n + (65535 - w old i) + w new i) (65535 - c)
  65535 - fold16 sum

/-- The residence-time correction of a frame (R502-R504): its bytes, and whether it overflowed; none where
the frame is not corrected. -/
def rtcCorrect (f : Frame) (g : Nat) (e : Tick) (d : Bytes) (s : State) : Option (Bytes × Bool) :=
  match isEth g, rtcIngress f, rtcMessage s d with
  | true, some i, some (o, v, track) =>
    let rr : Int := if track = 0 then 0 else (domain s (track - 1)).rr
    let add : Int := ((Int.ofNat e - Int.ofNat i) * 2 * 65536 * (2 ^ 40 + rr) + 2 ^ 39) / 2 ^ 40
    let old := slice d (o + 8) 8
    let raw : Int := Int.ofNat (beAt old 0 8)
    let cur : Int := if raw < 2 ^ 63 then raw else raw - 2 ^ 64
    let ovf := decide (2 ^ 63 ≤ cur + add)
    let sum : Int := if ovf then 2 ^ 63 - 1 else cur + add
    let new := be 8 (sum % 2 ^ 64).toNat
    let d := patch d (o + 8) new
    let d := if v = 4 then patch d (o - 2) (zeros 2)
      else if v = 6 then patch d (o - 2) (be 2 (checksumChange (beAt d (o - 2) 2) old new)) else d
    some (d, ovf)
  | _, _, _ => none

/-- The bytes of a frame before MACsec at a gport: DEI, R-TAG, and filling to the least length of
IEEE 802.3 (PRESUMED, log entry 29). -/
def ethBody (f : Frame) (g : Nat) : Bytes :=
  let d := storedBytes f
  let d := if f.dei && f.bus.isNone then withDei d else d
  let d := match f.rtag with
    | some n => if within g 32 51 then withRtag d n else d
    | none => d
  if isEth g ∧ d.length < 60 then padTo 60 d else d

/-- The length of a frame as sent at an Ethernet port, FCS included (R364). -/
def sentLen (s : State) (f : Frame) (g protOut : Nat) : Nat :=
  (ethBody f g).length + (if macsecApplies s g f.gen protOut then 32 else 0) + 4

/-! ### Selection (R327) -/

/-- A class is pre-emptable at a port and pre-emption is active (R369). -/
def preemptable (s : State) (g tc : Nat) : Bool :=
  (ethOf s g).preemptSt == 2 && (tget s.switch.preemptMask 0 g).testBit tc

/-- The gate of a class lets a frame of this length start now at an Ethernet port (R364). -/
def ethGateFits (s : State) (g tc len : Nat) : Bool :=
  let n := if preemptable s g tc then 84 else len + 20
  gateFits s g tc s.now (bitTicks (8 * n) (speedRate (ethOf s g).speed))

/-- Drop what has expired in a gport's queues (R351). -/
def sweepPort (g : Nat) (s : State) : State := (List.range 8).foldl (fun s c => sweepQueue g c s) s

/-- The classes, highest first. -/
def classesDown : List Nat := [7, 6, 5, 4, 3, 2, 1, 0]

/-- The head of a queue, where it is wholly on chip (R327). -/
def headOnChip (s : State) (g c : Nat) : Option (Replica × HeldFrame) :=
  match queueOf s g c with
  | [] => none
  | r :: _ => if r.spilled then none else (heldOf s r.fid).map fun h => (r, h)

/-- The highest class whose head meets `ok` (R327). -/
def pick (s : State) (g : Nat) (ok : Nat → HeldFrame → Bool) : Option (Nat × Replica × HeldFrame) :=
  classesDown.findSome? fun c => match headOnChip s g c with
    | some (r, h) => if ok c h then some (c, r, h) else none
    | none => none

/-- Take a replica out of its queue. -/
def dequeue (g c fid : Nat) (s : State) : State :=
  setQueue g c ((queueOf s g c).filter fun x => x.fid != fid) s

/-- Put a replica back at the head of its queue (R191, R366). -/
def requeue (g c fid : Nat) (s : State) : State :=
  if (heldOf s fid).isSome then setQueue g c ({ fid := fid, mark := false, spilled := false } :: queueOf s g c) s
  else s

/-- A selected frame is dropped at egress for a fault (R371, R372). -/
def dropFault (g c cause : Nat) (fid flow : Nat) (s : State) : State :=
  releaseRef fid (egressFault g cause flow (dequeue g c fid s))

/-! ### CAN and LIN -/

/-- The frame as protected for a bus port, its trailer computed once (R591); none where the slot
refuses. -/
def busProtected (fid : Nat) (h : HeldFrame) (g : Nat) (c : CanFrame) (s : State) :
    Option CanFrame × State :=
  match h.secured with
  | some x => (some x, s)
  | none =>
    match securedProfile s h.frame.gen (frameFlow s h.frame).protOut g with
    | none => (some c, s)
    | some b =>
      match securedTx b g h.frame.flow c s with
      | (none, s) => (none, s)
      | (some x, s) =>
        (some x, { s with switch.held := tset s.switch.held fid { h with secured := some x } })

/-- A CAN port's egress queue is served (R192, R230, R724). -/
def canServes (s : State) (g : Nat) : Bool :=
  let x := canOf s g
  (common s g).admin && x.integrated && !x.busOff && x.opmode == 0 && x.trxMode == 0 && !standbyPort s g

/-- An expired frame held by a CAN controller is withdrawn before its next attempt (R351). -/
def canExpire (g : Nat) (s : State) : State := match (canOf s g).held with
  | some h => match heldOf s h.fid with
    | some x =>
      if h.sof.isNone && expired s g h.tc x then
        releaseRef h.fid (bump (swCtr g 0x50) (setCan g { canOf s g with held := none } s))
      else s
    | none => s
  | none => s

/-- The controller drives SOF of its held frame where the bus is idle and its gate still fits, unless the frame
has expired (R351, R366). -/
def canDriveSof (g : Nat) (s : State) : State :=
  let s := canExpire g s
  let x := canOf s g
  match x.held with
  | some h =>
    if !canServes s g ∨ x.busy ∨ h.sof.isSome ∨ !gateFits s g h.tc s.now (canTmax x h.frame) then s
    else setCan g { x with busy := true, held := some { h with sof := some s.clk } } s
  | none => s

/-- A CAN port hands a frame to its controller, or its held frame's SOF is driven (R191, R192, R230, R366,
R372; log entry 148). -/
def canSelect (g : Nat) (s : State) : State :=
  let s := canExpire g (sweepPort g s)
  let x := canOf s g
  let serves := canServes s g
  let floor := match x.held with
    | none => some 0
    | some h => if h.sof.isSome then none else some (h.tc + 1)
  match serves, floor with
  | true, some lo =>
    match pick s g (fun c h => decide (lo ≤ c) && (match h.frame.bus with
      | some k => gateFits s g c s.now (canTmax x k)
      | none => gateOpen s g c s.now)) with
    | none => canDriveSof g s
    | some (c, r, h) =>
      if h.faulted then dropFault g c 1 r.fid h.frame.flow s
      else
        match h.frame.bus with
        | none => releaseRef r.fid (bump (portCtr g 0x0160) (dequeue g c r.fid s))
        | some k =>
          match busProtected r.fid h g k s with
          | (none, s) => dropFault g c 2 r.fid h.frame.flow s
          | (some k, s) =>
            if canSendable x k then
              let s := match x.held with
                | some o => requeue g o.tc o.fid s
                | none => s
              let y : CanHeld := { fid := r.fid, tc := c, frame := k, sof := none }
              let s := bump (swCtr g 0x40) (dequeue g c r.fid s)
              canDriveSof g (setCan g { canOf s g with held := some y } s)
            else releaseRef r.fid (bump (portCtr g 0x0160) (dequeue g c r.fid s))
  | _, _ => s

/-- The active schedule table of a LIN commander has an entry for an identifier (R222). -/
def inActiveTable (p : LinPort) (id : Nat) : Bool := match p.active with
  | some t => (tget p.tables [] t).any fun e => e.fid == id
  | none => false

/-- The TS_REQ frame a response buffer holds is sent at a stamp, or replaced unsent (R130, R223). -/
def linStampDone (b : Option LinBuffer) (stamp : Option Tick) (s : State) : State := match b with
  | some x => match x.ts with
    | some (fid, ring) => txStampDone fid (some ring) stamp s
    | none => s
  | none => s

/-- A frame for a LIN port updates the response buffer of its identifier (R204, R222). -/
def linSelect (g : Nat) (s : State) : State :=
  let s := sweepPort g s
  match downForEgress s g, pick s g (fun _ _ => true) with
  | false, some (c, r, h) =>
    let gone (ctr : Nat) (s : State) : State := releaseRef r.fid (bump (portCtr g ctr) (dequeue g c r.fid s))
    if h.faulted then dropFault g c 1 r.fid h.frame.flow s
    else
      match h.frame.bus with
      | none => gone 0x0158 s
      | some k =>
        match busProtected r.fid h g k s with
        | (none, s) => dropFault g c 2 r.fid h.frame.flow s
        | (some k, s) =>
          let p := linOf s g
          if !linSendable p k then gone 0x0158 s
          else if p.commander && !inActiveTable p k.id then gone 0x0150 s
          else
            let ts := match h.frame.txRing with
              | some (n, d) => if k.dlen = 0 then none else some (r.fid, n, d)
              | none => none
            let b : LinBuffer := { frame := k, tc := c, updated := k.dlen != 0, subscribed := k.dlen == 0, ts := ts }
            let s := linStampDone (tget? p.buffers k.id) none s
            let s := setLin g { p with buffers := tset p.buffers k.id b } s
            let s := if ts.isSome then
                { s with switch.held := tset s.switch.held r.fid { h with frame := { h.frame with txRing := none } } }
              else s
            releaseRef r.fid (bump (swCtr g 0x40) (dequeue g c r.fid s))
  | _, _ => s

/-! ### Ethernet -/

/-- TX_HELD_TICKS up to now, and whether a frame is held on (R212). -/
def heldTicks (g : Nat) (still : Bool) (s : State) : State :=
  let x := ethOf s g
  let s := match x.heldSince with
    | some t => bumpBy (portCtr g 0x0180) (s.now - t) s
    | none => s
  setEth g { x with heldSince := if still then some s.now else none } s

/-- The port sends the MAC control frame it is ordered to send next (R220, R342, R344). -/
def sendControl (g : Nat) (o : CtlOrder) (stamp : Tick) (s : State) : State :=
  let x := ethOf s g
  let classes := if o.pfc then o.times.foldl (fun v e => if e.2 = 0 then v else v + 2 ^ e.1) 0 else 0xFF
  let s := setEth g { x with orders := x.orders.drop 1 } s
  let s := bump (portCtr g (if o.pfc then 0x0168 else 0x0160)) s
  let s := bumpBy (portCtr g 0x0158) 64 (bump (portCtr g 0x0150) s)
  if o.opens then
    let y : FlowControl := { fcOf s g with probe := some (stamp, classes, none, false) }
    { s with switch.fc := tset s.switch.fc g y }
  else s

/-- The settings that wait for a frame boundary take effect (R381). -/
def frameBoundary (g : Nat) (s : State) : State :=
  let s := match tget? s.switch.preemptNext g with
    | some m => { s with switch.preemptMask := tset s.switch.preemptMask g m
                         switch.preemptNext := tdel s.switch.preemptNext g }
    | none => s
  match tget? s.switch.cutNext g with
  | some b => { s with switch.cutThrough := tset s.switch.cutThrough g b, switch.cutNext := tdel s.switch.cutNext g }
  | none => s

/-- A frame of a class may start at an Ethernet port, pauses apart: its gate fits, and no other
pre-emptable frame is open (R327, R364, R369). -/
def ethReady (s : State) (g c : Nat) (h : HeldFrame) : Bool :=
  let open_ := match tget? s.switch.suspended g with
    | some _ => preemptable s g c
    | none => false
  !open_ && (!standbyPort s g || (!isT1s g && (rtagAt h.frame.data).isSome)) && ethGateFits s g c (sentLen s h.frame g (frameFlow s h.frame).protOut) &&
    (!h.receiving || tget s.switch.cutThrough false g)

/-- The urgency of a frame's message (R575). -/
def urgencyOf (fl : FlowEntry) : Nat := if fl.safety then 8 else fl.tc

/-- Start a frame at an Ethernet port (R357, R371, R503-R505, R583, R585). -/
def ethStart (g c : Nat) (r : Replica) (h : HeldFrame) (stamp : Tick) (s : State) : State :=
  let f := h.frame
  let fl := frameFlow s f
  if h.faulted then dropFault g c 1 r.fid f.flow s
  else if (ethOf s g).maxFrame < sentLen s f g fl.protOut then
    releaseRef r.fid (bump (portCtr g 0x0178) (dequeue g c r.fid s))
  else
    let secured := macsecApplies s g f.gen fl.protOut
    let body := ethBody f g
    let fix := rtcCorrect f g stamp body s
    match secured, laneChoice s (urgencyOf fl) with
    | true, none => s
    | _, lane =>
      match protectEth g f.gen f.flow fl.protOut (match fix with
        | some (d, _) => if secured then body else d
        | none => body) s with
      | (none, s) => dropFault g c 2 r.fid f.flow s
      | (some (d, slot), s) =>
        let s := match fix with
          | some (_, ovf) =>
            if secured then bump (timeCtr 0x0128) s
            else bump (timeCtr 0x0120) (if ovf then setW1c 0x0500 0 14 g (bump (timeCtr 0x0130) s) else s)
          | none => s
        let s := match slot, lane with
          | some k, some n =>
            let m : LaneMsg := { job := none, gport := g, flow := f.flow, slot := k, urgency := urgencyOf fl
                                 hardened := false, begun := true }
            laneStart n m s
          | _, _ => s
        let x : Sending := { fid := r.fid, tc := c, bytes := d, start := s.now, begun := true, fragments := 0
                             sent := 0, slot := slot }
        let s := bump (swCtr g 0x40) (dequeue g c r.fid s)
        let s := { s with switch.sending := tset s.switch.sending g x }
        txStampDone r.fid f.txRing (some stamp) s

/-- An Ethernet port selects what to send next (R216, R220, R327, R369). -/
def ethSelect (g : Nat) (stamp : Tick) (s : State) : State :=
  let s := sweepPort g s
  if downForEgress s g ∨ (tget? s.switch.sending g).isSome then s
  else
    let s := frameBoundary g s
    match (ethOf s g).orders with
    | o :: _ => sendControl g o stamp s
    | [] =>
      let cand := pick s g fun c h => ethReady s g c h && !paused s g c s.now
      let held := pick s g fun c h => ethReady s g c h && paused s g c s.now
      let resume := (tget? s.switch.suspended g).filter fun x =>
        ethGateFits s g x.tc 64 && (match cand with
          | some (c, _, _) => decide (c ≤ x.tc)
          | none => true)
      match resume, cand with
      | some x, _ =>
        let s := heldTicks g false s
        { s with switch.suspended := tdel s.switch.suspended g
                 switch.sending := tset s.switch.sending g { x with start := s.now } }
      | none, some (c, r, h) => ethStart g c r h stamp (heldTicks g false s)
      | none, none => heldTicks g held.isSome s

/-- To stomp the frame a port is sending (R370, R371), with EGRESS_FAULT for a cause other than R360. -/
def stomp (g : Nat) (cause : Option Nat) (s : State) : State :=
  let go (x : Sending) (s : State) : State :=
    let flow := match heldOf s x.fid with
      | some h => h.frame.flow
      | none => 0
    let s := bump (portCtr g 0x0170) s
    let s := match cause with
      | some k => egressFault g k flow s
      | none => s
    releaseRef x.fid (egressLaneEnd g s)
  match tget? s.switch.sending g with
  | some x => go x { s with switch.sending := tdel s.switch.sending g }
  | none => match tget? s.switch.suspended g with
    | some x => go x { s with switch.suspended := tdel s.switch.suspended g }
    | none => s

/-- A transmission ends with a good FCS (R212, R357). A cut-through frame ends only with its reception. -/
def txComplete (g : Nat) (s : State) : State :=
  match tget? s.switch.sending g with
  | none => s
  | some x =>
    let still := match heldOf s x.fid with
      | some h => h.receiving
      | none => false
    if still then s
    else
      let s := { s with switch.sending := tdel s.switch.sending g }
      let s := bumpBy (portCtr g 0x0158) (x.bytes.length + 4) (bump (portCtr g 0x0150) s)
      let s := if x.fragments = 0 then s else bump (portCtr g 0x0188) s
      let s := if x.slot.isSome then messageDone s else s
      let s := match heldOf s x.fid with
        | some h => frameLeft h.frame s.now s
        | none => s
      releaseRef x.fid (egressLaneEnd g s)

/-- The pre-emptable frame a port sends is pre-empted after `n` bytes of its current fragment, at a point
IEEE 802.3br allows: for an express frame or control frame that waits, or at its window's end (R220,
R368, R369). -/
def preemptFragment (g n : Nat) (s : State) : State :=
  match tget? s.switch.sending g with
  | none => s
  | some x =>
    let total := x.bytes.length + 4
    let express := (pick s g fun c h => !preemptable s g c && ethReady s g c h && !paused s g c s.now).isSome
    let closing := !ethGateFits s g x.tc 64
    if preemptable s g x.tc ∧ 60 ≤ n ∧ x.sent + n + 64 ≤ total ∧
        (express ∨ closing ∨ !(ethOf s g).orders.isEmpty) ∧ (tget? s.switch.suspended g).isNone then
      let y : Sending := { x with fragments := x.fragments + 1, sent := x.sent + n }
      { s with switch.sending := tdel s.switch.sending g, switch.suspended := tset s.switch.suspended g y }
    else s

/-! ### CAN withdrawal (R366) -/

/-- A held CAN frame whose SOF is not driven returns to the head of its queue. -/
def canReturn (g : Nat) (s : State) : State :=
  let x := canOf s g
  match x.held with
  | some h => if h.sof.isSome then s else requeue g h.tc h.fid (setCan g { x with held := none } s)
  | none => s

/-- The fit test of a handed-over frame fails before its SOF (R366). -/
def gateWithdraw (g : Nat) (s : State) : State :=
  let x := canOf s g
  match x.held with
  | some h =>
    if h.sof.isNone ∧ !gateFits s g h.tc s.now (canTmax x h.frame) then
      canReturn g (bump (swCtr g 0x70) s)
    else s
  | none => s

/-! ### Host, CPU and RECIRC ports -/

/-- HOSTP or HOSTS hands its next frame to the ring its flow names (R133, R354). -/
def hostSelect (g : Nat) (s : State) : State :=
  let s := sweepPort g s
  match pick s g (fun _ _ => true) with
  | none => s
  | some (c, r, h) =>
    let n := h.frame.ring.getD (frameFlow s h.frame).ring
    let live := match ringOf s n with
      | some x => x.rx && x.st != 0
      | none => false
    if h.faulted then dropFault g c 1 r.fid h.frame.flow s
    else if live then
      let s := bump (swCtr g 0x40) (dequeue g c r.fid s)
      { s with switch.ringIn := tset s.switch.ringIn n (tget s.switch.ringIn [] n ++ [r.fid]) }
    else dropQueued g c r 0x98 s

/-- The control firmware takes the next frame of CPUP. -/
def cpuSelect (s : State) : State :=
  let s := sweepPort gCpup s
  match pick s gCpup (fun _ _ => true) with
  | none => s
  | some (c, r, h) =>
    if h.faulted then dropFault gCpup c 1 r.fid h.frame.flow s
    else
      let s := bump (swCtr gCpup 0x40) (dequeue gCpup c r.fid s)
      releaseRef r.fid { s with switch.cpuIn := s.switch.cpuIn ++ [h.frame] }

/-- The background sweep of a gport: its queues, its held CAN frame and frames that wait for a ring
(R133, R351). -/
def residenceSweep (g : Nat) (s : State) : State :=
  let s := sweepPort g s
  let s := if isCan g then canExpire g s else s
  if g = gHostp ∨ g = gHosts then
    s.switch.ringIn.foldl (fun s e => e.2.foldl (fun s i => match heldOf s i with
      | some h =>
        let mine := match ringOf s e.1 with
          | some r => if g = gHostp then (partner s r.owner).transport == 1 else (partner s r.owner).transport == 2
          | none => false
        let busy := match ringOf s e.1 with
          | some r => (match r.writing with
            | some (j, _, _) => j == i
            | none => false)
          | none => false
        if mine && !busy && expired s g h.cls h then
          let s := { s with switch.ringIn := tset s.switch.ringIn e.1 ((tget s.switch.ringIn [] e.1).filter fun j => j != i) }
          releaseRef i (bump (swCtr g 0x50) s)
        else s
      | none => s) s) s
  else s

end Sys2Proof.Machine
end

