-- ==== Sys2Proof/Machine/TablesCmds.lean ====
section
/-!
DEFINITION. The opcodes of the tables unit (R436) but `TABLE_COMMIT` and `MAQUETTE_SET`, and its
events of learning, aging, flushing and rehashing.
-/
namespace Sys2Proof.Machine

/-- The reply field of an instant: nanoseconds and 48-bit seconds. -/
def nsSec (t : Tick) : Bytes := le 4 (nsOf t) ++ le 6 (secOf t)

/-- A staging command's effect: the issuer's staging holds the parameters as the object (R385). -/
def stageParams (k : Kind) (o n : Nat) : Ctx → State → State × Bytes :=
  quiet fun c s => stage c.p k (c.num o n) (some c.ps) s

/-- The step 10 checks of a staging command of an indexed table. -/
def stageConds (k : Kind) (o n : Nat) : Ctx → State → Check :=
  fun c s => stageCheck c.p k (c.num o n) s

/-- `WHICH`: 0 the current generation, 1 the issuer's staging over it. -/
def whichObj (s : State) (c : Ctx) (k : Kind) (i which : Nat) : Option Bytes :=
  if which = 0 then curObj s k i else stagedObj s c.p k i

/-! ### Generations -/

/-- `TABLE_DISCARD` (R394). -/
def tableDiscardSpec : CmdSpec :=
  { opcode := 0x0202, change := true, len := lenIs 4
    values := fun c _ => c.zero 0 4
    apply := quiet fun c s => dropStaging c.p s }

/-- STAGING: bit o for an owner with a non-empty staging (R434). -/
def stagingOwners (s : State) : Nat :=
  (List.range 9).foldl (fun v o => v + if (stagingOf s o).isEmpty then 0 else 2 ^ o) 0

/-- `TABLE_GEN_QUERY`. -/
def tableGenQuerySpec : CmdSpec :=
  { opcode := 0x0203, change := false, len := lenIs 0
    apply := answer fun c s =>
      le 4 (currentNum s) ++ le 4 ((s.tables.gens.head?.map fun g => g.num).getD 0) ++
        le 1 s.tables.gens.length ++ zeros 1 ++ le 2 (stagingOwners s) ++
        le 4 (stagingOf s c.p).length }

/-- `TABLE_REHASH` (R421): one migration at a time (DESIGN CHOICE, log entry 18). -/
def tableRehashSpec : CmdSpec :=
  { opcode := 0x0204, change := true, async := true, len := lenIs 8
    values := fun c _ => firstOf [c.upto 0 1 1, c.zero 1 3]
    conds := fun _ s => need s.tables.rehash.isNone stBusy
    apply := quiet fun c s =>
      { s with tables.rehash := some { table := c.u8 0, seed := c.u32 4, placed := [] } } }

/-! ### Sieve and flows -/

/-- `SIEVE_RULE_SET`. -/
def sieveRuleSetSpec : CmdSpec :=
  { opcode := 0x0211, change := true, len := lenIs 88
    values := fun c _ => firstOf
      [c.upto 0 2 8191, c.upto 2 1 1, c.zero 3 1, c.upto 84 2 16383, c.zero 86 2]
    conds := stageConds .sieve 0 2
    apply := stageParams .sieve 0 2 }

/-- `SIEVE_RULE_QUERY`. -/
def sieveRuleQuerySpec : CmdSpec :=
  { opcode := 0x0212, change := false, len := lenIs 4
    values := fun c _ => firstOf [c.upto 0 2 8191, c.upto 2 1 1, c.zero 3 1]
    apply := answer fun c s =>
      (whichObj s c .sieve (c.u16 0) (c.u8 2)).getD (le 2 (c.u16 0) ++ zeros 86) }

/-- `SIEVE_PORT_SET`. -/
def sievePortSetSpec : CmdSpec :=
  { opcode := 0x0213, change := true, len := lenIs 8
    values := fun c _ => firstOf
      [c.gport 0 0 55, c.upto 1 1 1, c.upto 2 2 16383, c.btw 4 2 1 4094, c.zero 6 2]
    conds := stageConds .portSet 0 1
    apply := stageParams .portSet 0 1 }

/-- An index field names a defined object or is 0xFFFF (R400, R402). -/
def noneOr (i : Nat) (ok : Bool) (off : Nat) : Check := range (i == 0xFFFF || ok) off

/-- A FRER field: the function that [9:0] name is defined where [15] enables it (R402). -/
def frerField (s : State) (c : Ctx) (k : Kind) (off : Nat) : Check :=
  let v := c.u16 off
  range (!bit v 15 || (stagedObj s c.p k (v % 1024)).isSome) off

/-- `FLOW_SET` (R400, R402). -/
def flowSetSpec : CmdSpec :=
  { opcode := 0x0221, change := true, len := lenIs 32
    values := fun c _ => firstOf
      [ c.upto 0 2 16383, c.upto 2 1 7, c.upto 3 1 7, c.upto 4 1 3, c.dest 5 6 2, c.gwRef 8, c.upto 0x0C 2 4095,
        c.upto 0x0E 1 127, c.zero 0x0F 1, range (bits (c.u16 0x18) 14 10 == 0) 0x18,
        range (bits (c.u16 0x1A) 14 10 == 0) 0x1A, c.zero 0x1C 4 ]
    conds := fun c s => firstOf
      [ noneOr (c.u16 0x10) (thas s.policing.meters (c.u16 0x10)) 0x10,
        noneOr (c.u16 0x12) (thas s.policing.filters (c.u16 0x12)) 0x12,
        noneOr (c.u16 0x14) (stagedObj s c.p .prot (c.u16 0x14)).isSome 0x14,
        noneOr (c.u16 0x16) (stagedObj s c.p .prot (c.u16 0x16)).isSome 0x16,
        frerField s c .seqGen 0x18, frerField s c .recovery 0x1A, stageConds .flow 0 2 c s ]
    apply := stageParams .flow 0 2 }

/-- `FLOW_QUERY` (R403). -/
def flowQuerySpec : CmdSpec :=
  { opcode := 0x0222, change := false, len := lenIs 4
    values := fun c _ => firstOf [c.upto 0 2 16383, c.upto 2 1 1, c.zero 3 1]
    apply := answer fun c s =>
      (whichObj s c .flow (c.u16 0) (c.u8 2)).getD undefinedFlow }

/-! ### The FDB -/

/-- The key of MAC (wire order) and FID at the start of the parameters. -/
def Ctx.fdbKey (c : Ctx) : Nat := Machine.fdbKey (beAt c.ps 0 6) (c.u16 6)

/-- A rejected static insertion sets its REHASH bit in TBL_STATUS (R408). -/
def rehashBit (b : Nat) : Ctx → Reject → State → State :=
  fun _ r s => if r.status = stRehashNeeded then setW1c 0x0200 0x0008 b 0 s else s

/-- `FDB_ADD`. -/
def fdbAddSpec : CmdSpec :=
  { opcode := 0x0231, change := true, len := lenIs 12
    values := fun c _ => firstOf [c.btw 6 2 1 4095, c.upto 8 1 1, c.zero 9 1, c.dest 8 10 1]
    conds := fun c s => firstOf
      [ need (!rehashing s .fdb && !heldByOther s c.p .fdb c.fdbKey) stBusy,
        need (staticInsert s c.p .fdb c.fdbKey).isSome stRehashNeeded ]
    apply := quiet fun c s => stageHashed c.p .fdb c.fdbKey c.ps s
    onReject := rehashBit 4 }

/-- `FDB_DELETE`. -/
def fdbDeleteSpec : CmdSpec :=
  { opcode := 0x0232, change := true, len := lenIs 8
    values := fun c _ => c.btw 6 2 1 4095
    conds := fun c s => firstOf
      [ need (!rehashing s .fdb && !heldByOther s c.p .fdb c.fdbKey) stBusy,
        range (stagedObj s c.p .fdb c.fdbKey).isSome 0 ]
    apply := quiet fun c s => stageHashedDelete c.p .fdb c.fdbKey s }

/-- An FDB record of a static entry (R437). -/
def fdbStaticRecord (key : Nat) (b : Bytes) : Bytes :=
  fdbKeyBytes key ++ slice b 8 1 ++ [1] ++ slice b 10 2 ++ zeros 4

/-- The moves counted in the current flap window at an instant (R437). -/
def Learned.moves (e : Learned) (now win : Tick) : Nat := match e.flap with
  | some (t, n) => if inWindow now t win then n else 0
  | none => 0

/-- An FDB record of a learned entry (R437). -/
def fdbLearnedRecord (s : State) (key : Nat) (e : Learned) : Bytes :=
  fdbKeyBytes key ++ [0] ++ le 1 (2 * b2n e.locked) ++ le 2 e.gport ++ le 1 e.stamp ++
    le 1 (e.moves s.now (s.tables.flapWindowS * ticksPerSec)) ++ zeros 2

/-- The FDB record of a key in the current generation or the learned entries. -/
def fdbRecord (s : State) (key : Nat) : Option Bytes :=
  match curObj s .fdb key with
  | some b => some (fdbStaticRecord key b)
  | none => (tget? s.tables.learned key).map (fdbLearnedRecord s key)

/-- `FDB_SEARCH`. -/
def fdbSearchSpec : CmdSpec :=
  { opcode := 0x0233, change := false, len := lenIs 8
    values := fun c _ => c.btw 6 2 1 4095
    conds := fun c s => range (fdbRecord s c.fdbKey).isSome 0
    apply := answer fun c s => (fdbRecord s c.fdbKey).getD [] }

/-- A walk's reply: at most 32 records of a list by position, NEXT 0xFFFF_FFFF at the end (R437). -/
def walkReply (l : List (Nat × Bytes)) : Bytes :=
  let now := l.take 32
  let next := match l.drop 32 with
    | [] => 0xFFFFFFFF
    | e :: _ => e.1
  le 4 next ++ le 4 now.length ++ now.flatMap fun e => e.2

/-- The record of an FDB way for a walk. -/
def fdbWalkRecord (s : State) (sel : Nat) (x : Slot) : Option Bytes :=
  match x.use with
  | .learned =>
    if bit sel 1 then (tget? s.tables.learned x.key).map (fdbLearnedRecord s x.key) else none
  | .live none => if bit sel 0 then (curObj s .fdb x.key).map (fdbStaticRecord x.key) else none
  | _ => none

/-- `FDB_NEXT`. -/
def fdbNextSpec : CmdSpec :=
  { opcode := 0x0234, change := false, len := lenIs 8
    values := fun c _ => firstOf [c.upto 0 4 65535, c.upto 4 1 3, c.zero 5 3]
    conds := fun _ s => need (!rehashing s .fdb) stBusy
    apply := answer fun c s => walkReply (s.tables.fdbSlots.filterMap fun e =>
      if c.u32 0 ≤ e.1 then (fdbWalkRecord s (c.u8 4) e.2).map fun b => (e.1, b) else none) }

/-- `FDB_FLUSH` (R420); flushes overlap each other and a migration within R73 (DEDUCED, log entry 18). -/
def fdbFlushSpec : CmdSpec :=
  { opcode := 0x0235, change := true, async := true, len := lenIs 8
    values := fun c _ => firstOf
      [ if c.u8 0 = 0xFF then none else c.gport 0 0 55, c.upto 1 1 1, c.upto 2 2 4095, c.zero 4 4 ]
    apply := quiet fun _ s => s }

/-- `FDB_AGE_SET` (R416, R413). -/
def fdbAgeSetSpec : CmdSpec :=
  { opcode := 0x0236, change := true, len := lenIs 12
    values := fun c _ => firstOf
      [ c.btw 0 2 1 3600, c.btw 2 1 2 255, c.btw 3 1 1 255, c.upto 4 2 60000, c.btw 6 2 1 3600,
        c.zero 8 4 ]
    apply := quiet fun c s =>
      { s with tables.tickS := c.u16 0, tables.epochs := c.u8 2, tables.flapMoves := c.u8 3
               tables.holdMs := c.u16 4, tables.flapWindowS := c.u16 6 } }

/-- `FDB_UNLOCK` (R415). -/
def fdbUnlockSpec : CmdSpec :=
  { opcode := 0x0237, change := true, len := lenIs 8
    values := fun c _ => c.btw 6 2 1 4095
    conds := fun c s => range (thas s.tables.learned c.fdbKey) 0
    apply := quiet fun c s => match tget? s.tables.learned c.fdbKey with
      | some e =>
        if e.locked then
          mirror (.learned c.fdbKey e.gport false)
            { s with tables.learned := tset s.tables.learned c.fdbKey { e with locked := false, flap := none } }
        else s
      | none => s }

/-! ### CAN routes -/

/-- The entry with the addresses its bindings hold in ID (R424; DEDUCED, log entry 19). -/
def canResolve (s : State) (o : Nat) (b : Bytes) : Bytes :=
  let put (b : Bytes) (on : Bool) (bind off : Nat) : Bytes :=
    let a := bindAddr (stagedObj s o .bind bind)
    if on && a != 0xFE then patch b off (le 1 a) else b
  put (put b (bit (byteAt b 1) 1) (leAt b 2 2) 4) (bit (byteAt b 1) 2) (leAt b 0x10 2) 5

/-- The key of a CAN exact entry. -/
def canEntryKey (b : Bytes) : Nat :=
  canKey (byteAt b 0) (leAt b 4 4 % 2 ^ 29 + b2n (bit (byteAt b 1) 0) * 2 ^ 29)

/-- The key `CAN_ROUTE_ADD` touches. -/
def Ctx.canAddKey (c : Ctx) (s : State) : Nat := canEntryKey (canResolve s c.p c.ps)

/-- `CAN_ROUTE_ADD` (R423, R424). -/
def canRouteAddSpec : CmdSpec :=
  { opcode := 0x0241, change := true, len := lenIs 20
    values := fun c _ =>
      firstOf
        [ c.gport 0 0 31, c.upto 1 1 7, c.upto 2 2 1023,
          range (bits (c.u32 4) 31 29 == 0) 4, c.upto 8 1 1, c.zero 9 1, c.dest 8 10 1, c.gwRef 12,
          c.upto 0x10 2 1023, c.zero 0x12 2 ]
    conds := fun c s => firstOf
      [ range (!(bit (c.u8 1) 2 && decide (240 ≤ c.u8 6))) 1,
        need (!rehashing s .canExact && !heldByOther s c.p .canExact (c.canAddKey s)) stBusy,
        need (staticInsert s c.p .canExact (c.canAddKey s)).isSome stRehashNeeded ]
    apply := quiet fun c s => stageHashed c.p .canExact (c.canAddKey s) (canResolve s c.p c.ps) s
    onReject := rehashBit 5 }

/-- The key of GPORT and ID word at the start of the parameters (R407). -/
def Ctx.canKey (c : Ctx) : Nat := Machine.canKey (c.u8 0) (c.u32 4 % 2 ^ 30)

/-- The checks of GPORT, zero and ID word. -/
def Ctx.canKeyOk (c : Ctx) : Check :=
  firstOf [c.gport 0 0 31, c.zero 1 3, range (decide (c.u32 4 < 2 ^ 30)) 4]

/-- `CAN_ROUTE_DELETE`. -/
def canRouteDeleteSpec : CmdSpec :=
  { opcode := 0x0242, change := true, len := lenIs 8
    values := fun c _ => c.canKeyOk
    conds := fun c s => firstOf
      [ need (!rehashing s .canExact && !heldByOther s c.p .canExact c.canKey) stBusy,
        range (stagedObj s c.p .canExact c.canKey).isSome 0 ]
    apply := quiet fun c s => stageHashedDelete c.p .canExact c.canKey s }

/-- `CAN_ROUTE_SEARCH`. -/
def canRouteSearchSpec : CmdSpec :=
  { opcode := 0x0243, change := false, len := lenIs 8
    values := fun c _ => c.canKeyOk
    conds := fun c s => range (curObj s .canExact c.canKey).isSome 0
    apply := answer fun c s => (curObj s .canExact c.canKey).getD [] }

/-- `CAN_ROUTE_NEXT`. -/
def canRouteNextSpec : CmdSpec :=
  { opcode := 0x0244, change := false, len := lenIs 4
    values := fun c _ => c.upto 0 4 32767
    conds := fun _ s => need (!rehashing s .canExact) stBusy
    apply := answer fun c s => walkReply (s.tables.canSlots.filterMap fun e =>
      if c.u32 0 ≤ e.1 ∧ e.2.use = .live none then
        (curObj s .canExact e.2.key).map fun b => (e.1, b) else none) }

/-- `CAN_MASK_SET` (R426). -/
def canMaskSetSpec : CmdSpec :=
  { opcode := 0x0245, change := true, len := lenIs 28
    values := fun c _ => firstOf
      [ c.upto 0 2 1023, c.upto 2 1 1, c.upto 3 1 1, range (decide (c.u64 4 < 2 ^ 38)) 4,
        range (decide (c.u64 12 < 2 ^ 38)) 12, c.dest 3 20 1, c.zero 22 2, c.gwRef 24 ]
    conds := stageConds .canMask 0 2
    apply := stageParams .canMask 0 2 }

/-! ### The LPM trie (R427, R428) -/

/-- The strides of a family's stages (R427). -/
def lpmStrides (family : Nat) : List Nat := if family = 4 then [8, 8, 8, 8] else [16, 12, 12, 8, 8, 8]

/-- The units a node of a stride takes (R427). -/
def lpmUnits (stride : Nat) : Nat := if stride = 12 then 16 else 1

/-- The pool nodes on the path of a prefix from `stage` on, `depth` bits down: identity and units. -/
def lpmPathFrom (family len prefix128 : Nat) : List Nat → Nat → Nat → List (Nat × Nat)
  | [], _, _ => []
  | st :: r, stage, depth =>
    if depth < len then
      (lpmKey family depth prefix128 * 8 + stage, lpmUnits st) ::
        lpmPathFrom family len prefix128 r (stage + 1) (depth + st)
    else []

/-- The pool nodes on the path of an entry: stages 2 to 6 (R427). -/
def lpmPath (b : Bytes) : List (Nat × Nat) :=
  match lpmStrides (byteAt b 0) with
  | st :: r => lpmPathFrom (byteAt b 0) (byteAt b 1) (beAt b 4 16) r 2 st
  | [] => []

/-- The LPM entries of a set of objects. -/
def lpmEntries (objs : Tab Bytes) : List (Nat × Bytes) :=
  objs.filter fun e => okind e.1 == Kind.lpm.code

/-- The nodes of the trie that holds a list of entries. -/
def lpmNodes (es : List (Nat × Bytes)) : List (Nat × Nat) := (es.flatMap fun e => lpmPath e.2).eraseDups

/-- The units of a list of nodes. -/
def lpmCost (ns : List (Nat × Nat)) : Nat := ns.foldl (fun v n => v + n.2) 0

/-- The nodes of a trie `new` that differ from those of `old`: on the path of a changed prefix
(R428). -/
def lpmCopies (old new : Tab Bytes) : List (Nat × Nat) :=
  let o := lpmEntries old
  let n := lpmEntries new
  let changed := (n.filter fun e => tget? old e.1 != some e.2) ++
    (o.filter fun e => tget? new e.1 != some e.2)
  let keep := lpmNodes n
  (changed.flatMap fun e => lpmPath e.2).eraseDups.filter fun x => keep.contains x

/-- Pairs of neighbouring generations, oldest first. -/
def neighbours {α : Type} : List α → List (α × α)
  | a :: b :: r => (a, b) :: neighbours (b :: r)
  | _ => []

/-- Prefixes held and units used once an owner's staging is `c` (R392, R428). -/
def lpmUse (s : State) (o : Nat) (c : Tab (Option Bytes)) : Nat × Nat :=
  let cur := currentObjs s
  let stagings := (tset s.tables.staging o c).map fun e => e.2
  let older := neighbours (s.tables.gens.map fun g => g.objs)
  let count := (lpmEntries cur).length +
    (stagings.map fun c => (c.filter fun e => okind e.1 == Kind.lpm.code && e.2.isSome).length).sum +
    (older.map fun g => ((lpmEntries g.1).filter fun e => tget? g.2 e.1 != some e.2).length).sum
  let units := lpmCost (lpmNodes (lpmEntries cur)) +
    (stagings.map fun c => lpmCost (lpmCopies cur (applyStaging cur c))).sum +
    (older.map fun g => lpmCost (lpmCopies g.2 g.1)).sum
  (count, units)

/-- Staging a change of an LPM key stays within 16,384 prefixes and 1,472 units (R427, R428). -/
def lpmRoom (s : State) (o key : Nat) (v : Option Bytes) : Bool :=
  let u := lpmUse s o (tset (stagingOf s o) (okey .lpm key) v)
  decide (u.1 ≤ 16384) && decide (u.2 ≤ 1472)

/-- The LPM key of FAMILY, LEN and PREFIX at the start of the parameters. -/
def Ctx.lpmKey (c : Ctx) : Nat := Machine.lpmKey (c.u8 0) (c.u8 1) (beAt c.ps 4 16)

/-- FAMILY is 4 or 6 and LEN within it (R428). -/
def Ctx.lpmOk (c : Ctx) : Check :=
  firstOf [range (c.u8 0 == 4 || c.u8 0 == 6) 0, c.upto 1 1 (if c.u8 0 = 4 then 32 else 64)]

/-- `LPM_ADD`. -/
def lpmAddSpec : CmdSpec :=
  { opcode := 0x0251, change := true, len := lenIs 36
    values := fun c _ => firstOf [c.lpmOk, c.upto 2 1 1, c.zero 3 1, c.upto 20 1 2, c.zero 21 1, c.dest 20 22 2]
    conds := fun c s => firstOf
      [ need (!heldByOther s c.p .lpm c.lpmKey) stBusy,
        need (lpmRoom s c.p c.lpmKey (some c.ps)) stNoRoom ]
    apply := quiet fun c s => stage c.p .lpm c.lpmKey (some c.ps) s }

/-- `LPM_DELETE` of a prefix not held is BAD_VALUE, as of the other keyed tables (DEDUCED, log
entry 20). -/
def lpmDeleteSpec : CmdSpec :=
  { opcode := 0x0252, change := true, len := lenIs 20
    values := fun c _ => firstOf [c.lpmOk, c.zero 2 2]
    conds := fun c s => firstOf
      [ need (!heldByOther s c.p .lpm c.lpmKey) stBusy,
        range (stagedObj s c.p .lpm c.lpmKey).isSome 0 ]
    apply := quiet fun c s => stage c.p .lpm c.lpmKey none s }

/-- The entry an `LPM_SEARCH` finds: in MODE 0 ADDR is a prefix of the family's full length or of
the longest entry that equals it, in MODE 1 an address (R436). -/
def lpmSearch (s : State) (family mode addr : Nat) : Option Bytes :=
  let objs := currentObjs s
  if mode = 1 then lpmFind objs family addr
  else
    (lpmEntries objs).foldl (fun best e =>
      if byteAt e.2 0 == family && beAt e.2 4 16 == addr then
        match best with
        | some b => if byteAt b 1 ≤ byteAt e.2 1 then some e.2 else best
        | none => some e.2
      else best) none

/-- `LPM_SEARCH`; an absent prefix is BAD_VALUE at offset 0 (DEDUCED, log entry 20). -/
def lpmSearchSpec : CmdSpec :=
  { opcode := 0x0253, change := false, len := lenIs 20
    values := fun c _ => firstOf
      [range (c.u8 0 == 4 || c.u8 0 == 6) 0, c.upto 1 1 1, c.zero 2 2]
    conds := fun c s => range (lpmSearch s (c.u8 0) (c.u8 1) (beAt c.ps 4 16)).isSome 0
    apply := answer fun c s => (lpmSearch s (c.u8 0) (c.u8 1) (beAt c.ps 4 16)).getD [] }

/-- `LPM_NEXT`: CURSOR counts the prefixes of the current generation. -/
def lpmNextSpec : CmdSpec :=
  { opcode := 0x0254, change := false, len := lenIs 4
    apply := answer fun c s =>
      let es := (lpmEntries (currentObjs s)).zipIdx.map fun e => (e.2, e.1.2)
      walkReply (es.drop (c.u32 0)) }

/-- `TBL_COUNTERS` (R435). -/
def tblCountersSpec : CmdSpec :=
  { opcode := 0x0262, change := false, len := lenIs 0
    apply := answer fun _ s => counterBlock s (tblCtr 0x0100) 21 }

/-! ### Events -/

/-- The learner takes the oldest waiting learn (R410, R412). -/
def fdbLearn (s : State) : State :=
  match s.tables.learnQ with
  | [] => s
  | l :: r => handleLearn l { s with tables.learnQ := r }

/-- The Patina epoch advances at a window's end (R416). -/
def patinaEpoch (s : State) : State :=
  match s.tables.epochStart with
  | none => s
  | some e =>
    let e' := e + s.tables.tickS * ticksPerSec
    if e' ≤ s.now ∧ !leeRule s then
      { s with tables.epoch := (s.tables.epoch + 1) % 256, tables.epochStart := some e' }
    else s

/-- The ager visits an entry position (R417); it does not run in Lee (R737). -/
def fdbAgeVisit (pos : Nat) (s : State) : State :=
  match tget? s.tables.fdbSlots pos with
  | some { key := k, use := .learned } =>
    match tget? s.tables.learned k with
    | some e =>
      if aged s e && !leeRule s then
        bump (tblCtr 0x0138) (removeLearned (fun j _ => j == k) s)
      else s
    | none => s
  | _ => s

/-- The outstanding flush completes (R420). -/
def fdbFlushDone (s : State) : State :=
  match findAsync 0x0235 (fun _ => true) s with
  | none => s
  | some a =>
    let g := byteAt a.params 0
    let locked := bit (byteAt a.params 1) 0
    let fid := leAt a.params 2 2
    let s := removeLearned (fun k e =>
      (g == 0xFF || e.gport == g) && (fid == 0 || k / 2 ^ 48 == fid) && (locked || !e.locked) &&
        decide (e.hold < a.started)) s
    cmdComplete a stDone s

/-- Every way of a table placed under a new seed, in position order, over `into`. -/
def migrate (h : HashShape) (seed : Nat) : Tab Slot → Tab Slot → Option (Tab Slot)
  | [], into => some into
  | (_, x) :: r, into => match hashInsert h seed into x with
    | some m => migrate h seed r m
    | none => none

/-- Learns placed meanwhile go back under the old seed; one that finds no room is forgotten (R422;
DESIGN CHOICE, log entry 18). -/
def unplace (h : HashShape) (seed : Nat) (placed : Tab Slot) (s : State) : State :=
  placed.foldl (fun s e => match hashInsert h seed s.tables.fdbSlots e.2 with
    | some m => { s with tables.fdbSlots := m }
    | none => { s with tables.learned := tdel s.tables.learned e.2.key }) s

/-- The running migration completes or is reversed (R421, R422). -/
def rehashDone (s : State) : State :=
  match s.tables.rehash, findAsync 0x0204 (fun _ => true) s with
  | some r, some a =>
    let k : Kind := if r.table = 0 then .fdb else .canExact
    let s' := { s with tables.rehash := none }
    match migrate (shapeOf k) r.seed (slotsOf s k) r.placed with
    | some m =>
      let s' := setSlots k m s'
      let s' := if r.table = 0 then { s' with tables.seedFdb := r.seed }
        else { s' with tables.seedCan := r.seed }
      cmdComplete a stDone s'
    | none => cmdComplete a stRehashNeeded (unplace (shapeOf k) (seedOf s k) r.placed s')
  | _, _ => s

end Sys2Proof.Machine
end

