-- ==== Sys2Proof/Machine/PolicingCmds.lean ====
section
/-!
DEFINITION. The opcodes of the policing unit (R472-R478) and the ends of its windows (R458, R463).
-/
namespace Sys2Proof.Machine

/-! ### Meters -/

/-- A meter at its definition or reset (R447), with its counters; the suppressed count begins anew (R782). -/
def Meter.start (raw : Bytes) (t : Tick) (old : Option Meter) : Meter :=
  let iv := max 1 (nsTick (leAt raw 4 4))
  let z : Word := 0
  let m : Meter :=
    { raw := raw, c := leAt raw 12 4, e := leAt raw 20 4, lastN := t / iv, allRed := false, green := z
      yellow := z, red := z, lastEvent := none, suppressed := 0 }
  match old with
  | some o => { m with green := o.green, yellow := o.yellow, red := o.red, lastEvent := o.lastEvent }
  | none => m

/-- `POLICER_SET` (R447, R475); one token is one byte or one frame (R443), so GUST below it is 0. -/
def policerSetSpec : CmdSpec :=
  { opcode := 0x0401, change := true, len := lenIs 32
    values := fun c _ => firstOf
      [ c.upto 0 2 2047, c.upto 2 1 1, range (decide (c.u8 3 < 16)) 3, c.btw 4 4 1000 1000000000,
        c.btw 12 4 1 0x7FFFFFFF, c.upto 20 4 0x7FFFFFFF, c.zero 24 8 ]
    conds := fun c _ => range (c.u32 16 == 0 || decide (c.u32 16 ≤ c.u32 20)) 20
    apply := quiet fun c s =>
      let m := Meter.start c.ps s.now (tget? s.policing.meters (c.u16 0))
      { s with policing.meters := tset s.policing.meters (c.u16 0) m } }

/-- The reply of `POLICER_QUERY`. -/
def meterReply (m : Meter) : Bytes :=
  m.raw ++ le 4 m.c ++ le 4 m.e ++ le 1 (b2n m.allRed) ++ zeros 3 ++ le 4 m.green.toNat ++
    le 4 m.yellow.toNat ++ le 4 m.red.toNat

/-- `POLICER_QUERY`. -/
def policerQuerySpec : CmdSpec :=
  { opcode := 0x0402, change := false, len := lenIs 4
    values := fun c _ => firstOf [c.upto 0 2 2047, c.zero 2 2]
    conds := fun c s => range (tget? s.policing.meters (c.u16 0)).isSome 0
    apply := answer fun c s => (tget? s.policing.meters (c.u16 0)).elim [] meterReply }

/-- `POLICER_RESET` (R447). -/
def policerResetSpec : CmdSpec :=
  { opcode := 0x0403, change := true, len := lenIs 4
    values := fun c _ => firstOf [c.upto 0 2 2047, c.zero 2 2]
    conds := fun c s => range (tget? s.policing.meters (c.u16 0)).isSome 0
    apply := quiet fun c s => match tget? s.policing.meters (c.u16 0) with
      | some m =>
        let m' := Meter.start m.raw s.now (some m)
        { s with policing.meters := tset s.policing.meters (c.u16 0) m' }
      | none => s }

/-! ### Stream filters and gates -/

/-- `SF_SET` (R449). -/
def sfSetSpec : CmdSpec :=
  { opcode := 0x0411, change := true, len := lenIs 16
    values := fun c _ => firstOf
      [ c.upto 0 2 1023, range (c.u16 4 == 0xFFFF || decide (c.u16 4 ≤ 127)) 4, c.upto 6 1 7, c.zero 7 9 ]
    apply := quiet fun c s =>
      let z : Word := 0
      let x : StreamFilter := match tget? s.policing.filters (c.u16 0) with
        | some x => { x with raw := c.ps }
        | none => { raw := c.ps, blocked := false, matching := z, passing := z, notGate := z, notSdu := z }
      { s with policing.filters := tset s.policing.filters (c.u16 0) x } }

/-- The interval and cycle checks of R381 and the fields of R489, for `n` entries from offset 32. -/
def gateListOk (c : Ctx) (stream : Bool) (n : Nat) : Check :=
  let e := entryLen stream
  firstOf
    ([ c.btw 4 4 1000 1000000000, c.upto 8 4 999999999, c.zero 18 2, c.upto 20 4 999999999, c.zero 30 2 ] ++
      (List.range n).map fun i =>
        let o := 32 + e * i
        firstOf
          [ if stream then c.upto o 1 1 else none, c.zero (o + 1) 3, range (decide (2 ≤ c.u32 (o + 4))) (o + 4) ])

/-- A new admin list (R363). -/
def setAdminList (stream : Bool) (n : Nat) (ps : Bytes) (s : State) : State :=
  setGate stream n { gateOf s stream n with admin := some (readGateList stream ps), waiting := some s.now } s

/-- `SGATE_LIST_SET` (R450, R473). -/
def sgateListSetSpec : CmdSpec :=
  { opcode := 0x0412, change := true
    len := fun ps => decide (1 ≤ leAt ps 2 2) && decide (leAt ps 2 2 ≤ 64) && ps.length == 32 + 12 * leAt ps 2 2
    values := fun c _ => firstOf [c.upto 0 1 127, c.upto 1 1 2, gateListOk c true (c.u16 2)]
    apply := quiet fun c s => setAdminList true (c.u8 0) c.ps s }

/-- `SF_QUERY`. -/
def sfQuerySpec : CmdSpec :=
  { opcode := 0x0413, change := false, len := lenIs 4
    values := fun c _ => firstOf [c.upto 0 2 1023, c.zero 2 2]
    apply := answer fun c s =>
      let z : Word := 0
      let d : StreamFilter :=
        { raw := le 2 (c.u16 0) ++ zeros 14, blocked := false, matching := z, passing := z, notGate := z
          notSdu := z }
      let x := tget s.policing.filters d (c.u16 0)
      let gi := leAt x.raw 4 2
      let closed := decide (gi ≤ 127) && (tget s.policing.gates StreamGate.none gi).closed
      x.raw ++ le 1 (b2n x.blocked) ++ le 1 (b2n closed) ++ zeros 2 ++ le 4 x.matching.toNat ++
        le 4 x.passing.toNat ++ le 4 x.notGate.toNat ++ le 4 x.notSdu.toNat }

/-- `SF_RESET` (R449, R451, R452). -/
def sfResetSpec : CmdSpec :=
  { opcode := 0x0414, change := true, len := lenIs 4
    values := fun c _ => firstOf [c.upto 0 2 1023, c.zero 2 2]
    apply := quiet fun c s => match tget? s.policing.filters (c.u16 0) with
      | some x =>
        let gi := leAt x.raw 4 2
        let s := { s with policing.filters := tset s.policing.filters (c.u16 0) { x with blocked := false } }
        match tget? s.policing.gates gi with
        | some g =>
          if gi ≤ 127 then { s with policing.gates := tset s.policing.gates gi { g with closed := false } }
          else s
        | none => s
      | none => s }

/-! ### Cadence -/

/-- The monitored flows under a profile: those with an entry, and those without one under profile 0. -/
def flowsUnder (s : State) (n : Nat) : List Nat :=
  (s.policing.flows.filter fun e => e.2.profile == n).map fun e => e.1

/-- `CADENCE_PROFILE_SET` (R469). -/
def cadenceProfileSetSpec : CmdSpec :=
  { opcode := 0x0421, change := true, len := lenIs 32
    values := fun c _ => firstOf
      [ c.upto 0 1 63, c.btw 1 1 4 64, c.btw 2 1 1 49, c.btw 3 1 1 255, c.upto 4 4 1000000, c.upto 8 1 2,
        range (c.u8 9 == 0 || c.u8 9 == 2 || c.u8 9 == 3) 9, c.btw 10 2 2 65535, c.btw 12 4 1 60000,
        c.btw 16 4 10 600000, c.zero 22 10 ]
    apply := quiet fun c s =>
      let n := c.u8 0
      let old := profileOf s n
      let s := { s with policing.profiles := tset s.policing.profiles n c.ps }
      if slice old 1 2 = c.raw 1 2 ∧ slice old 4 4 = c.raw 4 4 then
        { s with policing.flows := tmap s.policing.flows fun _ x =>
            if x.profile = n then { x with limits := tmap x.limits fun _ l => (l.1, 0) } else x }
      else (flowsUnder s n).foldl (fun s f => relearn f s) s }

/-- `CADENCE_SET` (R469, R478). -/
def cadenceSetSpec : CmdSpec :=
  { opcode := 0x0422, change := true, len := lenIs 4
    values := fun c _ => firstOf [c.upto 0 2 16383, c.upto 2 1 63, c.zero 3 1]
    apply := quiet fun c s =>
      let f := c.u16 0
      relearn f (setCad f { cadOf s f with profile := c.u8 2 } s) }

/-- The number of a monitor state (R472). -/
def CadState.code : CadState → Nat
  | .learning => 1 | .monitoring => 2 | .acyclic => 3

/-- `CADENCE_QUERY`. -/
def cadenceQuerySpec : CmdSpec :=
  { opcode := 0x0423, change := false, len := lenIs 4
    values := fun c _ => firstOf [c.upto 0 2 16383, c.zero 2 2]
    apply := answer fun c s =>
      let f := c.u16 0
      let x := cadOf s f
      let on := (flowEntry s (currentNum s) f).cadence
      let mon := x.state == .monitoring
      le 1 x.profile ++ le 1 (if on then x.state.code else 0) ++ le 1 (b2n x.missed) ++
        le 1 (b2n (quarantined s 0 f)) ++ le 4 x.period ++ le 4 x.jitter ++
        le 4 (if mon then x.w (pTol (profileOf s x.profile)) else 0) ++ nsSec x.ref ++ zeros 2 ++
        le 2 x.inserted ++ le 2 x.late ++ le 2 x.loss ++ le 2 x.babbles }

/-- `CADENCE_RELEARN` (R469). -/
def cadenceRelearnSpec : CmdSpec :=
  { opcode := 0x0424, change := true, len := lenIs 4
    values := fun c _ => firstOf [range (c.u16 0 == 0xFFFF || decide (c.u16 0 ≤ 16383)) 0, c.zero 2 2]
    apply := quiet fun c s => if c.u16 0 = 0xFFFF then relearnAll s else relearn (c.u16 0) s }

/-! ### Sources and containment -/

/-- The J1939 rules hold at a CAN port (R184). -/
def j1939Port (s : State) (g : Nat) : Bool := (tget s.ports.can CanPort.reset g).config.getLsbD 3

/-- `SOURCE_SET` (R461, R474). -/
def sourceSetSpec : CmdSpec :=
  { opcode := 0x0425, change := true, len := lenIs 16
    values := fun c _ =>
      let i := c.u16 0
      firstOf
        [ range (decide (i ≤ 53) || within i 0x0100 0x01FF) 0, need (decide (c.u8 2 ≤ 53)) stBadUnit,
          range (c.u8 3 == 0xFF || decide (c.u8 3 ≤ 253)) 3, range (c.u8 4 == 0 || c.u8 4 == 3) 4, c.zero 5 1,
          c.btw 6 2 1 10000, c.btw 12 4 10 600000 ]
    conds := fun c s =>
      let i := c.u16 0
      firstOf
        [ range (if i ≤ 53 then c.u8 2 == i else decide (c.u8 2 ≤ 23) && j1939Port s (c.u8 2)) 2,
          range (if i ≤ 53 then c.u8 3 == 0xFF else decide (c.u8 3 ≤ 253)) 3 ]
    apply := quiet fun c s =>
      let x : Source := { raw := c.ps, window := 0, count := 0, given := false
                          safetySeen := (tget? s.policing.sources (c.u16 0)).any fun x => x.safetySeen }
      { s with policing.sources := tset s.policing.sources (c.u16 0) x } }

/-- `CONTAIN_BUDGET_SET` (R464, R465, R477). -/
def containBudgetSetSpec : CmdSpec :=
  { opcode := 0x0431, change := true, len := lenIs 8
    values := fun c _ => firstOf [c.upto 0 2 1024, c.upto 2 2 1024, c.btw 4 2 100 60000, c.zero 6 2]
    apply := quiet fun c s =>
      let used := newUsedAt s s.now
      { s with policing.maxActive := c.u16 0, policing.newMax := c.u16 2, policing.winMs := c.u16 4
               policing.budgetWindow := s.now / ms (c.u16 4), policing.newUsed := used } }

/-- The quarantine of a target. -/
def findQuarantine (s : State) (kind target : Nat) : Option Quarantine :=
  s.policing.quarantines.find? fun q => q.kind == kind && q.target == target

/-- `CONTAIN_RELEASE` (R463, R476). -/
def containReleaseSpec : CmdSpec :=
  { opcode := 0x0432, change := true, len := lenIs 4
    values := fun c _ => firstOf [c.upto 2 1 1, c.zero 3 1]
    conds := fun c s => range (findQuarantine s (c.u8 2) (c.u16 0)).isSome 0
    apply := quiet fun c s => match findQuarantine s (c.u8 2) (c.u16 0) with
      | some q => endQuarantine q 2 (targetSafety s q.kind q.target) s
      | none => s }

/-- `CONTAIN_QUERY`. -/
def containQuerySpec : CmdSpec :=
  { opcode := 0x0433, change := false, len := lenIs 4
    values := fun c _ => c.zero 2 2
    apply := answer fun c s =>
      let qs := (s.policing.quarantines.drop (c.u16 0)).take 203
      le 2 s.policing.quarantines.length ++ le 2 qs.length ++ qs.flatMap fun q =>
        le 2 q.target ++ le 1 q.kind ++ le 1 q.cause ++ nsSec q.start ++ zeros 2 ++ le 4 q.dropped }

/-- `POL_COUNTERS` (R471). -/
def polCountersSpec : CmdSpec :=
  { opcode := 0x0441, change := false, len := lenIs 0
    apply := answer fun _ s => counterBlock s (polCtr 0x0100) 19 }

/-- `FLOW_COUNTERS` (R442). -/
def flowCountersSpec : CmdSpec :=
  { opcode := 0x0442, change := false, len := lenIs 4
    values := fun c _ => firstOf [c.upto 0 2 16383, c.btw 2 2 1 509]
    conds := fun c _ => range (decide (c.u16 0 + c.u16 2 ≤ 16384)) 2
    apply := answer fun c s => (List.range (c.u16 2)).flatMap fun i =>
      let n := tget s.policing.flowCounts (0, 0) (c.u16 0 + i)
      le 4 n.1.toNat ++ le 4 n.2.toNat }

/-! ### Ends of windows -/

/-- A missed acceptance window of a flow is judged, 150 µs after its end at the earliest (R458). -/
def cadenceMissed (f : Nat) (s : State) : State :=
  let x := cadOf s f
  let due := x.ref + x.period + x.w (pTol (profileOf s x.profile)) + us 150
  if x.state = .monitoring ∧ due ≤ s.now ∧ (flowEntry s (currentNum s) f).cadence then cadenceMiss f s
  else s

/-- The hold window of a quarantine ends (R463). -/
def containHoldEnd (kind target : Nat) (s : State) : State :=
  match findQuarantine s kind target with
  | none => s
  | some q =>
    let e := q.holdStart + ms q.holdMs
    if s.now < e then s
    else if q.again then
      { s with policing.quarantines := s.policing.quarantines.map fun x =>
          if x = q then { q with holdStart := e, again := false } else x }
    else endQuarantine q 1 (targetSafety s kind target) s

end Sys2Proof.Machine
end

