-- ==== Sys2Proof/Machine/PortCmds.lean ====
section
/-!
DEFINITION. The opcodes of the wired ports (R238, R239): admin state, configuration, transceivers, CAN,
LIN and Ethernet settings, and management access.
-/
namespace Sys2Proof.Machine

/-! ### Status and configuration words -/

/-- `CANX_STATUS` (R185). -/
def canStatus (s : State) (g : Nat) : Nat :=
  let x := canOf s g
  x.errState + 4 * canMode s g + 16 * x.trxMode + 64 * b2n x.wflag + 128 * b2n x.trailer + 256 * b2n x.tdcValid +
    512 * x.tdcMeas + 2 ^ 16 * (if x.busOff then 0xFF else x.txErr) + 2 ^ 24 * (if x.rxErr ≤ 0xFF then x.rxErr else 0xFF)

/-- `LINX_STATUS` (R205). -/
def linStatus (s : State) (g : Nat) : Nat :=
  let x := linOf s g
  b2n x.commander + 2 * b2n x.active.isSome + 4 * x.active.getD 0 + 16 * (if x.active.isSome then x.slot else 0) +
    1024 * b2n x.en + 2 ^ 16 * (x.baudMeas % 2 ^ 16)

/-- `ETHX_CONFIG` (R208). -/
def ethConfigWord (s : State) (g : Nat) : Nat :=
  let x := ethOf s g
  x.speed + 16 * x.fcMode + 64 * b2n x.preempt + 128 * b2n x.prstOnDown + 256 * x.pfcEn + 2 ^ 16 * x.maxFrame

/-- `ETHX_STATUS` (R209). -/
def ethStatus (s : State) (g : Nat) : Nat :=
  let x := ethOf s g
  let holds (w : Tick × Tick) : Bool := inWindow s.now w.1 (w.2 - w.1)
  let pfc := x.pfc.foldl (fun v e => if holds e.2 then v + 2 ^ e.1 else v) 0
  let link := match x.pause with
    | some w => holds w
    | none => false
  b2n (mediumUp s g) + 2 * x.preemptSt + 8 * b2n link + 16 * pfc + 2 ^ 12 * b2n x.plcaOk + 2 ^ 13 * b2n x.phyWake +
    2 ^ 14 * b2n x.prst

/-- The config word at offset 0x0000; a LIN port has no register there and reads 0. -/
def configWord (s : State) (g : Nat) : Nat :=
  if isCan g then (canOf s g).config.toNat else if isLin g then 0 else ethConfigWord s g

/-- The status word at offset 0x0004. -/
def statusWord (s : State) (g : Nat) : Nat :=
  if isCan g then canStatus s g else if isLin g then linStatus s g else ethStatus s g

/-- `PORT_TS_CORR` (R225). -/
def tsCorrWord (s : State) (g : Nat) : Nat := (common s g).rxExt + 2 ^ 16 * (common s g).txExt

/-- KIND of `PORT_QUERY` (R176, R238). -/
def portKind (g : Nat) : Nat :=
  if isCan g then 0 else if isLin g then 1 else if isT1s g then 2 else if isXg g then 3 else 4

/-- How many counters a port's kind has (R199, R206, R212). -/
def portCounterCount (g : Nat) : Nat := if isCan g then 14 else if isLin g then 12 else 21

/-- The wired ports (R176). -/
def isWired (u : Nat) : Bool := decide (u < 50)

/-! ### Frames the control firmware sends -/

/-- The number of no flow: firmware's frames take none (R439). -/
def noFlow : Nat := 16384

/-- A frame of the control firmware: it enters at CPUP and is queued on a gport in a class (R338, R439). -/
def cpuEmit (g tc : Nat) (bus : Option CanFrame) (data : Bytes) (s : State) : State :=
  let f : Frame := { Frame.arrived bus data gCpup s.now with gen := currentNum s, flow := noFlow, tc := tc }
  (admitFrame { frame := f, src := gCpup, dest := .port g, driven := false, cut := false } s).st

/-- An Address Claimed or Cannot Claim frame of J1939-81 (R287, R291): PGN 0xEE00 to the global address. -/
def claimFrame (sa name : Nat) : CanFrame :=
  { id := 0x18EEFF00 + sa, ide := true, rtr := false, fmt := 0, brs := false, esi := false, sec := false
    enh := false, dlc := 8, dlen := 8, af := 0, sdt := 0, vcid := 0, data := le 8 name }

/-- Pair B claims the own address of a port with J1939 set (R291); a standby sends no claim (R725). -/
def claimOwn (g : Nat) (s : State) : State :=
  match tget? s.gw.own g with
  | some (sa, name) => if standbyPort s g ∨ sa = 0xFE then s else cpuEmit g (Config.firmwareTc 1) (some (claimFrame sa name)) [] s
  | none => s

/-! ### Admin state (R177, R178, R233) -/

/-- What a port's logic keeps through a change of its admin state. -/
def adminReset (g : Nat) (up : Bool) (s : State) : State :=
  if isCan g then
    let x := canOf s g
    setCan g { x with integrated := false, tdcValid := false, busy := false, deaf := false } s
  else if isLin g then
    setLin g { linOf s g with syncSeen := false, awaiting := none, busy := false } s
  else
    let x := ethOf s g
    let x := { x with lock := false, preemptSt := 0, pause := none, pfc := [], orders := [] }
    if isT1s g then setEth g { x with plcaOk := false } s
    else if up then
      setEth g { x with prst := x.prst && decide (s.clk < x.prstSince + us x.prstUs) } s
    else if x.prstOnDown && !x.prst then setEth g { x with prst := true, prstSince := s.clk } s
    else setEth g x s

/-- Set a wired port's admin state (R177, R178, R233, R291, R341). -/
def setAdmin (g : Nat) (up : Bool) (s : State) : State :=
  if (common s g).admin = up then s
  else if up then
    let s := withOper g 1 (fun s => adminReset g true (setCommon g { common s g with admin := true } s)) s
    claimOwn g (recomputePort g s)
  else
    adminReset g false
      (withOper g 1 (fun s => setCommon g { common s g with admin := false } s) (heldTicks g false s))

/-- `PORT_ADMIN`. -/
def portAdminSpec : CmdSpec :=
  { opcode := 0x0001, change := true, units := isWired, len := lenIs 4
    values := fun c _ => firstOf [c.upto 0 1 1, c.zero 1 3]
    apply := quiet fun c s => setAdmin c.unit (c.u8 0 == 1) s }

/-- `PORT_QUERY`. -/
def portQuerySpec : CmdSpec :=
  { opcode := 0x0002, change := false, units := isWired, len := lenIs 0
    apply := answer fun c s =>
      let g := c.unit
      le 1 (portKind g) ++ le 1 (b2n (common s g).admin) ++ le 1 (b2n (operUp s g)) ++ zeros 1 ++
        le 4 (configWord s g) ++ le 4 (statusWord s g) ++ le 4 (tsCorrWord s g) }

/-- `PORT_COUNTERS` (R181). -/
def portCountersSpec : CmdSpec :=
  { opcode := 0x0003, change := false, units := isWired, len := lenIs 0
    apply := answer fun c s =>
      let s := if isEth c.unit then heldTicks c.unit (ethOf s c.unit).heldSince.isSome s else s
      counterBlock s (portCtr c.unit 0x0100) (portCounterCount c.unit) }

/-- `PORT_TS_CORR` (R224-R226). -/
def portTsCorrSpec : CmdSpec :=
  { opcode := 0x0004, change := true, units := isWired, len := lenIs 4
    values := fun c _ => firstOf [c.upto 0 2 10000, c.upto 2 2 10000]
    apply := quiet fun c s => setCommon c.unit { common s c.unit with rxExt := c.u16 0, txExt := c.u16 2 } s }

/-! ### Transceivers and wake detectors (R229-R236) -/

/-- A CAN transceiver takes a mode (R230). -/
def setTrx (g mode gts : Nat) (s : State) : State :=
  withOper g 5 (fun s => setCan g { canOf s g with
    trxMode := mode, trxNext := none, gtsEnd := if mode = 3 then some (s.clk + us gts) else none } s) s

/-- LINn_EN takes a level (R231). -/
def setLinEn (g : Nat) (en : Bool) (s : State) : State :=
  withOper g 5 (fun s => setLin g { linOf s g with en := en, enNext := none } s) s

/-- `TRX_MODE_SET` (R230, R231). -/
def trxModeSetSpec : CmdSpec :=
  { opcode := 0x0005, change := true, units := fun u => decide (u < 32), len := lenIs 4
    values := fun c _ => firstOf [c.upto 0 1 (if isLin c.unit then 1 else 3), c.btw0 1 1 20 255, c.zero 2 2]
    apply := quiet fun c s =>
      let g := c.unit
      if isLin g then
        if (linOf s g).busy then setLin g { linOf s g with enNext := some (c.u8 0 == 0) } s
        else setLinEn g (c.u8 0 == 0) s
      else
        let gts := orDefault (c.u8 1) 50
        if (canOf s g).busy then setCan g { canOf s g with trxNext := some (c.u8 0, gts) } s
        else canDriveSof g (setTrx g (c.u8 0) gts s) }

/-- `WAKE_DETECT_SET` (R235, R785). -/
def wakeDetectSetSpec : CmdSpec :=
  { opcode := 0x0006, change := true, units := isWired, len := lenIs 8
    values := fun c _ => firstOf [c.upto 0 1 3, c.zero 1 1, c.zero 6 2]
    apply := quiet fun c s =>
      setCommon c.unit { common s c.unit with wakeSrc := c.u8 0, filt := c.u16 2, tmo := c.u16 4 } s }

/-! ### CAN (R184-R195) -/

/-- The conditions of R187 and R195 on a phase word whose slowest allowed bit is the nominal one. -/
def phaseOk (w : Word) (tq lo hi : Nat) : Bool :=
  let v := w.toNat
  let t1 := bits v 15 8 + 1
  let t2 := bits v 22 16 + 1
  let sjw := bits v 29 23 + 1
  decide (v < 2 ^ 30) && decide (tq ≤ 1 + t1 + t2) && decide (sjw ≤ t2) && decide (sjw ≤ t1) &&
    within (bitClocks w) lo hi

/-- The first condition of R187 and R195 that bit timings break, as PARAM_OFFSET of `CAN_BITTIME`. The rates
of R183 are counts of CANCLK periods of 12.5 ns. -/
def bitTimeFault (formats : Nat) (iso : Bool) (n d x tdc : Word) : Option Nat :=
  let fast (w : Word) : Bool := decide (bitClocks w < 80)
  if !phaseOk n 8 80 8000 || (iso && bitClocks n != 640) then some 0
  else if 1 ≤ formats ∧ !phaseOk d 4 10 (bitClocks n) then some 4
  else if formats = 2 ∧ !phaseOk x 4 4 (bitClocks n) then some 8
  else if 2 ^ 9 ≤ tdc.toNat ∨ (!tdc.getLsbD 8 ∧ ((1 ≤ formats ∧ fast d) ∨ (formats = 2 ∧ fast x))) then some 12
  else none

/-- `CAN_CONFIG` (R179, R184, R187, R195). -/
def canConfigSpec : CmdSpec :=
  { opcode := 0x0011, change := true, units := isCan, len := lenIs 8
    values := fun c _ =>
      let w := c.u32 0
      firstOf
        [ range (decide (w % 4 ≤ 2) && !bit w 7 && bits w 15 11 == 0 && within (w / 2 ^ 16) 50 5000) 0, c.zero 4 4 ]
    conds := fun c s =>
      let w := c.u32 0
      let x := canOf s c.unit
      let iso := bit w 2
      firstOf
        [ range (!iso || w % 4 == 0) 0, range (bitTimeFault (w % 4) iso x.bitN x.bitD x.bitX x.tdc).isNone 0,
          need (!(common s c.unit).admin) stBusy ]
    apply := quiet fun c s => setCan c.unit { canOf s c.unit with config := w32 (c.u32 0) } s }

/-- `CAN_BITTIME` (R179, R187, R188, R195). -/
def canBittimeSpec : CmdSpec :=
  { opcode := 0x0012, change := true, units := isCan, len := lenIs 16
    conds := fun c s =>
      let cfg := (canOf s c.unit).config
      match bitTimeFault (cfg.toNat % 4) (cfg.getLsbD 2) (w32 (c.u32 0)) (w32 (c.u32 4)) (w32 (c.u32 8))
          (w32 (c.u32 12)) with
      | some o => range false o
      | none => need (!(common s c.unit).admin) stBusy
    apply := quiet fun c s =>
      let x := canOf s c.unit
      setCan c.unit { x with
        bitN := w32 (c.u32 0), bitD := w32 (c.u32 4), bitX := w32 (c.u32 8), tdc := w32 (c.u32 12)
        tdcValid := x.tdcValid && bit (c.u32 12) 8 } s }

/-- The controller takes an operating mode (R192-R194); a frame it holds unsent goes back to its queue. -/
def setOpmode (g mode : Nat) (s : State) : State :=
  let s := setCan g { canOf s g with opmode := mode, opmodeNext := none } s
  if mode = 0 then canDriveSof g s else canReturn g s

/-- An operating mode is taken at the end of the frame on the bus (R194, R786). -/
def orderOpmode (g mode : Nat) (s : State) : State :=
  if (canOf s g).busy then setCan g { canOf s g with opmodeNext := some mode } s else setOpmode g mode s

/-- `CAN_RESTRICT` (R192-R194). -/
def canRestrictSpec : CmdSpec :=
  { opcode := 0x0013, change := true, units := isCan, len := lenIs 4
    values := fun c _ => firstOf [c.upto 0 1 2, c.zero 1 3]
    apply := quiet fun c s => orderOpmode c.unit (c.u8 0) s }

/-- `CAN_RECOVER` (R190, R239). -/
def canRecoverSpec : CmdSpec :=
  { opcode := 0x0014, change := true, units := isCan, len := lenIs 4
    values := fun c _ => c.zero 0 4
    conds := fun c s =>
      let x := canOf s c.unit
      range (x.busOff && !x.config.getLsbD 4) 0
    apply := quiet fun c s => setCan c.unit { canOf s c.unit with recovering := true } s }

/-! ### LIN (R200-R205) -/

/-- `LIN_CONFIG` (R179, R200). A port that becomes a responder runs no schedule. -/
def linConfigSpec : CmdSpec :=
  { opcode := 0x0021, change := true, units := isLin, len := lenIs 36
    values := fun c _ => firstOf [c.upto 0 1 1, c.btw 1 1 13 26, c.btw 2 2 1000 20000]
    conds := fun c s => need (!(common s c.unit).admin) stBusy
    apply := quiet fun c s =>
      let x := linOf s c.unit
      let up := c.u8 0 == 1
      setLin c.unit { x with
        commander := up, brk := c.u8 1, baud := c.u16 2, enhMap := c.u64 4, lenMap := c.num 12 24
        active := if up then x.active else none, select := if up then x.select else none
        resume := if up then x.resume else none } s }

/-- The entries of `LIN_SCHEDULE_SET`. -/
def linEntries (c : Ctx) : List LinEntry :=
  (List.range (c.u8 1)).map fun i =>
    let o := 4 + 4 * i
    { fid := c.u8 o, kind := c.u8 (o + 1), delayMs := c.u8 (o + 2), resolve := c.u8 (o + 3) }

/-- `LIN_SCHEDULE_SET` (R201, R203). -/
def linScheduleSetSpec : CmdSpec :=
  { opcode := 0x0022, change := true, units := isLin
    len := fun ps => within (byteAt ps 1) 1 64 && ps.length == 4 + 4 * byteAt ps 1
    values := fun c _ => firstOf ([c.upto 0 1 3, c.btw 1 1 1 64, c.zero 2 2] ++
      (List.range (c.u8 1)).flatMap fun i =>
        let o := 4 + 4 * i
        [c.upto o 1 63, c.upto (o + 1) 1 2, c.btw (o + 2) 1 1 255, c.upto (o + 3) 1 3])
    conds := fun c s => need ((linOf s c.unit).active != some (c.u8 0)) stBusy
    apply := quiet fun c s =>
      let x := linOf s c.unit
      setLin c.unit { x with tables := tset x.tables (c.u8 0) (linEntries c) } s }

/-- A schedule table becomes active, or the schedule stops (R201, R203, R240). -/
def linActivate (g table : Nat) (s : State) : State :=
  let x := linOf s g
  let x := { x with active := if table = 0xFF then none else some table, slot := 0, begun := false, slotEnd := s.now
                    select := none, resume := none, awaiting := none }
  raiseEvent g 0x0107 (le 1 table) (setLin g x s)

/-- `LIN_SCHEDULE_SELECT` (R203): a port without an active table takes the change at once; a responder
runs no table. -/
def linScheduleSelectSpec : CmdSpec :=
  { opcode := 0x0023, change := true, units := isLin, len := lenIs 4
    values := fun c _ => firstOf [range (decide (c.u8 0 ≤ 3) || c.u8 0 == 0xFF) 0, c.upto 1 1 1, c.zero 2 2]
    apply := quiet fun c s =>
      let g := c.unit
      let x := linOf s g
      if !x.commander then s
      else if x.active.isNone then if c.u8 0 = 0xFF then s else linActivate g (c.u8 0) s
      else setLin g { x with select := some (c.u8 0, c.u8 1) } s }

/-! ### Ethernet (R207-R221, R233, R234) -/

/-- The speeds of a kind (R207). -/
def speedOk (g speed : Nat) : Bool :=
  if isT1s g then speed == 0 else if isXg g then within speed 2 5 else within speed 1 2

/-- `ETH_CONFIG` (R179, R207, R233, R239). -/
def ethConfigSpec : CmdSpec :=
  { opcode := 0x0031, change := true, units := isEth, len := lenIs 8
    values := fun c _ => firstOf
      [ range (speedOk c.unit (c.u8 0)) 0, c.upto 1 1 (if isT1s c.unit then 0 else 1), c.btw0 2 1 1 128, c.upto 3 1 1,
        c.btw 4 2 64 (if isT1s c.unit then 1522 else 9216), c.btw0 6 2 10 65535 ]
    conds := fun c s => need (!(common s c.unit).admin) stBusy
    apply := quiet fun c s =>
      setEth c.unit { ethOf s c.unit with
        speed := c.u8 0, preempt := c.u8 1 == 1, verifyMs := orDefault (c.u8 2) 10, prstOnDown := c.u8 3 == 1
        maxFrame := c.u16 4, prstUs := orDefault (c.u16 6) 100 } s }

/-- `ETH_FLOWCTL` (R213, R221, R239): windows in force close, and headroom follows the mode (R343). -/
def ethFlowctlSpec : CmdSpec :=
  { opcode := 0x0032, change := true, units := isEth, len := lenIs 4
    values := fun c _ => firstOf [c.upto 0 1 (if isT1s c.unit then 0 else 2), c.zero 2 2]
    apply := quiet fun c s =>
      let g := c.unit
      recomputePort g
        (setEth g { ethOf s g with fcMode := c.u8 0, pfcEn := c.u8 1, pause := none, pfc := [] } s) }

/-- `T1S_PLCA` (R179, R210). -/
def t1sPlcaSpec : CmdSpec :=
  { opcode := 0x0033, change := true, units := isT1s, len := lenIs 4
    values := fun c _ => firstOf [c.btw 1 1 1 255]
    conds := fun c s => need (!(common s c.unit).admin) stBusy
    apply := quiet fun c s => setEth c.unit { ethOf s c.unit with plca := w32 (c.u32 0) } s }

/-- `MDIO_ACCESS` (R234). A read gives what the external PHY answers, which the block does not know: a free
value, of which an absent PHY's 0xFFFF is one. -/
def mdioAccessSpec : CmdSpec :=
  { opcode := 0x0034, change := true, units := fun u => within u 38 49, len := lenIs 8
    values := fun c _ => firstOf
      [ c.upto 0 1 1, c.upto 1 1 1, c.upto 2 1 31, c.upto 3 1 31,
        if c.u8 0 = 0 then c.zero 4 2 else none ]
    apply := fun c s =>
      if c.u8 1 = 1 then (s, le 2 (c.u16 6) ++ zeros 2)
      else
        let (v, s) := takeFree 16 s
        (s, le 2 v.toNat ++ zeros 2) }

end Sys2Proof.Machine
end

