-- ==== Sys2Proof/Machine/GwRun.lean ====
section
/-!
DEFINITION. The gateway engine at work: frames taken from RECIRC (R241-R247, R347), J1939 rewriting (R292-R294)
and address tracking (R287-R291), commits with what they bring (R317, R318, R251, R305, R374, R469), the
retirement of generations (R390) and the Maquette (R430-R433).
-/
namespace Sys2Proof.Machine

/-! ### J1939 rewriting (R292-R294) -/

/-- The address a rule takes: kept, own, a value or a binding's (R292). -/
def ruleAddr (s : State) (gen mode val kept egress : Nat) : Nat :=
  match mode with
  | 0 => kept
  | 1 => ownAddr s egress
  | 2 => val
  | _ => bindAddr (genObj s gen .bind val)

/-- The identifier a rule gives; `none` where it needs an address that is 0xFE (R293, R294). -/
def rewriteId (s : State) (gen : Nat) (r : Bytes) (id : Nat) : Option Nat :=
  let prio := if byteAt r 2 = 0xFF then bits id 28 26 else byteAt r 2
  let pgn := if byteAt r 3 = 1 then leAt r 4 4 % 2 ^ 18 else bits id 25 8
  let sa := ruleAddr s gen (byteAt r 8) (leAt r 0xA 2) (id % 256) (byteAt r 0xE)
  let da := ruleAddr s gen (byteAt r 9) (leAt r 0xC 2) (bits id 15 8) (byteAt r 0xE)
  let group := decide (240 ≤ bits pgn 15 8)
  let lost (mode a : Nat) : Bool := (mode == 1 || mode == 3) && a == 0xFE
  if lost (byteAt r 8) sa ∨ (!group ∧ lost (byteAt r 9) da) then none
  else some (prio * 2 ^ 26 + pgn / 256 * 2 ^ 16 + (if group then pgn % 256 else da % 256) * 2 ^ 8 + sa % 256)

/-- Rewrite a frame and queue it on EGRESS (R246, R292). -/
def j1939Rewrite (k : Cause) (r : Bytes) (f : Frame) (s : State) : State :=
  match f.bus with
  | none => bump (gwCtr 0x0108) s
  | some c =>
    match rewriteId s f.gen r c.id with
    | none => bump (gwCtr 0x01D8) s
    | some id =>
      gwOffer (gwFrame k (some { c with id := id, ide := true }) [] f.flow (byteAt r 0xF)) (byteAt r 0xE) true s

/-! ### Frames taken from RECIRC (R241-R247, R347) -/

/-- The GW_REF work of a frame (R241, R242). -/
def gwWork (f : Frame) (s : State) : State :=
  let i := f.gwRef % 65536
  let k : Cause := { gen := f.gen, stamp := f.stamp, driven := true }
  let noRef (s : State) : State := bump (gwCtr 0x0108) s
  match f.gwRef / 2 ^ 28 with
  | 1 =>
    match pduOf s f.gen i 0 with
    | some b => sourceRx k i (slice (frameData f) (leAt b 6 2)
        (min (pduLen s f.gen b) ((frameData f).length - leAt b 6 2))) f.stamp f.flow s
    | none => noRef s
  | 2 =>
    match genObj s f.gen .cont i with
    | some d => if byteAt d 3 = 1 then unpack i d f s else noRef s
    | none => noRef s
  | 3 =>
    match genObj s f.gen .cont i with
    | some d =>
      if byteAt d 3 = 1 ∨ byteAt d 2 = 0 then noRef s
      else
        match f.bus with
        | some c => contPending f.gen i none (some (c, f.ingress)) f.stamp (f.stamp + us (leAt d 0xC 4)) s
        | none => bump (gwCtr 0x0168) s
    | none => noRef s
  | 4 =>
    match genObj s f.gen .tpChannel i with
    | some b => transportRx k i b f s
    | none => noRef s
  | 5 =>
    match genObj s f.gen .rewrite i with
    | some r => j1939Rewrite k r f s
    | none => noRef s
  | _ => noRef s

/-- Offer again the emissions that wait for shared cells, in order (R347). -/
def retryStalled : List Frame → State → State
  | [], s => s
  | f :: r, s =>
    let s1 := { s with gw.stalled := r }
    match f.direct with
    | some (g, _) =>
      let a := admitFrame { frame := f, src := gRecirc, dest := .port g, driven := true, cut := false } s1
      if a.wait then s else retryStalled r a.st
    | none =>
      let (f, s2) := classifyIn f.gen f s1
      let a := forward f gRecirc true false s2
      if a.wait then s else retryStalled r a.st

/-- Shared cells the frame-driven work of a class holds (R347). -/
def drivenCharge (s : State) (c : Nat) : Nat :=
  ((s.switch.held.filter fun e => e.2.driven && e.2.src == gRecirc && e.2.cls == c).map fun e => e.2.shared).sum

/-- The engine takes the next frame of RECIRC (R244, R247, R347). -/
def gwTakeFrame (s : State) : State :=
  let s := retryStalled s.gw.stalled (sweepPort gRecirc s)
  if !s.gw.stalled.isEmpty then s
  else
    match pick s gRecirc (fun c _ => decide (drivenCharge s c + 32 ≤ (account s gRecirc c).share)) with
    | none => s
    | some (c, r, h) =>
      if h.faulted then dropFault gRecirc c 1 r.fid h.frame.flow s
      else
        let s := bump (gwCtr 0x0100) (bump (swCtr gRecirc 0x40) (dequeue gRecirc c r.fid s))
        let s := releaseRef r.fid { s with gw.arb := arbNext 4 1 }
        if leeRule s ∧ !(frameFlow s h.frame).safety then s else gwWork h.frame s

/-! ### Commits -/

/-- The objects a staging changes: number, old and new bytes (R318). -/
def stagedChanges (s : State) (o : Nat) : List (Nat × Option Bytes × Option Bytes) :=
  let cur := currentObjs s
  ((stagingOf s o).map fun e => (e.1, tget? cur e.1, e.2)).filter fun e => e.2.1 != e.2.2

/-- Releases before a commit: comparators that fire, then the containers the commit touches (R317). -/
def releaseForCommit (ch : List (Nat × Option Bytes × Option Bytes)) (s : State) : State :=
  let open_ := (s.gw.conts.filter fun e => e.2.isOpen).map fun e => e.1
  let s := open_.foldl (fun s c => contDue c s) s
  let touched (n : Nat) : Bool := ch.any fun e => e.1 == n
  open_.foldl (fun s c =>
    let x := contOf s c
    if x.isOpen && (touched (okey .cont c) || x.entries.any fun e => match e.pdu with
        | some i => touched (okey .pdu i)
        | none => false) then contRelease c none s
    else s) s

/-- The first due instant of a definition committed now (R263). -/
def firstDue (b : Bytes) (now : Tick) : Option Tick :=
  let cyc := max 1 (us (leAt b 0x10 4))
  let off := us (leAt b 0x14 4)
  if !([1, 2, 4].contains (byteAt b 3)) then none
  else if bit (byteAt b 0x1A) 0 then some (if now ≤ off then off else off + (now - off + cyc - 1) / cyc * cyc)
  else some (now + off)

/-- A PDU changed or removed by a commit (R251, R260, R263, R311, R312, R318). -/
def pduCommitted (i : Nat) (old new : Option Bytes) (s : State) : State :=
  match new with
  | none => { s with gw.built := tdel s.gw.built i, gw.source := tdel s.gw.source i }
  | some b =>
    let was (role : Nat) : Option Bytes := old.filter fun x => byteAt x 2 == role
    if byteAt b 2 = 1 then
      let x := match was 1, tget? s.gw.built i with
        | some a, some x => if leAt a 4 2 = leAt b 4 2 then x else freshBuilt b
        | _, _ => freshBuilt b
      mirrorPdu i (setBuilt i { x with due := firstDue b s.now, deferred := none }
        { s with gw.source := tdel s.gw.source i })
    else
      let x := sourceOf s i
      let y : SourcePdu := { x with window := s.now, timedOut := false
                                    accepted := if (was 0).isSome then x.accepted else none }
      setSource i y { s with gw.built := tdel s.gw.built i }

/-- A container definition changed or removed by a commit (R284, R318). -/
def contCommitted (c : Nat) (new : Option Bytes) (s : State) : State :=
  match new with
  | none => { s with gw.conts := tdel s.gw.conts c }
  | some _ => setCont c { contOf s c with rxSeq := none } s

/-- An own address takes effect (R291). -/
def ownCommitted (g : Nat) (b : Bytes) (s : State) : State :=
  let sa := byteAt b 1
  let name := leAt b 4 8
  let old := ownAddr s g
  let s := mirror (.ownAddress g sa name) { s with gw.own := tset s.gw.own g (sa, name) }
  let s := if old ≠ 0xFE ∧ sa ≠ old then tpAddressLost g s else s
  if adminUp s g then claimOwn g s else s

/-- The failures suppressed for VERIFY_FAIL of some flows are counted anew (R782; log entry 147). -/
def verifyAnew (of : Nat → Bool) (s : State) : State :=
  { s with cipher.limits := tmap s.cipher.limits fun k l => if of (k / 8) then (l.1, 0) else l }

/-- What a commit brings for one changed object. -/
def objCommitted (e : Nat × Option Bytes × Option Bytes) (s : State) : State :=
  let i := oindex e.1
  let k := okind e.1
  let flowOf (b : Option Bytes) : List Nat := match b with
    | some b => [leAt b 84 2]
    | none => []
  if k = Kind.pdu.code then pduCommitted i e.2.1 e.2.2 s
  else if k = Kind.cont.code then contCommitted i e.2.2 s
  else if k = Kind.tpChannel.code then
    let s := tpChannelChanged i s
    if e.2.2.isNone then setWaiting i [] s else s
  else if k = Kind.ownAddress.code then match e.2.2 with
    | some b => ownCommitted i b s
    | none => s
  else if k = Kind.seqGen.code then
    let x := tget s.switch.seqGens { next := 0, generated := 0 } i
    { s with switch.seqGens := tset s.switch.seqGens i { x with next := 0 } }
  else if k = Kind.recovery.code then
    let x := tget s.switch.recoveries Recovery.fresh i
    { s with switch.recoveries := tset s.switch.recoveries i { x with reset := true, history := [], lastPass := none } }
  else if k = Kind.flow.code then relearn i (verifyAnew (fun f => f == i) s)
  else if k = Kind.prot.code then verifyAnew (fun f => (flowEntry s (currentNum s) f).protIn == i) s
  else if k = Kind.sieve.code then
    (flowOf e.2.1 ++ flowOf e.2.2).eraseDups.foldl (fun s f => relearn f s) s
  else s

/-- A commit of an owner's staging as generation `g` with all it brings (R317, R387, R721). -/
def commitAs (g o : Nat) (s : State) : State :=
  let ch := stagedChanges s o
  let s := commitTables g o (releaseForCommit ch s)
  ch.foldl (fun s e => objCommitted e s) s

/-- A commit of an owner's staging as the next generation (R384). -/
def commitAll (o : Nat) (s : State) : State := commitAs (nextGenNum (currentNum s)) o s

/-- A commit is possible: fewer than 8 generations live, and the 9460 not in Lee (R391, R737). -/
def canCommit (s : State) : Bool := decide (s.tables.gens.length < 8) && !leeRule s

/-- The reply of `TABLE_COMMIT` for the current generation (R388, R436). -/
def commitReply (s : State) : Bytes :=
  le 4 (currentNum s) ++ (match currentGen s with
    | some g => nsSec g.commitAt
    | none => zeros 10) ++ zeros 2

/-- `TABLE_COMMIT` (R387, R388, R391). -/
def tableCommitSpec : CmdSpec :=
  { opcode := 0x0201, change := true, len := lenIs 8
    values := fun c _ => firstOf [c.upto 0 1 1, c.zero 1 3]
    conds := fun c s => firstOf
      [ need (c.u8 0 == 0 || c.u32 4 == currentNum s) stStaleGeneration,
        need ((stagingOf s c.p).isEmpty || decide (s.tables.gens.length < 8)) stBusy ]
    apply := fun c s =>
      let s := if (stagingOf s c.p).isEmpty then s else commitAll c.p s
      (s, commitReply s) }

/-- A frame tagged with a generation remains (R390). -/
def genInUse (s : State) (n : Nat) : Bool :=
  s.switch.held.any (fun e => e.2.frame.gen == n) || s.gw.stalled.any fun f => f.gen == n

/-- A generation that is no longer current retires (R390). -/
def generationRetire (n : Nat) (s : State) : State :=
  if currentNum s = n ∨ genInUse s n then s else retireGen n s

/-! ### J1939 address tracking (R287-R291) -/

/-- The address a NAME holds on a gport in the claim table, 0xFE without one. -/
def claimAddr (s : State) (g name : Nat) : Nat :=
  match s.gw.claims.find? fun e => e.1 / 256 == g && e.2 == name with
  | some e => e.1 % 256
  | none => 0xFE

/-- A route entry of a generation or staging names a binding (R423). -/
def namesBinding (b : Bytes) (i : Nat) : Bool :=
  (bit (byteAt b 1) 1 && leAt b 2 2 == i) || (bit (byteAt b 1) 2 && leAt b 0x10 2 == i)

/-- A route entry with a binding's address in its identifier (R424). -/
def withBinding (b : Bytes) (i a : Nat) : Bytes :=
  let b := if bit (byteAt b 1) 1 && leAt b 2 2 == i then patch b 4 (le 1 a) else b
  if bit (byteAt b 1) 2 && leAt b 0x10 2 == i then patch b 5 (le 1 a) else b

/-- Stage a route entry under the key its new address gives (R289, R389). -/
def moveRoute (o key : Nat) (b : Bytes) (i a : Nat) (s : State) : State :=
  let b' := if a = 0xFE then b else withBinding b i a
  let key' := canEntryKey b'
  if key' = key then stageHashed o .canExact key b' s
  else stageHashed o .canExact key' b' (stageHashedDelete o .canExact key s)

/-- The CAN exact entries of a list of objects that name a binding: key and bytes. -/
def routesOf (objs : List (Nat × Option Bytes)) (i : Nat) : List (Nat × Bytes) :=
  objs.filterMap fun e => match e.2 with
    | some b => if okind e.1 == Kind.canExact.code && namesBinding b i then some (oindex e.1, b) else none
    | none => none

/-- Pair B rewrites what names a binding in an owner's staging (R289, R389). -/
def restage (o i a : Nat) (s : State) : State :=
  let c := stagingOf s o
  let s := match tget? c (okey .bind i) with
    | some (some b) => stage o .bind i (some (patch b 12 (le 1 a))) s
    | _ => s
  (routesOf c i).foldl (fun s e => moveRoute o e.1 e.2 i a s) s

/-- Pair B's own staging of a binding change (R289). -/
def stageFollow (i a : Nat) (s : State) : State :=
  let s := match curObj s .bind i with
    | some b => stage 8 .bind i (some (patch b 12 (le 1 a))) s
    | none => s
  let objs := (currentObjs s).map fun e => (e.1, some e.2)
  let s := (routesOf objs i).foldl (fun s e => moveRoute 8 e.1 e.2 i a s) s
  s.tables.staging.foldl (fun s e => if e.1 = 8 then s else restage e.1 i a s) s

/-- The bindings of a gport whose address the claim table no longer gives: those current wait for Pair B's
commit, those only staged are kept current in their staging (R288, R289). -/
def followBindings (g : Nat) (stamp : Tick) (s : State) : State :=
  let cur := (currentObjs s).filter fun e => okind e.1 == Kind.bind.code && byteAt e.2 2 == g
  let s := cur.foldl (fun s e =>
    let i := oindex e.1
    let name := leAt e.2 4 8
    let new := claimAddr s g name
    let old := match (s.gw.follows.filter fun x => x.binding == i).getLast? with
      | some x => x.new
      | none => byteAt e.2 12
    if new = old then s
    else
      let x : Follow := { binding := i, gport := g, old := old, new := new, name := name, stamp := stamp, deferred := false }
      { s with gw.follows := s.gw.follows ++ [x] }) s
  s.tables.staging.foldl (fun s e => e.2.foldl (fun s c => match c.2 with
    | some b =>
      if okind c.1 == Kind.bind.code && byteAt b 2 == g && byteAt b 12 != claimAddr s g (leAt b 4 8) then
        restage e.1 (oindex c.1) (claimAddr s g (leAt b 4 8)) s
      else s
    | none => s) s) s

/-- The control firmware serves J1939: Pair B runs. -/
def pairBRuns (s : State) : Bool := tsclkRuns s && !s.safety.haltedB && !lbistRuns 1 s

/-- An own address is lost to a lower NAME (R291). -/
def ownLost (g name : Nat) (s : State) : State :=
  tpAddressLost g (mirror (.ownAddress g 0xFE name) { s with gw.own := tset s.gw.own g (0xFE, name) })

/-- Pair B receives the copy of an Address Claimed (`sa` 0 to 253) or Cannot Claim (254) frame (R287-R291). -/
def j1939ClaimRx (g sa name : Nat) (stamp : Tick) (s : State) : State :=
  if !pairBRuns s ∨ !isCan g ∨ !(canOf s g).config.getLsbD 3 then s
  else
    let mine := tget? s.gw.own g
    let without (s : State) : State := { s with gw.claims := tfilter s.gw.claims fun k n => !(k / 256 == g && n == name) }
    let take (s : State) : State :=
      let s := without s
      { s with gw.claims := tset s.gw.claims (256 * g + sa) name }
    let s :=
      if 253 < sa then without s
      else
        let own : Bool := match mine with
          | some (a, _) => a == sa
          | none => false
        match own, mine with
        | true, some (_, n) => if name < n then take (ownLost g n s) else claimOwn g s
        | _, _ =>
          match tget? s.gw.claims (256 * g + sa) with
          | some n => if n < name then s else take s
          | none => take s
    followBindings g stamp s

/-- Pair B commits the binding changes that wait, once a commit is possible (R289, R290). -/
def bindingCommit (s : State) : State :=
  if s.gw.follows.isEmpty ∨ !pairBRuns s then s
  else if !canCommit s then
    s.gw.follows.foldl (fun s x => if x.deferred then s else
      let y : Follow := { x with deferred := true }
      bump (gwCtr 0x01E0) { s with gw.follows := s.gw.follows.map fun z => if z = x then y else z }) s
  else
    let fs := s.gw.follows
    let s := fs.foldl (fun s x => stageFollow x.binding x.new s) { s with gw.follows := [] }
    let s := if (stagingOf s 8).isEmpty then s else commitAll 8 s
    fs.foldl (fun s x =>
      raiseFull 0x0300 0x0105 (le 1 x.gport ++ le 1 x.old ++ le 1 x.new ++ le 1 (b2n x.deferred) ++ le 8 x.name)
        x.stamp false false (bump (gwCtr 0x01D0) s)) s

/-! ### The Maquette (R430-R433) -/

/-- `MAQUETTE_SET`: a partner's own contexts are the one of its number and those it owns (R139, R431). -/
def maquetteSetSpec : CmdSpec :=
  { opcode := 0x0261, change := true, len := lenIs 16
    values := fun c _ => firstOf
      [c.upto 0 1 1, c.upto 1 1 63, c.zero 2 2, c.btw 4 4 10 60000, range (c.u64 8 % 4096 == 0) 8]
    conds := fun c s => need (ctxOwner s (c.u8 1) == some c.p) stDenied
    apply := quiet fun c s => { s with
      tables.maqEnable := c.u8 0 == 1, tables.maqContext := c.u8 1, tables.maqPeriodMs := c.u32 4
      tables.maqBase := c.u64 8, tables.maqOwner := c.p, tables.maqStart := s.now } }

/-- A region's kind, entry length and, where indexed, its entries (R430). -/
def maqRegion (t : Nat) : Kind × Nat × Option Nat :=
  match t with
  | 0 => (.sieve, 88, some 8192)
  | 1 => (.flow, 32, some 16384)
  | 2 => (.fdb, 12, none)
  | 3 => (.canExact, 20, none)
  | 4 => (.canMask, 28, some 1024)
  | 5 => (.lpm, 36, none)
  | 6 => (.map, 16, some 65536)
  | _ => (.pdu, 48, some 16384)

/-- The key of a list region's entry. -/
def maqKey (t : Nat) (b : Bytes) : Nat :=
  match t with
  | 2 => fdbKey (beAt b 0 6) (leAt b 6 2)
  | 3 => canEntryKey b
  | _ => lpmKey (byteAt b 0) (byteAt b 1) (beAt b 4 16)

/-- Two entries of an indexed region agree; a disabled Sieve rule counts only by INDEX and ENABLE (R430). -/
def maqSame (t : Nat) (a b : Bytes) : Bool :=
  if t = 0 ∧ byteAt a 2 = 0 ∧ byteAt b 2 = 0 then slice a 0 2 == slice b 0 2 || a == zeros 88 || b == zeros 88 else a == b

/-- A difference concerns safety (R433). -/
def maqSafety (s : State) (t : Nat) (a b : Bytes) : Bool :=
  if t = 1 then bit (byteAt a 3) 0 || bit (byteAt b 3) 0
  else if t = 0 then flowSafety s (leAt a 84 2) || flowSafety s (leAt b 84 2)
  else false

/-- A difference found: its region, KIND, index and whether it concerns safety. -/
structure MaqDiff where
  t : Nat
  kind : Nat
  index : Nat
  safety : Bool

/-- The differences of a region whose bytes are `d` (R431). -/
def maqCompare (s : State) (t count : Nat) (d : Bytes) : List MaqDiff :=
  let (k, n, size) := maqRegion t
  let entry (i : Nat) : Bytes := slice d (n * i) n
  let count_ (ok : Bool) : List MaqDiff := if ok then [] else [{ t := t, kind := 3, index := 0, safety := false }]
  match size with
  | some m =>
    ((List.range (min m count)).filterMap fun i =>
      let a := (curObj s k i).getD (zeros n)
      if maqSame t a (entry i) then none
      else some { t := t, kind := 1, index := i, safety := maqSafety s t a (entry i) }) ++ count_ (count == m)
  | none =>
    let held := ((currentObjs s).filter fun e => okind e.1 == k.code).length
    ((List.range count).filterMap fun i => match curObj s k (maqKey t (entry i)) with
      | none => some { t := t, kind := 2, index := i, safety := false }
      | some a =>
        if a == entry i then none else some { t := t, kind := 1, index := i, safety := false }) ++ count_ (count == held)

/-- Report a difference; the first 16 of a scan raise events (R433, R734 row 7). -/
def maqReport (e : MaqDiff × Nat) (s : State) : State :=
  let x := e.1
  let s := bump (tblCtr 0x01A0) (setW1c 0x0200 0x0008 9 0 s)
  let s := ledgerAdd 0x0006 0x0200 x.t (if x.safety then 3 else 1) false (le 1 x.t ++ le 1 x.kind ++ le 2 x.index) s
  let s := if e.2 < 16 then
      raiseFull 0x0200 0x0104 (le 1 x.t ++ le 1 x.kind ++ le 2 x.index ++ le 4 (currentNum s)) s.now x.safety true s
    else s
  if x.safety then safetyLee 7 x.t s else safetyE 7 x.t s

/-- A Maquette access faults: DMMU_FAULT (R141). -/
def maqFault (c cause va : Nat) (s : State) : State := dmmuFault 1 c cause va false s

/-- A scan at the start of a PERIOD_MS window (R431, R432). -/
def maquetteScan (s : State) : State :=
  let t := s.tables
  let period := ms (max 1 t.maqPeriodMs)
  if !t.maqEnable ∨ s.now < t.maqStart + period then s
  else
    let s := { s with tables.maqStart := t.maqStart + (s.now - t.maqStart) / period * period }
    let (head, err) := bulkRead s t.maqContext t.maqBase 136
    match err with
    | some e => maqFault t.maqContext e (t.maqBase + head.length) s
    | none =>
      if leAt head 0 4 ≠ currentNum s then { s with tables.maqStale := true }
      else
        let s := { s with tables.maqStale := false }
        let (ds, s) := ((List.range 8).filter fun r => bit (leAt head 4 4) r).foldl
          (fun (a : List MaqDiff × State) r =>
            let o := 8 + 16 * r
            let count := leAt head (o + 8) 4
            let n := (maqRegion r).2.1
            let va := t.maqBase + leAt head o 8
            let (d, err) := bulkRead a.2 t.maqContext va (min count 65536 * n)
            let s := match err with
              | some e => maqFault t.maqContext e (va + d.length) a.2
              | none => a.2
            if err.isSome || (crc32c d).toNat != leAt head (o + 12) 4 then
              (a.1 ++ [{ t := r, kind := 4, index := 0, safety := false }], s)
            else (a.1 ++ maqCompare s r count d, s)) ([], s)
        bump (tblCtr 0x0198) (ds.zipIdx.foldl (fun s e => maqReport e s) s)

end Sys2Proof.Machine
end

