-- ==== Sys2Proof/Machine/SwitchCmds.lean ====
section
/-!
DEFINITION. The opcodes of the switch core (R380, R381) and its events of time: XOFF, FRER, spill, the
scrubber and pause responses.
-/
namespace Sys2Proof.Machine

/-- GPORT at 0 and TC at 1, with zeros after. -/
def portTc (c : Ctx) (lo hi : Nat) : Check := firstOf [c.gport 0 lo hi, c.upto 1 1 7]

/-! ### Accounts and queues -/

/-- `BUF_ACCOUNT_SET` (R340, R341). -/
def bufAccountSetSpec : CmdSpec :=
  { opcode := 0x0101, change := true, len := lenIs 16
    values := fun c _ => firstOf
      [ portTc c 0 55, if c.u8 0 < 38 then c.btw 4 4 1 10000000 else c.zero 4 4, c.upto 8 4 126976, c.zero 14 2 ]
    conds := fun c s =>
      let a := account s (c.u8 0) (c.u8 1)
      need (decide (reserved s - a.res + resWanted s (c.u8 0) (c.u8 1) (c.u32 4) (c.u16 12) ≤ reservable)) stNoRoom
    apply := quiet fun c s =>
      let g := c.u8 0
      let k := c.u8 1
      let a := account s g k
      let s := setAccount g k { a with share := c.u32 8, minCells := c.u16 12, holdUs := c.u32 4, xonGap := c.u16 2 } s
      leaveXoffs (setReservation g k (resWanted s g k (c.u32 4) (c.u16 12)) s) }

/-- Flow control as `BUF_FC_SET` gives it. -/
def fcFrom (s : State) (c : Ctx) : FlowControl :=
  { fcOf s (c.u8 0) with quanta := orDefault (c.u16 2) 0xFFFF, rInit := orDefault (c.u32 4) 10000
                         rMax := orDefault (c.u32 8) 100000 }

/-- `BUF_FC_SET` (R343, R344, R381). -/
def bufFcSetSpec : CmdSpec :=
  { opcode := 0x0102, change := true, len := lenIs 12
    values := fun c _ => firstOf [c.gport 0 38 49, c.zero 1 1, c.btw0 8 4 1000 1000000]
    conds := fun c s =>
      let g := c.u8 0
      let want := headroomFor s g (orDefault (c.u32 4) 10000)
      need ((List.range 8).all fun k => !hasHeadroom s g k || canReserve s (account s g k) want) stNoRoom
    apply := quiet fun c s =>
      let g := c.u8 0
      let x := fcOf s g
      let y := fcFrom s c
      let s := { s with switch.fc := tset s.switch.fc g y }
      if y.rEst = x.rEst then s else recomputePort g s }

/-- `BUF_QUERY`. -/
def bufQuerySpec : CmdSpec :=
  { opcode := 0x0103, change := false, len := lenIs 4
    values := fun c _ => firstOf [portTc c 0 55, c.zero 2 2]
    apply := answer fun c s =>
      let a := account s (c.u8 0) (c.u8 1)
      le 4 a.res ++ le 4 a.share ++ le 4 (a.resUsed + a.sharedUsed) ++ le 4 a.sharedUsed ++ le 1 (b2n a.xoff) ++
        zeros 3 }

/-- `QUEUE_SET` (R350, R352). -/
def queueSetSpec : CmdSpec :=
  { opcode := 0x0104, change := true, len := lenIs 12
    values := fun c _ => firstOf [portTc c 0 55, c.zero 2 2, c.btw 4 4 1 10000000, c.upto 8 4 131072]
    apply := quiet fun c s =>
      let q := { queueCfg s (c.u8 0) (c.u8 1) with limitUs := c.u32 4, maxCells := c.u32 8 }
      { s with switch.queueCfg := tset s.switch.queueCfg (8 * c.u8 0 + c.u8 1) q } }

/-! ### Spill -/

/-- A frame is spilled. -/
def anySpilled (s : State) : Bool := s.switch.queues.any fun e => e.2.any fun r => r.spilled

/-- SPILL_STATE (R382). -/
def spillState (st lost : Nat) (s : State) : State :=
  raiseEvent 0x0100 0x0104 (le 1 st ++ zeros 3 ++ le 4 lost) s

/-- `SPILL_CONFIG` (R334, R337, R381). -/
def spillConfigSpec : CmdSpec :=
  { opcode := 0x0105, change := true, len := lenIs 16
    values := fun c _ => firstOf
      [ c.upto 0 1 1, c.zero 1 3, c.btw 4 4 16 1024, range (c.u64 8 % 2 ^ 21 == 0 && isLpddr (c.u64 8)) 8 ]
    conds := fun c s => firstOf
      [ need (!anySpilled s) stBusy,
        need (decide (lpddrBase + 2 ^ 28 ≤ c.u64 8) && decide (c.u64 8 + c.u32 4 * 2 ^ 20 ≤ lpddrEnd)) stNoRoom ]
    apply := quiet fun c s =>
      let on := c.u8 0 == 1 && s.lpddrUp
      let was := s.switch.spillOn
      let s := { s with switch.spillOn := on, switch.spillMib := c.u32 4, switch.spillBase := c.u64 8
                        switch.spillUsed := 0 }
      if on = was then s else spillState (b2n on) 0 s }

/-- `SPILL_QUEUE` (R334). -/
def spillQueueSpec : CmdSpec :=
  { opcode := 0x0106, change := true, len := lenIs 8
    values := fun c _ => firstOf [portTc c 38 53, c.zero 2 2]
    conds := fun c _ => range (c.u16 4 == 0 || decide (c.u16 6 < c.u16 4)) 6
    apply := quiet fun c s =>
      let q := { queueCfg s (c.u8 0) (c.u8 1) with hi := c.u16 4, lo := c.u16 6 }
      { s with switch.queueCfg := tset s.switch.queueCfg (8 * c.u8 0 + c.u8 1) q } }

/-- The cells of the spill region. -/
def spillCells (s : State) : Nat := s.switch.spillMib * 8192

/-- The first marked frame of a queue is copied to the spill region, or stays for want of room (R335). -/
def spillOut (g c : Nat) (s : State) : State :=
  match (queueOf s g c).find? (fun r => r.mark && !r.spilled) with
  | none => s
  | some r =>
    match heldOf s r.fid with
    | none => s
    | some h =>
      let put (x : Replica) (s : State) : State :=
        setQueue g c ((queueOf s g c).map fun y => if y.fid = r.fid then x else y) s
      if s.switch.spillOn ∧ s.switch.spillUsed + cellsOf h.frame ≤ spillCells s then
        let s := put { r with mark := false, spilled := true } s
        let h' : HeldFrame := { h with res := 0, shared := 0, segs := [] }
        let s := { s with switch.held := tset s.switch.held r.fid h'
                          switch.spillUsed := s.switch.spillUsed + cellsOf h.frame }
        bump (swCtr g 0x80) (returnCells h s)
      else put { r with mark := false } s

/-- The first spilled frame of a queue is read back into new cells, once the queue is down to LO_CELLS;
`bad` for an uncorrectable error on readback (R335, R336). -/
def spillIn (g c : Nat) (bad : Bool) (s : State) : State :=
  match (queueOf s g c).find? (fun r => r.spilled) with
  | none => s
  | some r =>
    match heldOf s r.fid with
    | none => s
    | some h =>
      let n := cellsOf h.frame
      if (queueCfg s g c).lo < queueCells s g c then s
      else if bad then dropQueued g c r 0x90 s
      else if freeCells s < n then s
      else
        match charge s h.src h.cls n h.driven with
        | none => s
        | some (res, shared) =>
          let a := account s h.src h.cls
          let segs := takeFrom s segments n
          let h' : HeldFrame := { h with res := res, shared := shared, segs := segs }
          let s := setAccount h.src h.cls { a with resUsed := a.resUsed + res, sharedUsed := a.sharedUsed + shared } s
          let s := useCells segs true s
          let s := { s with switch.held := tset s.switch.held r.fid h', switch.spillUsed := s.switch.spillUsed - n }
          bump (swCtr g 0x88)
            (setQueue g c ((queueOf s g c).map fun y => if y.fid = r.fid then { y with spilled := false } else y) s)

/-- LPDDR5 becomes unavailable (R24, R337). -/
def lpddrLost (s : State) : State :=
  if !s.lpddrUp then s
  else
    let was := s.switch.spillOn
    let s := { s with lpddrUp := false, switch.spillOn := false }
    let lost := (s.switch.queues.map fun e => (e.2.filter fun r => r.spilled).length).sum
    let s := s.switch.queues.foldl (fun s e =>
      e.2.foldl (fun s r => if r.spilled then dropQueued (e.1 / 8) (e.1 % 8) r 0x90 s else s) s) s
    if was then spillState 2 lost (setW1c 0x0100 0x0000 2 0 s) else s

/-! ### Cut-through, pre-emption and gates -/

/-- The port sends nothing, so a change takes effect now; else at the next frame boundary (R381). -/
def atBoundary (s : State) (g : Nat) : Bool := (tget? s.switch.sending g).isNone

/-- `CUT_THROUGH_SET` (R359, R381). -/
def cutThroughSetSpec : CmdSpec :=
  { opcode := 0x0107, change := true, len := lenIs 4
    values := fun c _ => firstOf [c.gport 0 32 49, c.upto 1 1 1, c.zero 2 2]
    apply := quiet fun c s =>
      let s := { s with switch.cutNext := tset s.switch.cutNext (c.u8 0) (c.u8 1 == 1) }
      if atBoundary s (c.u8 0) then frameBoundary (c.u8 0) s else s }

/-- `PREEMPT_CLASSES` (R369, R381). -/
def preemptClassesSpec : CmdSpec :=
  { opcode := 0x0108, change := true, len := lenIs 4
    values := fun c _ => firstOf [c.gport 0 38 49, c.zero 2 2]
    apply := quiet fun c s =>
      let s := { s with switch.preemptNext := tset s.switch.preemptNext (c.u8 0) (c.u8 1) }
      if atBoundary s (c.u8 0) then frameBoundary (c.u8 0) s else s }

/-- `GATE_LIST_SET` (R361, R363, R381). -/
def gateListSetSpec : CmdSpec :=
  { opcode := 0x0111, change := true
    len := fun ps => decide (1 ≤ leAt ps 2 2) && decide (leAt ps 2 2 ≤ 256) && ps.length == 32 + 8 * leAt ps 2 2
    values := fun c _ => firstOf [c.gport 0 0 49, c.upto 1 1 2, gateListOk c false (c.u16 2)]
    apply := quiet fun c s => setAdminList false (c.u8 0) c.ps s }

/-- `GATE_ENABLE` (R362). -/
def gateEnableSpec : CmdSpec :=
  { opcode := 0x0112, change := true, len := lenIs 4
    values := fun c _ => firstOf [c.gport 0 0 49, c.upto 1 1 1, c.zero 2 2]
    apply := quiet fun c s =>
      setGate false (c.u8 0) { gateOf s false (c.u8 0) with enabled := c.u8 1 == 1 } s }

/-- `GATE_QUERY` (R363). -/
def gateQuerySpec : CmdSpec :=
  { opcode := 0x0113, change := false, len := lenIs 4
    values := fun c _ => firstOf [c.gport 0 0 49, c.upto 1 1 1, c.zero 2 2]
    apply := answer fun c s =>
      let g := gateOf s false (c.u8 0)
      match if c.u8 1 = 0 then g.oper else g.admin with
      | some l => l.raw
      | none => [] }

/-! ### Replication and FRER -/

/-- `REPL_SET` (R358). -/
def replSetSpec : CmdSpec :=
  { opcode := 0x0121, change := true, len := lenIs 12
    values := fun c _ => firstOf [c.upto 0 2 4095, c.zero 2 2, range (decide (c.u64 4 < 2 ^ 56)) 4]
    conds := stageConds .repl 0 2
    apply := stageParams .repl 0 2 }

/-- `REPL_QUERY`. -/
def replQuerySpec : CmdSpec :=
  { opcode := 0x0122, change := false, len := lenIs 4
    values := fun c _ => firstOf [c.upto 0 2 4095, c.zero 2 2]
    apply := answer fun c s => le 8 (replMask (currentObjs s) (c.u16 0)) }

/-- `FRER_SEQGEN_SET` (R374). -/
def frerSeqgenSetSpec : CmdSpec :=
  { opcode := 0x0131, change := true, len := lenIs 4
    values := fun c _ => firstOf [c.upto 0 2 1023, c.upto 2 1 1, c.zero 3 1]
    conds := stageConds .seqGen 0 2
    apply := stageParams .seqGen 0 2 }

/-- `FRER_RECOVERY_SET` (R375). -/
def frerRecoverySetSpec : CmdSpec :=
  { opcode := 0x0132, change := true, len := lenIs 8
    values := fun c _ => firstOf
      [ c.upto 0 2 1023, c.upto 2 1 1, c.btw 3 1 2 32, c.btw 4 2 1 65535, c.upto 6 1 3, c.zero 7 1 ]
    conds := stageConds .recovery 0 2
    apply := stageParams .recovery 0 2 }

/-- `FRER_QUERY`. -/
def frerQuerySpec : CmdSpec :=
  { opcode := 0x0133, change := false, len := lenIs 4
    values := fun c _ => firstOf [c.upto 0 1 1, c.zero 1 1, c.upto 2 2 1023]
    apply := answer fun c s =>
      if c.u8 0 = 0 then
        let x := tget s.switch.seqGens { next := 0, generated := 0 } (c.u16 2)
        le 2 x.next ++ zeros 2 ++ le 8 x.generated.toNat
      else
        let x := tget s.switch.recoveries Recovery.fresh (c.u16 2)
        le 2 x.seq ++ zeros 2 ++ le 8 x.passed.toNat ++ le 8 x.discarded.toNat ++ le 8 x.rogue.toNat ++
          le 8 x.lost.toNat ++ le 8 x.tagless.toNat ++ le 8 x.resets.toNat }

/-- `FRER_RESET` (R375). -/
def frerResetSpec : CmdSpec :=
  { opcode := 0x0134, change := true, len := lenIs 4
    values := fun c _ => firstOf [c.upto 0 2 1023, c.zero 2 2]
    apply := quiet fun c s => resetRecovery (c.u16 0) 2 s.now s }

/-- `SW_COUNTERS` (R379). -/
def swCountersSpec : CmdSpec :=
  { opcode := 0x0141, change := false, len := lenIs 4
    values := fun c _ => firstOf [c.gport 0 0 55, c.zero 1 3]
    apply := answer fun c s => counterBlock s (swCtr (c.u8 0) 0) 20 }

/-! ### Events -/

/-- The RESET_MS window of a recovery function ends without a passed frame (R375). -/
def frerTimer (i : Nat) (s : State) : State :=
  match curObj s .recovery i with
  | none => s
  | some b => match recoveryDue b (tget s.switch.recoveries Recovery.fresh i) s.now with
    | some e => resetRecovery i 1 e s
    | none => s

/-- While XOFF lasts its frame is ordered again every QUANTA × quantum / 2 (R342). -/
def pfcRefresh (g c : Nat) (s : State) : State :=
  let a := account s g c
  let q := (fcOf s g).quanta
  if a.xoff ∧ fcMode s g ≠ 0 ∧ a.ordered + bitTicks (256 * q) (speedRate (ethOf s g).speed) ≤ s.now then
    orderPause g c q false (setAccount g c { a with ordered := s.now } s)
  else s

/-- The response window of an XOFF ends: its sample is taken (R344). -/
def pauseWindowOver (g : Nat) (s : State) : State :=
  let x := fcOf s g
  match x.probe with
  | some (t, cl, last, false) =>
    if t + nsTick x.rMax ≤ s.now then
      let y : FlowControl := { x with probe := some (t, cl, last, true) }
      let s := { s with switch.fc := tset s.switch.fc g y }
      match last with
      | some l => addSample g (2 * (l - t)) s
      | none => s
    else s
  | _ => s

/-- A frame of a paused scope arrives (R344). -/
def pauseSeen (g c : Nat) (stamp : Tick) (s : State) : State :=
  let x := fcOf s g
  match x.probe with
  | none => s
  | some (t, cl, last, ended) =>
    let on := (List.range 8).any fun k => cl.testBit k && (account s g k).xoff
    if !cl.testBit c ∨ !on ∨ stamp < t then s
    else if stamp < t + nsTick x.rMax then
      if ended then s
      else
        let y : FlowControl := { x with probe := some (t, cl, some (max stamp (last.getD 0)), false) }
        { s with switch.fc := tset s.switch.fc g y }
    else
      let y : FlowControl := { x with probe := none }
      let s := { s with switch.fc := tset s.switch.fc g y }
      let s := setW1c 0x0100 (0x0800 + 8 * g) 8 g s
      let s := raiseFull 0x0100 0x0102 (le 1 g ++ le 1 cl ++ zeros 2 ++ le 4 (nsOf t)) stamp false false s
      addSample g x.rMax s

/-- The scrubber reads a cell: `kind` 0 good, 1 corrected, 2 uncorrectable; the held frame it belongs to,
if any, and whether that frame is being sent and the cell not yet read (R332, R371). -/
def eccScrub (cell kind : Nat) (fid : Option Nat) (unsent : Bool) (s : State) : State :=
  if kind = 1 then { s with switch.eccCorr := satAdd 0xFFFF s.switch.eccCorr 1 }
  else if kind = 2 then
    let s := setW1c 0x0100 0x0010 16 cell s
    match fid with
    | some i =>
      match heldOf s i with
      | none => s
      | some h =>
        let s := { s with switch.held := tset s.switch.held i { h with faulted := true } }
        let s := if (frameFlow s h.frame).safety then safetyLee 6 cell s else safetyE 6 cell s
        if unsent then
          (s.switch.sending.filter fun e => e.2.fid == i && isEth e.1).foldl (fun s e => stomp e.1 (some 1) s) s
        else s
    | none =>
      if cell < 131072 ∧ !s.switch.retired.contains cell then
        safetyE 6 cell (ledgerAdd 0x0003 0x0100 (cell % 65536) 1 false (le 8 cell)
          { s with switch.retired := s.switch.retired ++ [cell] })
      else s
  else s

end Sys2Proof.Machine
end

