-- ==== Sys2Proof/Machine/TimeCmds.lean ====
section
/-!
DEFINITION. The commands of the time unit (R529, R530) and its events: domains, legal time, captures,
compare outputs and motion plausibility (R493-R526).
-/
namespace Sys2Proof.Machine

/-- `TIME_QUERY`. -/
def timeQuerySpec : CmdSpec :=
  { opcode := 0x0501, change := false, len := lenIs 0
    apply := answer fun _ s =>
      let dom (d : Nat) : Bytes :=
        let x := domain s d
        let v := (x.at_ s.it).toNat / nsFine
        le 1 x.state.code ++ zeros 3 ++ le 4 (v % 1000000000) ++ le 6 (v / 1000000000) ++ zeros 2 ++
          leSigned 4 x.rr ++ leSigned 4 x.offset
      le 4 (s.it / nsFine % 1000000000) ++ le 6 (s.it / nsFine / 1000000000) ++ zeros 2 ++
        leSigned 4 s.rateAdj ++ dom 0 ++ dom 1 ++ le 8 (legalMs s) ++ le 1 (legalFlags s) ++ zeros 1 ++
        le 1 s.time.ref ++ zeros 1 ++ le 4 (slewLeft s / msFine) }

/-- The bits of gports `lo` to `hi`. -/
def gportBits (lo hi : Nat) : Nat := 2 ^ (hi + 1) - 2 ^ lo

/-- `TIME_DOMAIN_SET` (R493, R530). -/
def timeDomainSetSpec : CmdSpec :=
  { opcode := 0x0502, change := true, len := lenIs 32
    values := fun c _ => firstOf
      [ c.upto 0 1 1, c.upto 1 1 1, c.upto 2 1 127,
        range ((c.u64 4 &&& gportBits 32 49) == c.u64 4) 4, c.btw0 12 4 100 1000000000, c.btw0 16 4 10 100000, c.btw 20 2 100 10000,
        range (c.u8 22 == 0 || decide (0xFB ≤ c.u8 22)) 22, c.upto 23 1 3 ]
    conds := fun c _ => range ((c.u64 4 &&& gportBits 32 37) == 0 || c.u8 23 != 0) 4
    apply := quiet fun c s =>
      let d := c.u8 0
      let x : Domain := { domain s d with raw := c.ps, grandmaster := false, good := 0 }
      if c.u8 1 = 0 then
        setDomState d .disabled (setDomain d
          { x with anchor := s.it, value := Int.ofNat s.it, rr := 0, identity := true, utc := none, leap := 0 } s)
      else
        let x := if x.state = .disabled then { x with anchor := s.it, value := Int.ofNat s.it, rr := 0 } else x
        setDomState d .acquiring (setDomain d x s) }

/-- `TIME_REF_SELECT` (R496). -/
def timeRefSelectSpec : CmdSpec :=
  { opcode := 0x0503, change := true, len := lenIs 4
    values := fun c _ => firstOf [c.upto 0 1 3, c.zero 1 3]
    apply := quiet fun c s => selectRef 2 { s with time.refMode := c.u8 0 } }

/-- `TIME_RTC_SET` (R502). -/
def timeRtcSetSpec : CmdSpec :=
  { opcode := 0x0504, change := true, len := lenIs 16
    values := fun c _ => firstOf ([0, 4, 8, 12].flatMap fun o =>
      [c.upto (o + 1) 1 2, c.upto (o + 2) 1 1, c.zero (o + 3) 1])
    apply := quiet fun c s => { s with time.rtc := c.ps } }

/-! ### Legal time (R508-R516) -/

/-- `LEGAL_SOURCE_SET` fields. -/
def legalStepMax (s : State) : Nat := orDefault (leAt s.time.legalCfg 4 4) 1000
def legalDayMax (s : State) : Nat := orDefault (leAt s.time.legalCfg 8 4) 10000
def legalCheckS (s : State) : Nat := orDefault (leAt s.time.legalCfg 12 2) 60

/-- `LEGAL_SOURCE_SET`. -/
def legalSourceSetSpec : CmdSpec :=
  { opcode := 0x0511, change := true, service := true, modes := some [.atelier], len := lenIs 16
    values := fun c _ => firstOf
      [ c.upto 0 1 2, c.zero 2 2, c.btw0 4 4 1 60000, c.btw0 8 4 1 600000, c.btw0 12 2 10 3600,
        c.zero 14 2 ]
    apply := quiet fun c s => { s with time.legalCfg := c.ps } }

/-- A proposal `p` in units of 2⁻³² ns by a source 0 to 9 is decided (R511-R513): OUTCOME, REASON and
DELTA_MS of R529. -/
def proposeLegal (p src : Nat) (s : State) : (Nat × Nat × Int) × State :=
  let t : Int := Int.ofNat (legalFine s) - Int.ofNat (slewLeft s)
  let delta : Int := Int.ofNat p - t
  let abs := delta.natAbs
  let deltaMs : Int := delta.tdiv (Int.ofNat msFine)
  let absMs := (abs + msFine - 1) / msFine
  let used := dayUsed s
  let allowed := if src < 8 then bit (byteAt s.time.legalCfg 1) src
    else byteAt s.time.legalCfg 0 == src - 7
  let refused (reason : Nat) : (Nat × Nat × Int) × State :=
    let s := bump (timeCtr 0x0140) (setW1c 0x0500 0 10 src s)
    let s := raiseEvent 0x0500 0x0105 (le 1 reason ++ le 1 src ++ zeros 2 ++ leSigned 8 deltaMs) s
    ((4, reason, deltaMs),
      sealQueue 0x0031 (le 8 (p / msFine) ++ le 8 (t.toNat / msFine) ++ le 1 src ++ le 1 reason) s)
  let accepted (outcome legal slew : Nat) (restore : Bool) : (Nat × Nat × Int) × State :=
    let old := legalMs s
    let day := legalDay (p / msFine)
    let s := setLegal legal slew s
    let s := { s with time.valid := s.time.valid || restore
                      time.uncertain := s.time.uncertain && !restore
                      time.dayUsed := (if day = legalDay old then used else 0) + absMs
                      time.day := day }
    let s := bump (timeCtr 0x0138) s
    let s := raiseEvent 0x0500 0x0104 (le 1 outcome ++ le 1 src ++ zeros 2 ++ leSigned 8 deltaMs) s
    let s := sealQueue 0x0030 (le 8 old ++ le 8 (p / msFine) ++ le 1 outcome ++ le 1 src) s
    ((outcome, 0, deltaMs), writeFloor s)
  if !allowed then refused 4
  else if s.time.valid = false then
    if p / msFine < monoValue s mcFloor then refused 3 else accepted 3 p 0 true
  else if abs < msFine then ((0, 0, deltaMs), s)
  else if legalStepMax s * msFine < abs then refused 1
  else if legalDayMax s < used + absMs then refused 2
  else if 0 < delta then accepted 1 (legalFine s + abs) (slewLeft s) false
  else accepted 2 (legalFine s) (slewLeft s + abs) false

/-- `LEGAL_TIME_PROPOSE`. -/
def legalTimeProposeSpec : CmdSpec :=
  { opcode := 0x0512, change := true, len := lenIs 8
    apply := fun c s =>
      let (r, s) := proposeLegal (c.u64 0 * msFine) c.p s
      (s, le 1 r.1 ++ le 1 r.2.1 ++ zeros 2 ++ leSigned 8 r.2.2 ++ zeros 4) }

/-- `LEGAL_TIME_FORCE` (R516). -/
def legalTimeForceSpec : CmdSpec :=
  { opcode := 0x0513, change := true, service := true, modes := some [.atelier], len := lenIs 12
    apply := quiet fun c s =>
      let old := legalMs s
      let s := setLegal (c.u64 0 * msFine) 0 s
      let s := { s with time.valid := true, time.uncertain := false }
      let s := bump (timeCtr 0x0148) (setW1c 0x0500 0 11 c.p s)
      let s := raiseEvent 0x0500 0x0104
        (le 1 5 ++ le 1 c.p ++ zeros 2 ++ leSigned 8 (Int.ofNat (c.u64 0) - Int.ofNat old)) s
      writeFloor (sealQueue 0x0030
        (le 8 old ++ le 8 (c.u64 0) ++ le 1 5 ++ le 1 c.p ++ le 4 (c.u32 8)) s) }

/-- Pair B proposes the source domain's time (R510). -/
def legalCheck (s : State) : State :=
  let src := byteAt s.time.legalCfg 0
  if src = 0 ∨ s.now < s.time.lastCheck + legalCheckS s * ticksPerSec then s
  else
    let s := { s with time.lastCheck := s.now }
    let x := domain s (src - 1)
    match x.state, x.utc with
    | .locked, some off =>
      (proposeLegal (x.at_ s.it - off * 1000000000 * Int.ofNat nsFine).toNat (src + 7) s).2
    | _, _ => s

/-- The floor at a whole minute of legal time (R509). -/
def legalFloorWrite (s : State) : State :=
  if monoValue s mcFloor / 60000 < legalMs s / 60000 then writeFloor s else s

/-- An announced leap second is applied at the end of the UTC day (R515). -/
def leapSecond (s : State) : State :=
  let src := byteAt s.time.legalCfg 0
  let x := domain s (src - 1)
  let v := legalMs s
  let record (old new : Nat) (delta : Int) (s : State) : State :=
    sealQueue 0x0030 (le 8 old ++ le 8 new ++ le 1 4 ++ le 1 (src + 7))
      (raiseEvent 0x0500 0x0104 (le 1 4 ++ le 1 (src + 7) ++ zeros 2 ++ leSigned 8 delta) s)
  if src = 0 then s
  else if x.leap = 1 ∧ v % 86400000 < 1000 ∧ s.time.leapDay ≠ legalDay v then
    record v v (-1000)
      (setDomain (src - 1) { x with leap := 0 }
        { s with time.legal := legalFine s, time.slew := slewLeft s
                 time.legalAnchor := s.it + 1000 * msFine, time.leapDay := legalDay v })
  else if x.leap = -1 ∧ 86399000 ≤ v % 86400000 ∧ s.time.leapDay ≠ legalDay v + 1 then
    record v (v + 1000) 1000
      (setDomain (src - 1) { x with leap := 0 }
        { setLegal (legalFine s + 1000 * msFine) (slewLeft s) s with time.leapDay := legalDay v + 1 })
  else s

/-- A slew has been absorbed (R514): the closed form is taken afresh. -/
def slewAbsorbed (s : State) : State :=
  if 0 < s.time.slew ∧ slewLeft s = 0 then setLegal (legalFine s) 0 s else s

/-! ### Domains (R493-R496) -/

/-- A Sync received in domain `d`: the IT instant of its ingress stamp by device clock, the
grandmaster's time there, and what Pair B's servo makes of it (R494, R486). -/
def syncRx (d : Nat) (stamp : Tick) (master rr adj : Int) (utc : Option Int) (leap : Int) (s : State) :
    State :=
  let x := domain s d
  if x.state = .disabled ∨ x.grandmaster then s
  else
    let itIn := s.it - (s.clk - stamp) * itStep s
    let err := master - x.at_ itIn
    let errNs := err.natAbs / nsFine
    let step := decide (x.stepNs * nsFine < err.natAbs)
    let rr' := max (-(2 ^ 31)) (min (2 ^ 31 - 1) rr)
    let v := x.at_ s.it + if step then err else 0
    let good := if errNs ≤ x.lockNs then x.good + 1 else 0
    let locks := x.state != .locked && decide (4 ≤ good)
    let y : Domain :=
      { x with anchor := s.it, value := v, rr := rr', good := good, lastSync := s.now,
               offset := err.tdiv (Int.ofNat nsFine), utc := utc, leap := leap,
               identity := x.identity && !locks }
    let s := setDomain d y s
    let s := if step then domainStep d err s
      else if locks && x.identity then domainStep d 0 s else s
    let s := if locks then setDomState d .locked s else s
    if s.time.ref = d + 1 then steer adj s else s

/-- A LOCKED domain received no Sync in its window (R493). -/
def syncTimeout (d : Nat) (s : State) : State :=
  let x := domain s d
  if x.state = .locked ∧ x.grandmaster = false ∧ x.lastSync + ms x.timeoutMs ≤ s.now then
    setDomState d .holdover s
  else s

/-- The grandmaster of domain `d` is elected: the 9460 itself or another clock (R493, R495). -/
def grandmasterElected (d : Nat) (self : Bool) (s : State) : State :=
  let x := domain s d
  if x.state = .disabled then s
  else if self && x.gmCapable then
    let v : Int := Int.ofNat (x.gmEpoch * 1000000000 * nsFine + s.it)
    let by_ := v - x.at_ s.it
    let moved := x.identity || decide (x.stepNs * nsFine < by_.natAbs)
    let s := setDomain d
      { x with grandmaster := true, anchor := s.it, value := v, rr := 0, identity := false, offset := 0 } s
    let s := if moved then domainStep d by_ s else s
    setDomState d .locked s
  else if !self && x.grandmaster then setDomain d { x with grandmaster := false, lastSync := s.now } s
  else s

/-- The path delay of a gPTP port is measured (R491). -/
def pathDelayMeasured (g ns : Nat) (s : State) : State :=
  if isXg g || isGe g then { s with time.pathDelay := tset s.time.pathDelay g ns } else s

/-! ### Latching reads (R490) -/

/-- A read of `TIME_IT_NS` by a reader. -/
def readItNs (reader : Nat) (s : State) : Nat × State :=
  (s.it / nsFine % 1000000000,
    { s with time.secLatch := tset s.time.secLatch reader (s.it / nsFine / 1000000000) })

/-- A read of `TIME_LEGAL_LO` by a reader. -/
def readLegalLo (reader : Nat) (s : State) : Nat × State :=
  (legalMs s % 2 ^ 32,
    { s with time.legalLatch := tset s.time.legalLatch reader (legalMs s / 2 ^ 32) })

/-! ### Captures and compare outputs (R517-R522) -/

/-- `TCAP_SET`. -/
def tcapSetSpec : CmdSpec :=
  { opcode := 0x0521, change := true, len := lenIs 4
    values := fun c _ => firstOf [c.upto 0 1 15, c.upto 1 1 3, c.upto 2 1 1, c.zero 3 1]
    apply := quiet fun c s =>
      let x := tget s.time.captures { edge := 0, event := false, count := 0, history := [] } (c.u8 0)
      { s with time.captures := tset s.time.captures (c.u8 0) { x with edge := c.u8 1, event := c.u8 2 == 1 } } }

/-- A capture input. -/
def captureOf (s : State) (n : Nat) : Capture :=
  tget s.time.captures { edge := 0, event := false, count := 0, history := [] } n

/-- `TCAP_QUERY`: records not captured read zero (DESIGN CHOICE, log entry 24). -/
def tcapQuerySpec : CmdSpec :=
  { opcode := 0x0522, change := false, len := lenIs 4
    values := fun c _ => firstOf [c.upto 0 1 15, c.zero 1 3]
    apply := answer fun c s =>
      let x := captureOf s (c.u8 0)
      le 4 x.count.toNat ++ padTo 192 (x.history.flatMap fun e =>
        le 4 (nsOf e.1) ++ le 6 (secOf e.1) ++ le 1 e.2 ++ zeros 1) }

/-- An edge (1 rising, 2 falling) on a capture input (R517, R518). -/
def tcapEdge (n edge : Nat) (s : State) : State :=
  let x := captureOf s n
  if 15 < n ∨ !(x.edge == 3 || x.edge == edge) then s
  else if (match x.history with
      | e :: _ => inWindow s.now e.1 8
      | [] => false) then bump (timeCtr 0x0158) (setW1c 0x0500 0 13 n s)
  else
    let x' := { x with count := x.count + 1, history := ((s.now, edge) :: x.history).take 16 }
    let s := bump (timeCtr 0x0150) { s with time.captures := tset s.time.captures n x' }
    if x.event then raiseEvent 0x0500 0x0106 (le 1 n ++ le 1 edge) s else s

/-- A compare output never set. -/
def Compare.off : Compare := { raw := [], next := none, start := 0, active := false }

/-- Fields of `TCMP_SET`. -/
def Compare.mode (x : Compare) : Nat := byteAt x.raw 1
def Compare.clock (x : Compare) : Nat := byteAt x.raw 2
def Compare.startNs (x : Compare) : Nat := leAt x.raw 4 4 + 1000000000 * leAt x.raw 8 6
def Compare.period (x : Compare) : Nat := leAt x.raw 16 4
def Compare.width (x : Compare) : Tick := nsTick (leAt x.raw 20 4)

/-- `TCMP_SET` (R519-R521). -/
def tcmpSetSpec : CmdSpec :=
  { opcode := 0x0531, change := true, len := lenIs 32
    values := fun c _ => firstOf
      [ c.upto 0 1 7, c.upto 1 1 3, c.upto 2 1 2, c.upto 3 1 3, c.upto 4 4 999999999, c.zero 14 2,
        c.btw 16 4 1000 1000000000, range (decide (8 ≤ c.u32 20)) 20, c.zero 24 8 ]
    conds := fun c s =>
      let x : Compare := { Compare.off with raw := c.ps }
      firstOf
        [ range (!(x.mode == 1 || x.mode == 3) || decide (s.now + us 10 ≤ clockTick s x.clock x.startNs)) 4,
          range (within (c.u32 20) 8 (c.u32 16 - 8)) 20 ]
    apply := quiet fun c s =>
      let x : Compare := { Compare.off with raw := c.ps }
      let next : Option (Tick × Bool) := match x.mode with
        | 0 => none
        | 2 => some (firstStart s x.clock x.startNs x.period (s.now + us 10), true)
        | _ => some (clockTick s x.clock x.startNs, true)
      { s with time.compares := tset s.time.compares (c.u8 0) { x with next := next } } }

/-- A compare output reaches its next edge (R519, R520): a start on a domain's clock is judged under
the mapping in force. -/
def tcmpEdge (n : Nat) (s : State) : State :=
  let x := tget s.time.compares Compare.off n
  match x.next with
  | none => s
  | some (tk, act) =>
    let due := if act && x.mode != 2 then clockTick s x.clock x.startNs else tk
    if s.now < due then s
    else
      let next : Option (Tick × Bool) :=
        match x.mode, act with
        | 1, true => some (due + x.width, false)
        | 2, true => some (due + x.width, false)
        | 2, false =>
          some (firstStart s x.clock x.startNs x.period (x.start + nsTick x.period / 2), true)
        | _, _ => none
      let y : Compare := { x with next := next, active := act, start := if act then due else x.start }
      bump (timeCtr 0x0160) { s with time.compares := tset s.time.compares n y }

/-! ### Motion (R523-R526) -/

/-- A pulse input never set. -/
def Pulse.off : Pulse := { raw := [], edges := 0, first := 0, last := 0, prev := none, latest := none }

/-- A field source never set. -/
def FieldSource.off : FieldSource := { raw := [], value := 0, seen := none }

/-- A pair never set. -/
def Pair.off : Pair :=
  { raw := [], episode := false, failing := false, run := 0, runStart := 0, since := 0, maxDev := 0 }

/-- `MOTION_INPUT_SET`. -/
def motionInputSetSpec : CmdSpec :=
  { opcode := 0x0541, change := true, len := lenIs 8
    values := fun c _ => firstOf
      [ c.upto 0 1 1, c.btw 1 1 1 2, c.btw 2 2 100 65535, c.btw0 4 2 1 1000, c.btw0 6 2 200 5000 ]
    apply := quiet fun c s =>
      { s with time.pulses := tset s.time.pulses (c.u8 0) { tget s.time.pulses Pulse.off (c.u8 0) with raw := c.ps } } }

/-- `MOTION_SOURCE_SET`. -/
def motionSourceSetSpec : CmdSpec :=
  { opcode := 0x0542, change := true, len := lenIs 20
    values := fun c _ => firstOf
      [ c.btw 0 1 2 3, c.upto 1 1 3, c.upto 2 2 16383, c.btw 6 1 1 32, c.zero 7 1,
        c.btw 16 2 10 10000, c.zero 18 2 ]
    apply := quiet fun c s =>
      { s with time.fields := tset s.time.fields (c.u8 0) { FieldSource.off with raw := c.ps } } }

/-- A PDU-field source is enabled. -/
def fieldEnabled (s : State) (i : Nat) : Bool :=
  bit (byteAt (tget s.time.fields FieldSource.off i).raw 1) 0

/-- `MOTION_PAIR_SET` (R530). -/
def motionPairSetSpec : CmdSpec :=
  { opcode := 0x0543, change := true, len := lenIs 12
    values := fun c _ => firstOf
      [ c.upto 0 1 3, c.upto 1 1 3, c.upto 2 1 3, c.upto 3 1 1, c.btw 4 2 1 1000, c.upto 6 1 50,
        c.zero 7 1, range (within (c.u32 8) 100 600000 && c.u32 8 % 100 == 0) 8 ]
    conds := fun c s => firstOf
      [ range (decide (c.u8 1 < 2) || fieldEnabled s (c.u8 1)) 1,
        range (c.u8 1 != c.u8 2 && (decide (c.u8 2 < 2) || fieldEnabled s (c.u8 2))) 2 ]
    apply := quiet fun c s =>
      { s with time.pairs := tset s.time.pairs (c.u8 0) { Pair.off with raw := c.ps } } }

/-- A speed held in 10⁻⁶ km/h in units of 0.01 km/h, at most 65,535. -/
def ckmh (v : Nat) : Nat := min 65535 (v / 10000)

/-- A source's speed and presence at the last window's end. -/
def speedOf (s : State) (i : Nat) : Nat × Bool := s.time.speeds.getD i (0, false)

/-- `MOTION_QUERY`. -/
def motionQuerySpec : CmdSpec :=
  { opcode := 0x0544, change := false, len := lenIs 0
    apply := answer fun _ s =>
      ([0, 1, 2, 3].flatMap fun i => le 2 (ckmh (speedOf s i).1) ++ le 1 (b2n (speedOf s i).2) ++ zeros 1) ++
        [0, 1, 2, 3].flatMap fun i =>
          let x := tget s.time.pairs Pair.off i
          let st := if byteAt x.raw 3 = 0 then 0 else if x.episode then 3
            else if x.failing && decide (0 < x.run) then 2 else 1
          le 1 st ++ zeros 1 ++ le 2 (min 65535 x.run) ++ le 2 (ckmh x.maxDev) ++ zeros 2 }

/-- `TIME_COUNTERS`. -/
def timeCountersSpec : CmdSpec :=
  { opcode := 0x0551, change := false, len := lenIs 0
    apply := answer fun _ s => counterBlock s (timeCtr 0x0100) 15 }

/-- A filtered edge (1 rising, 2 falling) on MPUL0 or MPUL1 (R523). -/
def mpulEdge (i edge : Nat) (s : State) : State :=
  let x := tget s.time.pulses Pulse.off i
  if 1 < i ∨ byteAt x.raw 1 ≠ edge ∨ edge = 0 then s
  else
    let y : Pulse :=
      { x with edges := x.edges + 1, first := if x.edges = 0 then s.now else x.first, last := s.now
               prev := x.latest, latest := some s.now }
    { s with time.pulses := tset s.time.pulses i y }

/-- The speed of a pulse input in 10⁻⁶ km/h at a window's end (R523). -/
def pulseSpeed (x : Pulse) (fin : Tick) : Nat :=
  let k := leAt x.raw 2 2
  if 2 ≤ x.edges then (x.edges - 1) * (36 * 10 ^ 17) / (k * (2 * (x.last - x.first)))
  else match x.prev, x.latest with
    | some a, some b =>
      if fin < b + ms (orDefault (leAt x.raw 6 2) 1000) then 36 * 10 ^ 17 / (k * (2 * (b - a))) else 0
    | _, _ => 0

/-- The speed and presence of a PDU-field source at a window's end (R524). -/
def fieldSpeed (x : FieldSource) (fin : Tick) : Nat × Bool :=
  let fresh := match x.seen with
    | some t => decide (fin ≤ t + ms (leAt x.raw 16 2))
    | none => false
  (x.value * leAt x.raw 8 4 * 1000000 / 65536,
    bit (byteAt x.raw 1) 0 && decide (x.value ≤ leAt x.raw 12 4) && fresh)

/-- The result of a pair at a window's end (R525): `none` skipped, `some true` fails. -/
def pairFails (x : Pair) (a b : Nat × Bool) : Option Bool :=
  if !a.2 && !b.2 then none
  else if !a.2 then (if b.1 ≤ 5000000 then none else some true)
  else if !b.2 then (if a.1 ≤ 5000000 then none else some true)
  else
    some (decide (max (leAt x.raw 4 2 * 10000000) (byteAt x.raw 6 * max a.1 b.1) < 100 * dist a.1 b.1))
where
  /-- The distance of two numbers. -/
  dist (a b : Nat) : Nat := if a ≤ b then b - a else a - b

/-- MOTION_DISAGREE of a pair, and its sealed record (R526, R531). -/
def motionDisagree (p phase va vb dur : Nat) (s : State) : State :=
  let s := raiseEvent 0x0500 0x0107
    (le 1 p ++ le 1 phase ++ zeros 2 ++ le 2 (ckmh va) ++ le 2 (ckmh vb) ++ le 4 dur) s
  sealQueue 0x0032 (le 1 p ++ le 1 phase ++ le 2 (ckmh va) ++ le 2 (ckmh vb) ++ le 4 dur) s

/-- One pair is evaluated for the window [a, a + 100 ms) (R525, R526). -/
def evalPair (p : Nat) (a : Tick) (s : State) : State :=
  let x := tget s.time.pairs Pair.off p
  if byteAt x.raw 3 = 0 then s
  else
    let va := speedOf s (byteAt x.raw 1)
    let vb := speedOf s (byteAt x.raw 2)
    match pairFails x va vb with
    | none => s
    | some f =>
      let n := leAt x.raw 8 4 / 100
      let s := if f then bump (timeCtr 0x0168) s else s
      let y := if x.failing = f ∧ 0 < x.run then { x with run := x.run + 1 }
        else { x with failing := f, run := 1, runStart := a }
      let y := { y with maxDev := max y.maxDev (pairFails.dist va.1 vb.1) }
      let put (y : Pair) (s : State) : State := { s with time.pairs := tset s.time.pairs p y }
      if f && !y.episode && decide (n ≤ y.run) then
        let s := put { y with episode := true, since := y.runStart } s
        motionDisagree p 1 va.1 vb.1 0 (bump (timeCtr 0x0170) (setW1c 0x0500 0 12 p s))
      else if !f && y.episode && decide (n ≤ y.run) then
        motionDisagree p 2 va.1 vb.1 ((y.runStart - y.since) / 500000) (put { y with episode := false } s)
      else put y s

/-- The end of a 100 ms window (R523-R526). -/
def motionWindow (s : State) : State :=
  let a := s.time.motionEnd
  let fin := a + ms 100
  if s.now < fin then s
  else
    let p0 := tget s.time.pulses Pulse.off 0
    let p1 := tget s.time.pulses Pulse.off 1
    let speeds :=
      [ (pulseSpeed p0 fin, true), (pulseSpeed p1 fin, true),
        fieldSpeed (tget s.time.fields FieldSource.off 2) fin,
        fieldSpeed (tget s.time.fields FieldSource.off 3) fin ]
    let s := { s with time.speeds := speeds
                      time.motionEnd := fin
                      time.pulses := tmap s.time.pulses fun _ x => { x with edges := 0 } }
    [0, 1, 2, 3].foldl (fun s p => evalPair p a s) s

end Sys2Proof.Machine
end

