-- ==== Sys2Proof/Machine/RxOps.lean ====
section
/-!
DEFINITION. Ingress: the path of a frame from its classification to its admission (R25-R30), what the
CAN, LIN and Ethernet ports do with what their medium brings (R182-R222), and the ports' events of time.
-/
namespace Sys2Proof.Machine

/-- A gport is a ring port of an enabled consent ring (R660). -/
def ringPort (s : State) (g : Nat) : Bool := s.sleep.st != .off && bit (leAt s.sleep.raw 4 8) g

/-- RX_OK on a port is valid communication in every false-wake window of the port, and in all of them on a
ring port (R686). -/
def commSeen (g : Nat) (s : State) : State :=
  { s with sleep.falseWakes := s.sleep.falseWakes.map fun w =>
      if w.1 = g ∨ ringPort s g then (w.1, w.2.1, true) else w }

/-- A frame received good passes to classification through its pipeline (R25-R27, R182). -/
def ingress (f : Frame) (g : Nat) (cut : Bool) (s : State) : Frame × Admission :=
  let s := commSeen g s
  let s := { s with tables.pipeArb :=
    if g % 2 = 0 then (arbNext 56 g, s.tables.pipeArb.2) else (s.tables.pipeArb.1, arbNext 56 g) }
  let (f, s) := classify f s
  let s := pauseSeen g f.tc f.stamp s
  (f, forward f g false cut s)

/-! ### CAN (R189-R199) -/

/-- CAN_ERR_STATE (R190, R240). -/
def canErrEvent (g : Nat) (s : State) : State :=
  let x := canOf s g
  raiseEvent g 0x0102 (le 1 x.errState ++ le 1 (if x.busOff then 0xFF else x.txErr) ++ le 1 x.rxErr) s

/-- A change of the error counters, with what it brings: CAN_ERR_STATE, and bus-off above 255 (R189,
R190). -/
def canConfine (g : Nat) (f : CanPort → CanPort) (s : State) : State :=
  let old := (canOf s g).errState
  let y := f (canOf s g)
  let off := decide (255 < y.txErr) && !y.busOff
  let s := withOper g 3 (fun s => setCan g
    { y with busOff := y.busOff || off, recovering := y.recovering || (off && y.config.getLsbD 4) } s) s
  let new := (canOf s g).errState
  let s := if old ≠ new ∧ old < 3 ∧ new < 3 then canErrEvent g s else s
  if off then bump (portCtr g 0x0168) s else s

/-- The controller hears the bus (R177, R192, R230). -/
def canHears (s : State) (g : Nat) : Bool := operUp s g && !(canOf s g).deaf

/-- TRAILER changes (R196). -/
def setTrailer (g : Nat) (on : Bool) (stamp : Tick) (s : State) : State :=
  raiseFull g 0x0103 (le 1 (b2n on)) stamp false false (setCan g { canOf s g with trailer := on } s)

/-- The end of the presence window in force (R196). -/
def presenceEnd (x : CanPort) : Option Tick := x.lastValid.map fun t => t + ms (x.config.toNat / 2 ^ 16)

/-- A valid frame is seen by the presence monitor (R196, R197). -/
def presenceSeen (g : Nat) (stamp : Tick) (s : State) : State :=
  let x := canOf s g
  if !x.config.getLsbD 2 then s
  else
    let s := match presenceEnd x with
      | some e => if x.trailer ∧ e ≤ stamp then setTrailer g false e s else s
      | none => s
    let s := if (canOf s g).trailer then s else setTrailer g true stamp s
    setCan g { canOf s g with lastValid := some stamp } s

/-- The first rows of R222 for a received CAN frame: what the medium shows (1 CRC, 2 stuff, 3 form error,
4 protocol exception), then formats and odd frames. The answer is the counter and whether it is an error. -/
def canRow (x : CanPort) (c : CanFrame) (shown : Nat) : Option (Nat × Bool) :=
  let cfg := x.config
  if shown = 1 then some (0x0110, true)
  else if shown = 2 then some (0x0118, true)
  else if shown = 3 then some (0x0120, true)
  else if shown = 4 ∨ cfg.toNat % 4 < c.fmt then some (0x0128, false)
  else if c.rtr ∧ (cfg.getLsbD 6 ∨ cfg.getLsbD 3 ∨ cfg.getLsbD 2) then some (0x0108, false)
  else if !c.ide ∧ cfg.getLsbD 2 then some (0x0108, false)
  else none

/-- Another node's frame holds the bus, so no SOF of this port's held frame has been driven. -/
def canTaken (g : Nat) (s : State) : State :=
  let x := canOf s g
  setCan g { x with busy := true, held := x.held.map fun h => { h with sof := none } } s

/-- A frame of another node ends on a CAN bus (R182, R189, R192, R199, R222). `rec` is what an error adds
to REC under ISO 11898-1, 1 or 8. -/
def canRx (g : Nat) (c : CanFrame) (shown cap sofDelta rec_ : Nat) (s : State) : State :=
  let s := if (common s g).admin then canTaken g s else s
  if !canHears s g then s
  else
    let x := canOf s g
    let active := canMode s g == 0
    let received (s : State) : State :=
      if active then canConfine g (fun y => { y with rxErr := if 127 < y.rxErr then 119 else y.rxErr - 1 }) s
      else s
    match canRow x c shown with
    | some (ctr, true) =>
      let s := bump (portCtr g ctr) s
      if active then
        canConfine g (fun y => { y with rxErr := min 255 (y.rxErr + (if rec_ = 8 then 8 else 1)) })
          (bump (portCtr g 0x0130) s)
      else setCan g { canOf s g with deaf := true } s
    | some (ctr, false) =>
      let s := bump (portCtr g ctr) s
      if ctr = 0x0128 then setCan g { canOf s g with deaf := true } s
      else presenceSeen g (ingressStamp s g cap false) (received s)
    | none =>
      let stamp := ingressStamp s g cap false
      let s := presenceSeen g stamp (received s)
      let f := { Frame.arrived (some c) [] g stamp with sofDelta := sofDelta }
      (ingress f g false (bump (portCtr g 0x0100) s)).2.st

/-- The transmitter delay measured in a frame with a data phase (R188). -/
def measureTdc (g : Nat) (c : CanFrame) (clocks : Nat) (s : State) : State :=
  let x := canOf s g
  if x.tdc.getLsbD 8 ∧ (c.fmt = 2 ∨ (c.fmt = 1 ∧ c.brs)) then
    setCan g { x with tdcValid := true, tdcMeas := min 127 clocks } s
  else s

/-- A transmission attempt ends (R188-R191, R199, R227): 0 success, 1 arbitration lost, 2 bit error, 3 ACK
error, 4 another error while transmitting. `cap` is the capture of its SOF. -/
def canTxEnd (g res cap tdc : Nat) (s : State) : State :=
  let x := canOf s g
  match x.held with
  | none => s
  | some h =>
    if h.sof.isNone then s
    else
      let retry (s : State) : State := setCan g { canOf s g with held := some { h with sof := none } } s
      if res = 0 then
        let stamp := egressStamp s g cap false
        let ring := match heldOf s h.fid with
          | some y => y.frame.txRing
          | none => none
        let s := measureTdc g h.frame tdc (bump (portCtr g 0x0140) s)
        let s := setCan g { canOf s g with held := none } s
        let s := canConfine g (fun y => { y with txErr := y.txErr - 1 }) s
        let s := match heldOf s h.fid with
          | some y => frameLeft y.frame stamp s
          | none => s
        releaseRef h.fid (txStampDone h.fid ring (some stamp) s)
      else if res = 1 then retry (bump (portCtr g 0x0148) s)
      else
        let s := if res = 2 then bump (portCtr g 0x0150) s else if res = 3 then bump (portCtr g 0x0158) s else s
        let still := res == 3 && x.errState == 1
        let s := retry (measureTdc g h.frame tdc (bump (portCtr g 0x0130) s))
        canConfine g (fun y => { y with txErr := if still then y.txErr else y.txErr + 8 }) s

/-- 11 consecutive recessive bits: the controller integrates (R177, R190). -/
def canIntegrate (g : Nat) (s : State) : State :=
  let x := canOf s g
  if (common s g).admin ∧ !x.integrated then
    withOper g 4 (fun s => setCan g { canOf s g with integrated := true, deaf := false, busy := false } s) s
  else s

/-- 128 occurrences of 11 recessive bits end a recovery (R190). -/
def busOffRecovered (g : Nat) (s : State) : State :=
  let x := canOf s g
  if (common s g).admin ∧ x.busOff ∧ x.recovering then
    let s := withOper g 4 (fun s => setCan g
      { canOf s g with busOff := false, recovering := false, txErr := 0, rxErr := 0 } s) s
    if (canOf s g).errState = 0 then canErrEvent g s else s
  else s

/-- A presence window ends without another valid frame (R196). -/
def trailerExpiry (g : Nat) (s : State) : State :=
  let x := canOf s g
  match x.trailer, presenceEnd x with
  | true, some e => if e ≤ s.now then setTrailer g false e s else s
  | _, _ => s

/-- Go-to-sleep has been held for GTS_US (R230). -/
def gtsHoldEnd (g : Nat) (s : State) : State :=
  let x := canOf s g
  match x.gtsEnd with
  | some e =>
    if e ≤ s.clk ∧ x.trxMode = 3 then
      withOper g 5 (fun s => setCan g { canOf s g with trxMode := 2, gtsEnd := none } s) s
    else s
  | none => s

/-- The bus of a CAN or LIN port becomes idle (R192, R194, R231, R786), after `ovl` overload flags (R199). -/
def busIdle (g ovl : Nat) (s : State) : State :=
  if isCan g then
    let s := if (common s g).admin then bumpBy (portCtr g 0x0138) ovl s else s
    let s := setCan g { canOf s g with busy := false, deaf := false } s
    let s := match (canOf s g).opmodeNext with
      | some m => setOpmode g m s
      | none => s
    let s := match (canOf s g).trxNext with
      | some (m, gts) => setTrx g m gts s
      | none => s
    canDriveSof g s
  else if isLin g then
    let s := setLin g { linOf s g with busy := false } s
    match (linOf s g).enNext with
    | some b => setLinEn g b s
    | none => s
  else s

/-! ### LIN (R200-R206) -/

/-- The response length of an identifier (R200). -/
def linLen (x : LinPort) (id : Nat) : Nat := x.lenMap / 8 ^ id % 8 + 1

/-- The checksum kind of an identifier: 0x3C and 0x3D are always classic (R200). -/
def linEnhanced (x : LinPort) (id : Nat) : Bool := x.enhMap.testBit id && id != 0x3C && id != 0x3D

/-- What a port sends for an identifier it publishes; a diagnostic 0x3C buffer is sent once (R204). -/
def linPublished (x : LinPort) (id : Nat) : Option LinBuffer :=
  (tget? x.buffers id).filter fun b => !b.subscribed && (id != 0x3C || b.updated)

/-- The port sends the response of a buffer (R204, R206): `ok` unless a bit differs. -/
def linSend (g id : Nat) (b : LinBuffer) (ok : Bool) (stamp : Tick) (s : State) : State :=
  let x := linOf s g
  let s := linStampDone (some b) (some stamp) s
  let y : LinBuffer := { b with updated := false, ts := none }
  let s := setLin g { x with buffers := tset x.buffers id y, awaiting := none } s
  bump (portCtr g (if ok then 0x0108 else 0x0140)) s

/-- The duration of R364 for a commander's slot with a response of `len` bytes. -/
def linSlotTicks (x : LinPort) (len : Nat) : Tick := bitTicks (14 * (34 + 10 * (len + 1))) (10 * x.baud)

/-- The entry that begins next: its table and number (R201, R202). -/
def linNext (x : LinPort) (active : Nat) : Option (Nat × Nat) :=
  let n (t : Nat) : Nat := (tget x.tables [] t).length
  let i := if x.begun then x.slot + 1 else x.slot
  if i < n active then some (active, i)
  else
    match x.resume with
    | some (t, k) => if n t = 0 then none else some (t, (k + 1) % n t)
    | none => if n active = 0 then none else some (active, 0)

/-- A slot begins (R201, R204, R206, R367): its header, and the response the port publishes. -/
def linBegin (g t i : Nat) (ok : Bool) (cap : Tick) (s : State) : State :=
  let x := linOf s g
  match (tget x.tables [] t)[i]? with
  | none => s
  | some e =>
    let b := tget? x.buffers e.fid
    let tc := match b with
      | some b => b.tc
      | none => 0
    let resolving := e.kind == 1 && x.resume == some (t, i)
    let silent := resolving || (e.fid == 0x3C && (linPublished x e.fid).isNone)
    if !silent ∧ !gateFits s g tc s.now (linSlotTicks x (linLen x e.fid)) then
      if x.deferred then s
      else bump (swCtr g 0x78) (setLin g { x with deferred := true } s)
    else
      let resume := match x.resume with
        | some r => if r.1 = t then none else some r
        | none => none
      let s := setLin g { x with
        active := some t, slot := i, begun := true, deferred := false, slotEnd := s.now + ms e.delayMs
        resume := resume, awaiting := none, busy := !silent } s
      let s := mirror (.lin g t i s.now) s
      if silent then s
      else
        let s := bump (portCtr g 0x0110) s
        match linPublished x e.fid with
        | some b => linSend g e.fid b ok (egressStamp s g cap false) s
        | none => setLin g { linOf s g with awaiting := some e.fid } s

/-- A commander's slot ends and the next begins (R201-R203, R683, R718). -/
def linSlot (g : Nat) (ok : Bool) (cap : Tick) (s : State) : State :=
  let x := linOf s g
  let early : Bool := match tget? s.sleep.linAfter g with
    | some t => decide (s.now < t)
    | none => false
  match x.active with
  | none => s
  | some t =>
    if !x.commander ∨ !operUp s g ∨ standbyPort s g ∨ early ∨ s.now < x.slotEnd then s
    else
      let last := x.resume.isNone && decide ((tget x.tables [] t).length ≤ x.slot + 1)
      let s := match x.select with
        | some (n, at_) => if !x.begun || at_ = 0 || last then linActivate g n s else s
        | none => s
      let x := linOf s g
      match x.active with
      | none => s
      | some t => match linNext x t with
        | some (t, i) => linBegin g t i ok cap s
        | none => s

/-- The collision of an event-triggered slot: the resolution table runs once (R202). -/
def linCollision (g : Nat) (s : State) : State :=
  let x := linOf s g
  match x.active with
  | none => s
  | some t => match (tget x.tables [] t)[x.slot]? with
    | some e =>
      if x.commander ∧ e.kind = 1 ∧ x.resume.isNone then
        bump (portCtr g 0x0148)
          (setLin g { x with resume := some (t, x.slot), active := some e.resolve, slot := 0, begun := false } s)
      else s
    | none => s

/-- A header reaches a responder (R200, R204, R206): 1 bad break or sync, 2 bad parity. `baud` is the rate
of its sync field; `ok` whether the response it publishes leaves without a bit error. -/
def linHeader (g id err baud : Nat) (ok : Bool) (cap : Tick) (s : State) : State :=
  let x := linOf s g
  if !(common s g).admin ∨ !x.en ∨ x.commander then s
  else if err = 1 then bump (portCtr g 0x0130) s
  else
    let s := withOper g 4 (fun s => setLin g { linOf s g with syncSeen := true, baudMeas := baud, busy := true } s) s
    if err = 2 then bump (portCtr g 0x0128) s
    else
      let x := linOf s g
      match linPublished x id with
      | some b =>
        if standbyPort s g then setLin g { x with awaiting := some id } s
        else linSend g id b ok (egressStamp s g cap false) s
      | none => setLin g { x with awaiting := some id } s

/-- A response ends (R182, R202, R206): 3 a dominant stop bit, 5 a wrong checksum. -/
def linResponse (g : Nat) (data : Bytes) (err cap sofDelta : Nat) (s : State) : State :=
  let x := linOf s g
  match operUp s g, x.awaiting with
  | true, some id =>
    let s := setLin g { x with awaiting := none } s
    if err = 3 then linCollision g (bump (portCtr g 0x0138) s)
    else if err = 5 then linCollision g (bump (portCtr g 0x0120) s)
    else
      let n := linLen x id
      let c : CanFrame := { id := id, ide := false, rtr := false, fmt := 3, brs := false, esi := false, sec := false,
                            enh := linEnhanced x id, dlc := 0, dlen := n, af := 0, sdt := 0, vcid := 0
                            data := padTo n data }
      let f := { Frame.arrived (some c) [] g (ingressStamp s g cap false) with sofDelta := sofDelta }
      (ingress f g false (bump (portCtr g 0x0100) s)).2.st
  | _, _ => s

/-- A subscribed response is absent at its timeout (R200, R206). -/
def linTimeout (g : Nat) (s : State) : State :=
  let x := linOf s g
  if operUp s g ∧ x.awaiting.isSome then bump (portCtr g 0x0118) (setLin g { x with awaiting := none } s) else s

/-! ### Ethernet (R207-R222) -/

/-- The first matching receive row of R222, 0 for none. `shown` is what the medium shows: 1 a bad code group,
4 a wrong FCS, 5 a fragment out of sequence. -/
def ethRow (s : State) (g : Nat) (d : Bytes) (shown : Nat) : Nat :=
  let x := ethOf s g
  let ctl := beAt d 0 6 == 0x0180C2000001 && beAt d 12 2 == 0x8808
  let acted := (x.fcMode == 1 && beAt d 14 2 == 1) || (x.fcMode == 2 && beAt d 14 2 == 0x0101)
  if shown = 1 then 1
  else if d.length + 4 < 64 then 2
  else if x.maxFrame < d.length + 4 then 3
  else if shown = 4 then 4
  else if shown = 5 then 5
  else if byteAt d 6 % 2 = 1 then 6
  else if ctl && !acted then 7
  else 0

/-- The counter of a receive row (R212). -/
def ethRowCtr (row : Nat) : Nat :=
  match row with
  | 1 => 0x0118
  | 2 => 0x0120
  | 3 => 0x0128
  | 4 => 0x0110
  | 5 => 0x0190
  | 6 => 0x0130
  | _ => 0x0148

/-- A PAUSE or PFC frame is acted on at its validation instant (R215, R218, R219). -/
def actPause (g : Nat) (d : Bytes) (s : State) : State :=
  let x := ethOf s g
  let t := s.now
  if x.fcMode = 1 then
    let q := beAt d 16 2
    bump (portCtr g 0x0138)
      (setEth g { x with pause := if q = 0 then none else some (t, t + quantaTicks s g q) } s)
  else
    let vec := beAt d 16 2
    let pfc := (List.range 8).foldl (fun m c =>
      if vec.testBit c && x.pfcEn.testBit c then
        let q := beAt d (18 + 2 * c) 2
        if q = 0 then tdel m c else tset m c (t, t + quantaTicks s g q)
      else m) x.pfc
    bump (portCtr g 0x0140) (setEth g { x with pfc := pfc } s)

/-- The frame that is still being received from a gport (R359). -/
def receivingOf (s : State) (g : Nat) : Option (Nat × HeldFrame) :=
  s.switch.held.find? fun e => e.2.receiving && e.2.src == g

/-- A frame may be sent before its last byte is received (R359). -/
def mayCut (s : State) (g : Nat) (f : Frame) : Bool :=
  let (f, s) := classify f s
  let fl := frameFlow s f
  let l := forwardLookup f s
  tget s.switch.cutThrough false g && fl.protIn == 0xFFFF && !((secY s g).enabled && (secY s g).strict) &&
    (match l.dest with
      | .port e => isEth e && tget s.switch.cutThrough false e && decide ((ethOf s e).speed ≤ (ethOf s g).speed)
      | _ => false)

/-- The head of a frame has arrived at an Ethernet port: under cut-through it is admitted while it is still
being received (R359). -/
def ethHead (g : Nat) (d : Bytes) (cap : Tick) (lane4 : Bool) (s : State) : State :=
  let f := Frame.arrived none d g (ingressStamp s g cap lane4)
  let ctl := beAt d 0 6 == 0x0180C2000001 && beAt d 12 2 == 0x8808
  if operUp s g ∧ (receivingOf s g).isNone ∧ !ctl ∧ byteAt d 6 % 2 = 0 ∧ mayCut s g f then (ingress f g true s).2.st
  else s

/-- To stomp a suspended frame (R370). -/
def stompSuspended (g : Nat) (x : Sending) (s : State) : State :=
  releaseRef x.fid (bump (portCtr g 0x0170) { s with switch.suspended := tdel s.switch.suspended g })

/-- A cut-through frame ends bad (R360). -/
def lateBad (g fid row : Nat) (h : HeldFrame) (s : State) : State :=
  let s := bump (portCtr g (ethRowCtr row)) s
  let report (out : Nat) (x : Sending) (s : State) : State :=
    let sent := (s.now - x.start) * speedRate (ethOf s out).speed / (8 * ticksPerSec)
    let s := bump (swCtr out 0x60) (bump (swCtr g 0x30) s)
    raiseEvent 0x0100 0x0101
      (le 2 h.frame.flow ++ le 1 g ++ le 1 out ++ le 1 row ++ zeros 3 ++ le 4 (min (x.sent + sent) x.bytes.length)) s
  match s.switch.sending.find? (fun e => e.2.fid == fid), s.switch.suspended.find? (fun e => e.2.fid == fid) with
  | some (out, x), _ => stomp out none (report out x s)
  | none, some (out, x) => stompSuspended out x (report out { x with start := s.now } s)
  | none, none =>
    let s := s.switch.queues.foldl (fun s q =>
      { s with switch.queues := tset s.switch.queues q.1 (q.2.filter fun r => r.fid != fid) }) s
    freeHeld fid s

/-- A frame ends at an Ethernet port (R182, R212-R222, R360, R409). -/
def ethRx (g : Nat) (d : Bytes) (shown : Nat) (cap : Tick) (lane4 : Bool) (s : State) : State :=
  if !operUp s g then s
  else
    let row := ethRow s g d shown
    match receivingOf s g with
    | some (fid, h) =>
      if row ≠ 0 then lateBad g fid row h s
      else
        let s := bumpBy (portCtr g 0x0108) (d.length + 4) (bump (portCtr g 0x0100) s)
        let s := { s with switch.held := tset s.switch.held fid { h with receiving := false } }
        let fl := frameFlow s h.frame
        if fl.learn then
          presentLearn (fdbKey (beAt h.frame.data 6 6) (frameFid (genObjs s h.frame.gen) fl h.frame)) g h.frame.gen s
        else s
    | none =>
      if row ≠ 0 then bump (portCtr g (ethRowCtr row)) s
      else if beAt d 0 6 = 0x0180C2000001 ∧ beAt d 12 2 = 0x8808 then actPause g d s
      else
        let f := Frame.arrived none d g (ingressStamp s g cap lane4)
        (ingress f g false (bumpBy (portCtr g 0x0108) (d.length + 4) (bump (portCtr g 0x0100) s))).2.st

/-- The PCS gains or loses lock, or the T1S PHY its link (R177); pre-emption is verified while it holds
(R211). -/
def pcsLock (g : Nat) (lock : Bool) (s : State) : State :=
  let x := ethOf s g
  if !(common s g).admin ∨ x.lock = lock then s
  else
    withOper g (if lock then 4 else 2) (fun s => setEth g { ethOf s g with
      lock := lock, preemptSt := if lock && x.preempt then 1 else 0 } s) s

/-- A T1S port's PLCA status changes (R177, R212, R240). -/
def plcaStatus (g : Nat) (ok : Bool) (s : State) : State :=
  let x := ethOf s g
  if !isT1s g ∨ !(common s g).admin ∨ x.plcaOk = ok then s
  else
    let s := withOper g (if ok then 4 else 2) (fun s => setEth g { ethOf s g with plcaOk := ok } s) s
    raiseEvent g 0x0106 (le 1 (b2n ok)) (if ok then s else bump (portCtr g 0x01A0) s)

/-- IEEE 802.3br verification ends (R211). -/
def preemptVerify (g : Nat) (ok : Bool) (s : State) : State :=
  let x := ethOf s g
  if x.preemptSt = 1 then
    raiseEvent g 0x0105 (le 1 (if ok then 1 else 2)) (setEth g { x with preemptSt := if ok then 2 else 3 } s)
  else s

/-- The PHY reset pin is released (R233). -/
def phyResetRelease (g : Nat) (s : State) : State :=
  let x := ethOf s g
  if (common s g).admin ∧ x.prst ∧ x.prstSince + us x.prstUs ≤ s.clk then setEth g { x with prst := false } s else s

end Sys2Proof.Machine
end

