-- ==== Sys2Proof/Machine/CipherCmds.lean ====
section
/-!
DEFINITION. The opcodes of the cipher part of the security unit (R607, R608), cipher jobs on their lanes
(R573-R580, R596-R601) and in-band partners (R602-R604).
-/
namespace Sys2Proof.Machine

/-! ### Protection profiles (R586-R588) -/

/-- A key slot with a usage bit. -/
def slotUses (s : State) (i b : Nat) : Bool := within i 16 4095 && (keySlot s i).usage.testBit b

/-- The checks of `PROT_PROFILE_SET` (R586). -/
def profileOk (c : Ctx) : Check :=
  let tfv := c.u8 6
  let mac := c.u8 7
  if c.u8 2 = 0 then
    firstOf [c.zero 3 1, c.zero 4 2, c.zero 6 1, c.zero 7 1, c.zero 8 4, c.zero 12 4, c.zero 16 1, c.zero 17 15]
  else
    firstOf
      [ c.upto 3 1 3, range (tfv % 8 == 0 && within tfv 8 32) 6,
        range (mac % 8 == 0 && within mac 24 128) 7, range (bit (c.u8 3) 1 || decide (c.u32 8 < 2 ^ 16)) 8,
        c.btw 12 4 1 (2 ^ tfv - 1), c.zero 17 15 ]

/-- The profiles with PERSIST as an owner's staging would leave them, profile `i` apart (R608). -/
def persistOthers (s : State) (o i : Nat) : Nat :=
  let after := applyStaging (currentObjs s) (stagingOf s o)
  (after.filter fun e => okind e.1 == Kind.prot.code && oindex e.1 != i && byteAt e.2 2 == 1 && bit (byteAt e.2 3) 0).length

/-- `PROT_PROFILE_SET` (R586, R608). -/
def protProfileSetSpec : CmdSpec :=
  { opcode := 0x0681, change := true, len := lenIs 32
    values := fun c _ => firstOf [c.upto 0 2 4095, c.upto 2 1 1, profileOk c]
    conds := fun c s => firstOf
      [ range (c.u8 2 == 0 || slotUses s (c.u16 4) 1) 4, stageConds .prot 0 2 c s,
        need (c.u8 2 == 0 || !bit (c.u8 3) 0 || decide (persistOthers s c.p (c.u16 0) < 512)) stNoRoom ]
    apply := stageParams .prot 0 2 }

/-- `PROT_PROFILE_QUERY`: an undefined profile reads as zeros after its number. -/
def protProfileQuerySpec : CmdSpec :=
  { opcode := 0x0682, change := false, len := lenIs 4
    values := fun c _ => firstOf [c.upto 0 2 4095, c.upto 2 1 1, c.zero 3 1]
    apply := answer fun c s =>
      let i := c.u16 0
      (whichObj s c .prot i (c.u8 2)).getD (le 2 i ++ zeros 30) ++ le 8 (freshOf s i).1 ++ le 8 (freshOf s i).2 }

/-- `SECPDU_FV_SET` (R588, R608). -/
def secpduFvSetSpec : CmdSpec :=
  { opcode := 0x06A1, change := true, len := lenIs 16
    values := fun c _ => firstOf [c.upto 0 2 4095, c.upto 2 1 1, c.zero 3 5]
    conds := fun c s =>
      let (tx, latest) := freshOf s (c.u16 0)
      need (decide ((if c.u8 2 = 0 then tx else latest) ≤ c.u64 8) ||
        (s.mode == .atelier && (partner s c.p).service)) stDenied
    apply := quiet fun c s =>
      let i := c.u16 0
      let (tx, latest) := freshOf s i
      let keep := match curObj s .prot i with
        | some b => pfPersist b
        | none => false
      if c.u8 2 = 0 then setFresh i keep (c.u64 8) latest s else setFresh i keep tx (c.u64 8) s }

/-! ### MACsec (R582-R585) -/

/-- `MACSEC_SECY_SET` (R582, R608). -/
def macsecSecySetSpec : CmdSpec :=
  { opcode := 0x0691, change := true, len := lenIs 16
    values := fun c _ => firstOf
      [ c.gport 0 32 49, c.upto 1 1 1, c.upto 2 1 3, c.upto 3 1 1, range ([0, 30, 50].contains (c.u8 4)) 4,
        c.upto 5 1 7, c.zero 6 2, c.zero 12 4 ]
    conds := fun c s => need (!(common s (c.u8 0)).admin) stBusy
    apply := quiet fun c s => setSecY (c.u8 0) { secY s (c.u8 0) with raw := c.ps } s }

/-- `MACSEC_RXSC_SET` (R582). -/
def macsecRxscSetSpec : CmdSpec :=
  { opcode := 0x0692, change := true, len := lenIs 12
    values := fun c _ => firstOf [c.gport 0 32 49, c.upto 1 1 7, c.upto 2 1 1, c.zero 3 1]
    apply := quiet fun c s =>
      let x := secY s (c.u8 0)
      setSecY (c.u8 0) { x with rxsc := tset x.rxsc (c.u8 1) c.ps } s }

/-- The key row of R582: LEVEL 4, USAGE bit 0, TYPE matching the suite. -/
def macsecKeyOk (s : State) (g i : Nat) : Bool :=
  let k := keySlot s i
  slotUses s i 0 && k.level == 4 && k.typ == byteAt (secY s g).raw 2 % 2

/-- `MACSEC_SA_SET` (R582, R608). -/
def macsecSaSetSpec : CmdSpec :=
  { opcode := 0x0693, change := true, len := lenIs 32
    values := fun c _ => firstOf
      [c.gport 0 32 49, c.upto 1 1 1, c.upto 2 1 (if c.u8 1 = 0 then 0 else 7), c.upto 3 1 3, c.upto 6 1 1, c.zero 7 1]
    conds := fun c s =>
      let xpn := (secY s (c.u8 0)).xpn
      firstOf
        [ range (macsecKeyOk s (c.u8 0) (c.u16 4)) 4, if xpn then none else c.zero 16 4,
          if xpn then none else c.zero 20 12, need ((keyRefusal s (c.u16 4)).isNone) stKeyRevoked ]
    apply := quiet fun c s =>
      let g := c.u8 0
      let x := secY s g
      let a : Sa := { raw := c.ps, pn := c.u64 8, exhausted := false }
      setSecY g { x with sas := tset x.sas (saKey (c.u8 1) (c.u8 2) (c.u8 3)) a } s
    onReject := fun _ r s => refuse r.status s }

/-- `MACSEC_TX_SWITCH` (R585, R608). -/
def macsecTxSwitchSpec : CmdSpec :=
  { opcode := 0x0694, change := true, len := lenIs 4
    values := fun c _ => firstOf [c.gport 0 32 49, c.upto 1 1 3, c.zero 2 2]
    conds := fun c s => match tget? (secY s (c.u8 0)).sas (saKey 0 0 (c.u8 1)) with
      | some a =>
        if a.on then
          match keyRefusal s a.slot with
          | some st => need false st
          | none => none
        else range false 1
      | none => range false 1
    apply := quiet fun c s => setSecY (c.u8 0) { secY s (c.u8 0) with switchTo := some (c.u8 1) } s
    onReject := fun _ r s => refuse r.status s }

/-- The SAs of `MACSEC_QUERY`: transmit ANs, then receive SCs 0 to 7 with ANs 0 to 3 each. -/
def queriedSas : List Nat :=
  (List.range 4).map (saKey 0 0) ++ (List.range 8).flatMap fun sc => (List.range 4).map (saKey 1 sc)

/-- `MACSEC_QUERY`. The manual gives no encoding of an item's STATE, which is a free value. -/
def macsecQuerySpec : CmdSpec :=
  { opcode := 0x0695, change := false, len := lenIs 4
    values := fun c _ => firstOf [c.gport 0 32 49, c.zero 1 3]
    apply := fun c s =>
      let x := secY s (c.u8 0)
      let (st, s) := takeFreeBytes 36 s
      let items := (queriedSas.zip st).flatMap fun e =>
        let pn := match tget? x.sas e.1 with
          | some a => a.pn
          | none => 0
        [e.2] ++ zeros 3 ++ le 8 pn
      (s, padTo 16 (le 1 (c.u8 0) ++ x.raw.drop 1) ++ le 1 x.encAn ++ zeros 3 ++ items) }

/-- `CIPHER_COUNTERS`. -/
def cipherCountersSpec : CmdSpec :=
  { opcode := 0x06D1, change := false, len := lenIs 0
    apply := answer fun _ s => counterBlock s (ciphCtr 0x0900) 16 }

/-! ### Cipher jobs (R598-R601) -/

/-- Fields of the `CIPHER_JOB` bytes. -/
def Job.mode (j : Job) : Nat := byteAt j.raw 0
def Job.dir (j : Job) : Nat := byteAt j.raw 1
def Job.slot (j : Job) : Nat := leAt j.raw 2 2
def Job.ctx (j : Job) : Nat := byteAt j.raw 4
def Job.len (j : Job) : Nat := leAt j.raw 8 4
def Job.src (j : Job) : Nat := leAt j.raw 12 8
def Job.dst (j : Job) : Nat := leAt j.raw 20 8
def Job.iv (j : Job) : Bytes := slice j.raw 28 16
def Job.aad (j : Job) : Nat := if j.mode = 5 then leAt j.raw 44 4 else 0
def Job.tagIn (j : Job) : Bytes := slice j.raw 48 16

/-- The job of a partner and TAG. -/
def jobOf (s : State) (p tag : Nat) : Option Job := s.cipher.jobs.find? fun j => j.partner == p && j.tag == tag

/-- Replace it. -/
def setJob (x : Job) (s : State) : State :=
  { s with cipher.jobs := s.cipher.jobs.map fun j => if j.partner = x.partner ∧ j.tag = x.tag then x else j }

/-- A job's message, as it waits for a lane (R573, R575). -/
def jobMessage (s : State) (j : Job) : LaneMsg :=
  { job := some (j.partner, j.tag), gport := 0xFF, flow := j.tag, slot := j.slot, urgency := 0
    hardened := (keySlot s j.slot).kflags.testBit 0, begun := false }

/-- The issuer's stopped job that a command names. -/
def stoppedJob (s : State) (c : Ctx) : Option Job :=
  s.cipher.jobs.find? fun j => j.partner == c.p && j.tag == c.u16 0 && j.st == .stopped

/-- `CIPHER_JOB` (R598, R608). -/
def cipherJobSpec : CmdSpec :=
  { opcode := 0x06B1, change := true, async := true, len := lenIs 64
    values := fun c _ => firstOf [c.upto 0 1 5, c.upto 1 1 1, c.upto 4 1 63, c.zero 5 3, c.btw 8 4 1 16777216]
    conds := fun c s =>
      let m := c.u8 0
      firstOf
        [ range ((m == 4 || slotUses s (c.u16 2) 0) && (decide (m ≤ 3) || slotUses s (c.u16 2) 1)) 2,
          range (m != 0 || c.u32 8 % 16 == 0) 8, range (decide (c.u32 44 ≤ c.u32 8)) 44,
          need (ctxOwner s (c.u8 4) == some c.p) stDenied,
          match keyRefusal s (c.u16 2) with
          | some st => need false st
          | none => none ]
    apply := quiet fun c s =>
      let j : Job := { partner := c.p, tag := c.tag.toNat, raw := c.ps, st := .working, offset := 0, fed := []
                       written := 0, key := none, status := 0 }
      { s with cipher.jobs := s.cipher.jobs ++ [j], cipher.waiting := s.cipher.waiting ++ [jobMessage s j] }
    onReject := fun _ r s => refuse r.status s }

/-- `CIPHER_JOB_RESUME` (R601). -/
def cipherJobResumeSpec : CmdSpec :=
  { opcode := 0x06B2, change := true, len := lenIs 4
    values := fun c _ => c.zero 2 2
    conds := fun c s => range (stoppedJob s c).isSome 0
    apply := quiet fun c s => match stoppedJob s c with
      | some j =>
        let s := setJob { j with st := .working } s
        { s with cipher.waiting := s.cipher.waiting ++ [jobMessage s j] }
      | none => s }

/-- `CIPHER_JOB_CANCEL` (R601). -/
def cipherJobCancelSpec : CmdSpec :=
  { opcode := 0x06B3, change := true, len := lenIs 4
    values := fun c _ => c.zero 2 2
    conds := fun c s => range (stoppedJob s c).isSome 0
    apply := quiet fun c s => match stoppedJob s c with
      | some j => setJob { j with st := .zeroing, status := stTxnAborted } s
      | none => s }

/-- What a job has made of the bytes it was fed: the bytes to write from DST on (R598). -/
def Job.output (j : Job) (key fed : Bytes) : Bytes :=
  let text := fed.drop j.aad
  if j.mode = 4 then []
  else if j.mode = 5 then padTo text.length (Config.gcmText key j.iv (fed.take j.aad) text (j.dir == 0))
  else padTo text.length (Config.blockMode j.mode (j.dir == 0) key j.iv text)

/-- The tag a finished job computes (R598). -/
def Job.tagOut (j : Job) (key : Bytes) : Bytes :=
  if j.mode = 4 then be 16 (Config.cmacRaw key j.fed).toNat
  else
    let text := j.fed.drop j.aad
    let plain := if j.dir = 0 then text else j.output key j.fed
    be 16 (Config.gcmTag key j.iv (j.fed.take j.aad) plain).toNat

/-- Remove a job's message from its lane and from the queue; a message that runs ends, and the one under it
resumes. -/
def jobOffLane (p tag : Nat) (s : State) : State :=
  let mine (m : LaneMsg) : Bool := m.job == some (p, tag)
  let s := { s with cipher.waiting := s.cipher.waiting.filter fun m => !mine m }
  lanes.foldl (fun s n =>
    let x := laneOf s n
    let s := setLane n { x with suspended := x.suspended.filter fun m => !mine m } s
    match (laneOf s n).run with
    | some m => if mine m then laneEnd n s else s
    | none => s) s

/-- A DMMU fault stops a job (R600). -/
def jobStop (j : Job) (cause va : Nat) (write : Bool) (s : State) : State :=
  let s := jobOffLane j.partner j.tag (setJob { j with st := .stopped } s)
  let s := dmmuFault 12 j.ctx cause va write s
  let s := bump (ciphCtr 0x0970) (setW1c 0x0600 0x0800 13 j.tag s)
  raiseEvent 0x0600 0x0185 (le 2 j.tag ++ le 1 cause ++ le 1 (b2n write) ++ le 4 j.offset) s

/-- A job works on from OFFSET to `upto`: it reads SRC and writes what that gives. Whether it got there, with
the job as it then stands. -/
def jobWork (j : Job) (key : Bytes) (upto : Nat) (s : State) : Bool × State :=
  let n := upto - j.offset
  let (bs, e) := bulkRead s j.ctx (j.src + j.offset) n
  let blocks (k : Nat) : Nat := if k = n then n else k / 16 * 16
  let got := blocks bs.length
  let fed := j.fed ++ bs.take got
  let out := (j.output key fed).drop j.written
  let (k, w, s) := bulkWrite j.ctx (j.dst + j.written) out s
  match w, e with
  | some c, _ =>
    let done := j.written + k / 16 * 16
    let at_ := max j.offset (min (j.offset + got) (done + j.aad))
    (false, jobStop { j with offset := at_, fed := fed.take at_, written := done } c (j.dst + j.written + k) true s)
  | none, some c =>
    (false, jobStop { j with offset := j.offset + got, fed := fed, written := j.written + out.length } c
      (j.src + j.offset + bs.length) false s)
  | none, none =>
    (true, setJob { j with offset := upto, fed := fed, written := j.written + out.length } s)

/-- A job's message ends on its lane with every byte processed (R598). -/
def jobFinish (p tag : Nat) (s : State) : State :=
  match jobOf s p tag with
  | none => s
  | some j =>
    match j.key with
    | none => s
    | some key =>
      match jobWork j key j.len s with
      | (false, s) => s
      | (true, s) =>
        match jobOf s p tag with
        | none => s
        | some j =>
          let s := jobOffLane p tag (messageDone s)
          let tagged := decide (4 ≤ j.mode)
          if tagged ∧ j.dir = 0 then
            let (k, w, s) := bulkWrite j.ctx (j.dst + j.written) (j.tagOut key) s
            match w with
            | some c => jobStop j c (j.dst + j.written + k) true s
            | none => setJob { j with st := .finished, written := j.written + 16, status := stDone } s
          else if tagged ∧ j.tagOut key ≠ j.tagIn then setJob { j with st := .finished, status := stCheckFail } s
          else setJob { j with st := .finished, status := stDone } s

/-- A job ends with CMD_COMPLETE (R72). -/
def jobEnd (j : Job) (status : Nat) (s : State) : State :=
  let s := { s with cipher.jobs := s.cipher.jobs.filter fun x => !(x.partner == j.partner && x.tag == j.tag) }
  match findAsync 0x06B1 (fun a => a.partner == j.partner && a.tag.toNat == j.tag) s with
  | some a => cmdComplete a status s
  | none => s

/-- A finished job completes; a failed verification zeroes first (R598, R599). -/
def jobComplete (p tag : Nat) (s : State) : State :=
  match jobOf s p tag with
  | some j =>
    if j.st ≠ .finished then s
    else if j.status = stDone then jobEnd j stDone s
    else setJob { j with st := .zeroing } s
  | none => s

/-- The zeroing of a job's destination completes (R599). -/
def jobZeroed (p tag : Nat) (s : State) : State :=
  match jobOf s p tag with
  | some j =>
    if j.st ≠ .zeroing then s
    else
      let (_, _, s) := bulkWrite j.ctx j.dst (zeros j.written) s
      jobEnd j j.status s
  | none => s

/-- The most urgent waiting message, the oldest within an urgency (R576). -/
def mostUrgent : List LaneMsg → Option LaneMsg
  | [] => none
  | m :: ms => match mostUrgent ms with
    | some x => if m.urgency < x.urgency then some x else some m
    | none => some m

/-- A slot was invalidated under a message: it is neither ACTIVE nor EXHAUSTED (R552, R556). -/
def slotGone (s : State) (i : Nat) : Bool :=
  match keyRefusal s i with
  | some st => st == stKeyRevoked
  | none => false

/-- A job is aborted by its slot's invalidation (R596, R597). -/
def jobAbort (j : Job) (s : State) : State :=
  let s := jobOffLane j.partner j.tag (setJob { j with st := .zeroing, status := stKeyRevoked } s)
  cipherAbortEvent j.slot 3 0xFF j.tag j.offset (refuse stKeyRevoked s)

/-- The dispatcher gives a lane the most urgent waiting message (R576, R578). -/
def cipherDispatch (s : State) : State :=
  match mostUrgent s.cipher.waiting with
  | none => s
  | some m =>
    match laneChoice s m.urgency with
    | none => s
    | some n =>
      let go (s : State) : State := laneStart n m { s with cipher.waiting := s.cipher.waiting.erase m }
      match m.job with
      | none => go s
      | some (p, tag) =>
        match jobOf s p tag with
        | none => { s with cipher.waiting := s.cipher.waiting.erase m }
        | some j =>
          if j.key.isSome then go s
          else
            match useKey j.slot s with
            | (.ok key, s) => go (setJob { j with key := some key } s)
            | (.error st, s) =>
              if st = stKeyRevoked then
                let s := jobOffLane p tag (setJob { j with st := .zeroing, status := stKeyRevoked } s)
                cipherAbortEvent j.slot 3 0xFF j.tag 0 s
              else jobOffLane p tag (setJob { j with st := .zeroing, status := st } s)

/-- Lane `n` finishes its message (R580); an egress frame's ends with its transmission. -/
def cipherMessageDone (n : Nat) (s : State) : State :=
  match (laneOf s n).run with
  | some m => match m.job with
    | some (p, tag) => jobFinish p tag s
    | none => s
  | none => s

/-- Work of the job on lane `n` up to a block boundary, where a fault stops it (R600). -/
def jobFault (n upto : Nat) (s : State) : State :=
  match (laneOf s n).run with
  | some m => match m.job with
    | some (p, tag) => match jobOf s p tag with
      | some j => match j.key with
        | some key =>
          let end_ := min j.len (upto / 16 * 16)
          if j.offset < end_ then (jobWork j key end_ s).2 else s
        | none => s
      | none => s
    | none => s
  | none => s

/-- The job of a partner and TAG whose slot is invalidated is aborted at a block boundary (R553, R580,
R596): one that runs has processed its bytes up to `off`. -/
def cipherAbortJob (p tag off : Nat) (s : State) : State :=
  match jobOf s p tag with
  | none => s
  | some j =>
    if !slotGone s j.slot ∨ (j.st ≠ .working ∧ j.st ≠ .stopped) then s
    else
      let running := lanes.any fun n => match (laneOf s n).run with
        | some m => m.job == some (p, tag)
        | none => false
      let end_ := min j.len (off / 16 * 16)
      match running, j.key with
      | true, some key =>
        if j.offset < end_ then
          match jobWork j key end_ s with
          | (_, s) => match jobOf s p tag with
            | some j => jobAbort j s
            | none => s
        else jobAbort j s
      | _, _ => jobAbort j s

/-- The protected frame a port sends is stomped when its slot is invalidated (R371, R596). -/
def cipherAbortSend (g off : Nat) (s : State) : State :=
  let x := match tget? s.switch.sending g with
    | some x => some x
    | none => tget? s.switch.suspended g
  match x with
  | some x => match x.slot with
    | some i =>
      if slotGone s i then
        let flow := match heldOf s x.fid with
          | some h => h.frame.flow
          | none => 0
        stomp g (some 2) (cipherAbortEvent i 2 g flow off (refuse stKeyRevoked s))
      else s
    | none => s
  | none => s

/-! ### In-band partners (R602-R604) -/

/-- `INBAND_BIND` (R602). -/
def inbandBindSpec : CmdSpec :=
  { opcode := 0x06C1, change := true, admin := true, len := lenIs 20
    values := fun c _ => firstOf [c.upto 0 1 7, c.gport 1 38 49, c.upto 2 1 7, c.zero 3 1, c.zero 16 4]
    conds := fun c s =>
      let x := secY s (c.u8 1)
      firstOf [range (x.enabled && x.strict) 1, range (thas x.rxsc (c.u8 2)) 2]
    apply := quiet fun c s => { s with cipher.inband := tset s.cipher.inband (c.u8 0) c.ps } }

/-- A frame of an in-band partner's port: KIND, PARTNER, COUNT and items (R603, R604). -/
def inbandSend (p kind count : Nat) (items : Bytes) (s : State) : State :=
  match tget? s.cipher.inband p with
  | none => s
  | some b =>
    cpuEmit (byteAt b 1) 7 none
      (slice b 4 6 ++ slice b 10 6 ++ be 2 0x88B5 ++ le 1 kind ++ le 1 p ++ le 2 count ++ items) s

/-- Replies of an in-band partner go out, each in a frame, and count as consumed (R604). -/
def inbandReplies (p : Nat) (s : State) : State :=
  let x := partner s p
  if x.transport ≠ 5 ∨ !thas s.cipher.inband p then s
  else
    let s := setPartner p { x with rplHead := x.rplTail, replies := [] } s
    x.replies.foldl (fun s e => inbandSend p 2 1 e.2.bytes s) s

/-- The partner for which a frame at CPUP passes the checks of R602. -/
def inbandPartner (s : State) (f : Frame) : Option Nat :=
  let p := byteAt f.data 15
  match tget? s.cipher.inband p with
  | some b =>
    if (partner s p).transport = 5 ∧ beAt f.data 12 2 = 0x88B5 ∧ f.data.take 6 = slice b 10 6 ∧
        slice f.data 6 6 = slice b 4 6 ∧ f.verified ∧ f.ingress = byteAt b 1 ∧ f.sc = some (byteAt b 2) then
      some p
    else none
  | none => none

/-- One packet of a KIND 1 frame enters the request ring, or is discarded for want of room (R604). -/
def inbandPacket (p plen : Nat) (s : State) : State :=
  let x := partner s p
  let n := packetSlots plen
  if (x.reqTail - x.reqHead).toNat + n ≤ x.slots then
    setPartner p { x with reqTail := x.reqTail + BitVec.ofNat 16 n } s
  else bump (ciphCtr 0x0978) s

/-- The packets of a KIND 1 frame, back to back. -/
def inbandPackets (p : Nat) (d : Bytes) : Nat → Nat → State → State
  | 0, _, s => s
  | n + 1, o, s =>
    let plen := leAt d (o + 8) 2
    inbandPackets p d n (o + 20 + plen) (inbandPacket p plen s)

/-- `n` reads of the event window (R97, R604): their records. -/
def inbandRecords (p : Nat) : Nat → State → Bytes × State
  | 0, s => ([], s)
  | n + 1, s =>
    let (_, s) := windowRead p 0 s
    let r := (partner s p).evq.latch.bytes
    let (rs, s) := inbandRecords p n s
    (r ++ rs, s)

/-- The items of a KIND 5 frame (R603, R604). -/
def inbandOps (p : Nat) (d : Bytes) (count : Nat) (s : State) : State :=
  (List.range count).foldl (fun s i =>
    let o := 18 + 8 * i
    let v := w32 (leAt d (o + 4) 4)
    match byteAt d o with
    | 1 => evqOp p v (evqMark p) s
    | 2 => evqOp p v (evqRewind p) s
    | 3 => evqOp p v (evqRelease p) s
    | _ => s) s

/-- Pair A handles the oldest frame of EtherType 0x88B5 at CPUP (R602-R604). -/
def inbandFrame (s : State) : State :=
  match s.switch.cpuIn.find? (fun f => f.bus.isNone && beAt f.data 12 2 == 0x88B5) with
  | none => s
  | some f =>
    let s := { s with switch.cpuIn := s.switch.cpuIn.erase f }
    match inbandPartner s f with
    | none => bump (ciphCtr 0x0978) s
    | some p =>
      let d := f.data
      let count := leAt d 16 2
      match byteAt d 14 with
      | 1 => inbandPackets p d count 18 s
      | 3 =>
        let n := leAt d 18 2
        if within n 1 40 then
          let (rs, s) := inbandRecords p n s
          inbandSend p 4 n rs s
        else bump (ciphCtr 0x0978) s
      | 5 => inbandOps p d count s
      | _ => bump (ciphCtr 0x0978) s

end Sys2Proof.Machine
end

