-- ==== Sys2Proof/Machine/GwCmds.lean ====
section
/-!
DEFINITION. The opcodes of the gateway unit (R322, R323) and its direct E2E units (R315, R320).
-/
namespace Sys2Proof.Machine

/-- The objects of the current generation with an owner's staging applied. -/
def stagedObjs (s : State) (o : Nat) : Tab Bytes := applyStaging (currentObjs s) (stagingOf s o)

/-- The object of a kind that the issuer's staging holds and that meets `f`. -/
def stagedAny (s : State) (o : Nat) (k : Kind) (f : Bytes → Bool) : Bool :=
  (stagedObjs s o).any fun e => okind e.1 == k.code && f e.2

/-- A route entry's GW_REF names an index under a KIND (R241, R323). -/
def routeNames (s : State) (o kind i : Nat) : Bool :=
  stagedAny s o .canExact (fun b => leAt b 12 4 == kind * 2 ^ 28 + i) ||
    stagedAny s o .canMask (fun b => leAt b 24 4 == kind * 2 ^ 28 + i)

/-- J1939 is set on a CAN port. -/
def j1939Set (s : State) (g : Nat) : Bool := isCan g && (canOf s g).config.getLsbD 3

/-! ### PDUs -/

/-- The image granules of a set of objects (R248). -/
def granules (objs : Tab Bytes) : Nat :=
  ((objs.filter fun e => okind e.1 == Kind.pdu.code && byteAt e.2 2 == 1).map fun e => (leAt e.2 4 2 + 31) / 32).sum

/-- The ranges of a PDU definition (R249, R263). -/
def pduValues (c : Ctx) : Check :=
  let mode := c.u8 3
  let cyclic := [1, 2, 4].contains mode
  if c.u8 2 = 1 then
    firstOf
      [ c.upto 0 2 16383, c.upto 3 1 4, c.btw 4 2 1 256, c.zero 6 2, c.upto 8 1 1,
        if c.u8 8 = 0 then gportIn (c.u16 0xA) 0 31 0xA else c.upto 0xA 2 1023,
        c.upto 0xC 4 10000000, if cyclic then c.btw 0x10 4 500 10000000 else c.zero 0x10 4,
        c.upto 0x1A 1 3,
        c.upto 0x1B 1 (if c.u8 8 = 0 then 7 else 0), c.zero 0x1C 4, range (decide (c.u32 0x20 < 2 ^ 31)) 0x20,
        c.upto 0x24 1 3, range (decide (c.u8 0x25 < 16)) 0x25, c.upto 0x26 2 (if c.u8 8 = 0 then 16383 else 0),
        c.zero 0x28 8 ]
  else
    firstOf
      [ c.upto 0 2 16383, c.upto 2 1 1, c.zero 3 1, c.btw 4 2 1 256, c.upto 6 2 16383, c.zero 8 1, c.zero 0xA 2,
        c.zero 0xC 4, c.zero 0x10 4, c.zero 0x14 4, c.zero 0x18 2,
        range (c.u8 0x1A % 4 == 0 && decide (c.u8 0x1A < 0x20) && decide (bits (c.u8 0x1A) 4 3 ≤ 2)) 0x1A,
        c.zero 0x1B 1, c.upto 0x1C 4 600000, c.zero 0x20 4, c.zero 0x24 1, c.zero 0x25 1, c.zero 0x26 2, c.zero 0x28 8 ]

/-- `PDU_DEFINE`. -/
def pduDefineSpec : CmdSpec :=
  { opcode := 0x0301, change := true, len := lenIs 48
    values := fun c _ => pduValues c
    conds := fun c s => firstOf
      [ range (c.u8 2 != 1 || c.u32 0x14 == 0 || decide (c.u32 0x14 < c.u32 0x10)) 0x14,
        range (c.u8 2 != 1 || !bit (c.u8 0x1A) 0 || c.u8 3 == 1) 0x1A, range (c.u8 9 == 0 || (stagedObj s c.p .e2e (c.u8 9)).isSome) 9,
        range (!(c.u8 2 == 1 && c.u8 8 == 1) || (stagedObj s c.p .cont (c.u16 0xA)).isSome) 0xA,
        stageCheck c.p .pdu (c.u16 0) s,
        need (decide (granules (tset (stagedObjs s c.p) (okey .pdu (c.u16 0)) c.ps) ≤ 8192)) stNoRoom ]
    apply := stageParams .pdu 0 2 }

/-- An index and two zero bytes. -/
def indexOk (c : Ctx) (top : Nat) : Check := firstOf [c.upto 0 2 top, c.zero 2 2]

/-- A removal of object `i` stages as deleted; an object not there is BAD_VALUE. -/
def removeConds (k : Kind) (named : State → Nat → Nat → Bool) : Ctx → State → Check :=
  fun c s => firstOf
    [ range (stagedObj s c.p k (c.u16 0)).isSome 0, need (!named s c.p (c.u16 0)) stBusy,
      stageCheck c.p k (c.u16 0) s ]

/-- The effect of a removal. -/
def removeObj (k : Kind) : Ctx → State → State × Bytes := quiet fun c s => stage c.p k (c.u16 0) none s

/-- A staged mapping, channel or route entry names a PDU (R323). -/
def pduNamed (s : State) (o i : Nat) : Bool :=
  stagedAny s o .map (fun b => leAt b 0 2 == i || leAt b 2 2 == i) || routeNames s o 1 i ||
    stagedAny s o .tpChannel (fun b => byteAt b 3 == 0 && byteAt b 0x18 == 1 && leAt b 0x1A 2 == i)

/-- `PDU_REMOVE`. -/
def pduRemoveSpec : CmdSpec :=
  { opcode := 0x0302, change := true, len := lenIs 4
    values := fun c _ => indexOk c 16383
    conds := removeConds .pdu pduNamed
    apply := removeObj .pdu }

/-- `PDU_QUERY`. -/
def pduQuerySpec : CmdSpec :=
  { opcode := 0x0303, change := false, len := lenIs 4
    values := fun c _ => indexOk c 16383
    conds := fun c s => range (curObj s .pdu (c.u16 0)).isSome 0
    apply := answer fun c s =>
      let i := c.u16 0
      match curObj s .pdu i with
      | none => []
      | some b =>
        if byteAt b 2 = 1 then
          let x := builtOf s i b
          padTo 48 b ++ le 1 (b2n (pduPending s i)) ++ zeros 1 ++ le 2 x.counter ++ nsSec x.lastTrig ++ zeros 2 ++
            padTo (4 * ((x.image.length + 3) / 4)) x.image
        else padTo 48 b ++ zeros 4 ++ nsSec (sourceOf s i).last ++ zeros 2 }

/-! ### Mappings -/

/-- FIRST and COUNT stay within the 65,536 mappings. -/
def mapSpan (c : Ctx) (top : Nat) : Check := firstOf [c.btw 2 2 1 top, range (decide (c.u16 0 + c.u16 2 ≤ 65536)) 0]

/-- The ranges of the mapping at an offset (R252, R255). -/
def mapValues (c : Ctx) (o : Nat) : Check :=
  let fl := c.u16 (o + 0xA)
  let block := bit fl 0
  firstOf
    [ c.upto o 2 16383, c.upto (o + 2) 2 16383, range (!block || c.u16 (o + 4) % 8 == 0) (o + 4),
      range (!block || c.u16 (o + 6) % 8 == 0) (o + 6), c.btw (o + 8) 2 1 (if block then 256 else 64),
      range (decide (fl < 16) && (!block || bits fl 2 1 == 0)) (o + 0xA), c.zero (o + 0xC) 4 ]

/-- The conditions of R256 on the mapping at an offset. -/
def mapConds (c : Ctx) (s : State) (o : Nat) : Check :=
  let m := c.raw o 16
  let pdu (i role : Nat) : Option Bytes := (stagedObj s c.p .pdu i).filter fun b => byteAt b 2 == role
  let inside (b : Option Bytes) (src : Bool) : Bool := match b with
    | some b => (mapPositions m src).all fun p => decide (p < 8 * leAt b 4 2)
    | none => false
  firstOf
    [ range (pdu (c.u16 o) 0).isSome o, range (pdu (c.u16 (o + 2)) 1).isSome (o + 2),
      range (inside (pdu (c.u16 o) 0) true) (o + 4), range (inside (pdu (c.u16 (o + 2)) 1) false) (o + 6) ]

/-- The offsets of the mappings of a command. -/
def mapOffsets (c : Ctx) : List Nat := (List.range (c.u16 2)).map fun i => 4 + 16 * i

/-- The issuer's mappings after a `MAP_ADD` leave each source PDU at most 1,024 (R257). -/
def mapCount (c : Ctx) (s : State) : Bool :=
  let objs := ((mapOffsets c).zipIdx).foldl (fun m e => tset m (okey .map (c.u16 0 + e.2)) (c.raw e.1 16)) (stagedObjs s c.p)
  (mapOffsets c).all fun o =>
    decide ((objs.filter fun e => okind e.1 == Kind.map.code && leAt e.2 0 2 == c.u16 o).length ≤ 1024)

/-- `MAP_ADD` (R256, R257). -/
def mapAddSpec : CmdSpec :=
  { opcode := 0x0311, change := true
    len := fun ps => ps.length == 4 + 16 * leAt ps 2 2 && within ps.length 20 4068
    values := fun c _ => firstOf (mapSpan c 254 :: (mapOffsets c).map (mapValues c))
    conds := fun c s => firstOf
      [ firstOf ((mapOffsets c).map (mapConds c s)),
        firstOf ((List.range (c.u16 2)).map fun i => stageCheck c.p .map (c.u16 0 + i) s),
        need (mapCount c s) stNoRoom ]
    apply := quiet fun c s => ((mapOffsets c).zipIdx).foldl (fun s e =>
      stage c.p .map (c.u16 0 + e.2) (some (c.raw e.1 16)) s) s }

/-- `MAP_REMOVE`. -/
def mapRemoveSpec : CmdSpec :=
  { opcode := 0x0312, change := true, len := lenIs 4
    values := fun c _ => mapSpan c 65535
    conds := fun c s => firstOf ((List.range (c.u16 2)).map fun i =>
      if (stagedObj s c.p .map (c.u16 0 + i)).isSome then stageCheck c.p .map (c.u16 0 + i) s else none)
    apply := quiet fun c s => (List.range (c.u16 2)).foldl (fun s i =>
      if (stagedObj s c.p .map (c.u16 0 + i)).isSome then stage c.p .map (c.u16 0 + i) none s else s) s }

/-- `MAP_QUERY`. -/
def mapQuerySpec : CmdSpec :=
  { opcode := 0x0313, change := false, len := lenIs 4
    values := fun c _ => mapSpan c 254
    apply := answer fun c s => (List.range (c.u16 2)).flatMap fun i => (curObj s .map (c.u16 0 + i)).getD (zeros 16) }

/-! ### Containers -/

/-- The ranges of a container definition (R268). -/
def contValues (c : Ctx) : Check :=
  let fmt := c.u8 2
  let pack := c.u8 3 == 0
  let acf := fmt != 0
  firstOf
    [ c.upto 0 2 1023, c.upto 2 1 2, c.upto 3 1 1,
      if pack then (if acf then c.gport 4 32 49 else c.gport 4 0 23) else c.zero 4 1,
      c.upto 5 1 7, if acf then c.btw 6 2 64 1522 else c.btw 6 2 8 2048, c.upto 8 4 100000,
      c.upto 0xC 4 10000000, c.upto 0x10 2 16383, range (decide (c.u8 0x12 < 16)) 0x12, c.upto 0x13 1 31,
      range (if acf then c.u32 0x14 < 65536 else bits (c.u32 0x14) 15 11 == 0) 0x14,
      if !pack && !acf then c.btw 0x1E 2 1 16384 else none,
      c.zero 0x22 2, c.zero 0x38 8,
      if !pack && acf then firstOf ((List.range 32).map fun i => c.gport (0x40 + i) 0 31) else none ]

/-- `CONT_DEFINE` (R269). -/
def contDefineSpec : CmdSpec :=
  { opcode := 0x0321, change := true, len := lenIs 96
    values := fun c _ => contValues c
    conds := fun c s =>
      let signals := c.u8 2 == 0 && c.u8 3 == 1
      firstOf
      [ range (!signals || decide (c.u16 0x1C + c.u16 0x1E ≤ 65536)) 0x1C,
        range (!signals || decide (c.u16 0x20 + c.u16 0x1E ≤ 16384)) 0x20,
        range (c.u8 2 != 0 || c.u8 3 != 0 || (canOf s (c.u8 4)).config.toNat % 4 == 2) 4,
        stageCheck c.p .cont (c.u16 0) s ]
    apply := stageParams .cont 0 2 }

/-- A staged PDU or route entry names a container definition (R323). -/
def contNamed (s : State) (o i : Nat) : Bool :=
  stagedAny s o .pdu (fun b => byteAt b 2 == 1 && byteAt b 8 == 1 && leAt b 0xA 2 == i) ||
    routeNames s o 2 i || routeNames s o 3 i

/-- `CONT_REMOVE`. -/
def contRemoveSpec : CmdSpec :=
  { opcode := 0x0322, change := true, len := lenIs 4
    values := fun c _ => indexOk c 1023
    conds := removeConds .cont contNamed
    apply := removeObj .cont }

/-- `CONT_QUERY`. -/
def contQuerySpec : CmdSpec :=
  { opcode := 0x0323, change := false, len := lenIs 4
    values := fun c _ => indexOk c 1023
    conds := fun c s => range (curObj s .cont (c.u16 0)).isSome 0
    apply := answer fun c s =>
      let x := contOf s (c.u16 0)
      (curObj s .cont (c.u16 0)).getD [] ++
        (if x.isOpen then le 1 1 ++ le 1 x.entries.length ++ le 2 x.fill ++ nsSec x.earliest ++ nsSec x.rel
         else zeros 24) }

/-- `CONT_FLUSH` (R276). -/
def contFlushSpec : CmdSpec :=
  { opcode := 0x0324, change := true, len := lenIs 4
    values := fun c _ => indexOk c 1023
    conds := fun c s => range ((curObj s .cont (c.u16 0)).isSome || (contOf s (c.u16 0)).isOpen) 0
    apply := quiet fun c s => contRelease (c.u16 0) none s }

/-! ### E2E -/

/-- `E2E_PROFILE_SET` (R307). -/
def e2eProfileSetSpec : CmdSpec :=
  { opcode := 0x0331, change := true, len := lenIs 32
    values := fun c _ =>
      let w := c.u8 3
      let bytes := (polyOf (c.u8 1)).1 / 8
      firstOf
        [ c.btw 0 1 1 255, c.upto 1 1 5, range (decide (c.u8 2 < 0x20)) 2, range ([0, 4, 8, 16].contains w) 3,
          if w = 0 then c.zero 8 2 else c.btw 8 2 1 (2 ^ w - 1),
          if w = 0 then c.zero 0xA 1 else c.btw 0xA 1 1 (c.u16 8),
          range (decide (c.u8 0xB < 8) && c.u8 0xB % 4 != 3) 0xB,
          range (bit (c.u8 0xB) 2 || decide (c.u32 0xC < 65536)) 0xC,
          range (decide (c.u64 0x10 < 2 ^ (8 * bytes))) 0x10, range (decide (c.u64 0x18 < 2 ^ (8 * bytes))) 0x18 ]
    conds := stageConds .e2e 0 1
    apply := stageParams .e2e 0 1 }

/-- A direct unit, 6 or 7. -/
def directOf (s : State) (u : Nat) : DirectUnit :=
  tget s.gw.direct { profile := 0, fed := [], count := 0, busyTill := 0 } u

/-- `E2E_COMPUTE` (R315, R323). -/
def e2eComputeSpec : CmdSpec :=
  { opcode := 0x0332, change := false
    len := fun ps => ps.length == 8 + 4 * ((leAt ps 2 2 + 3) / 4) && within ps.length 8 4076
    values := fun c _ => firstOf [c.btw 0 1 1 255, c.zero 1 1, c.btw 2 2 1 4068, c.zero 4 4]
    conds := fun c s => firstOf
      [ range (curObj s .e2e (c.u8 0)).isSome 0,
        need (!(decide (s.clk < (directOf s 6).busyTill) && decide (s.clk < (directOf s 7).busyTill))) stBusy ]
    apply := answer fun c s => match curObj s .e2e (c.u8 0) with
      | some pr => le 8 (e2eCrc pr (c.raw 8 (c.u16 2)))
      | none => [] }

/-- The direct units (R320). -/
def isDirect (u : Nat) : Bool := u == 6 || u == 7

/-- The word last written to a register of a direct unit (R320). -/
def keepE2e (u o v : Nat) (s : State) : State :=
  { s with host.regs := tset s.host.regs (unitBase 0x0300 + 0x0200 + 0x20 * (u - 6) + o) v }

/-- A write of `GW_E2E_CTRL` of direct unit `u` (R320). -/
def e2eCtrl (u : Nat) (v : Word) (s : State) : State :=
  if !isDirect u then s
  else
    let x := directOf s u
    let x := if v.getLsbD 8 then { x with fed := [], count := 0 } else x
    keepE2e u 0 (v.toNat % 2 ^ 9) { s with gw.direct := tset s.gw.direct u { x with profile := v.toNat % 256 } }

/-- A feed of 1, 2 or 4 bytes to direct unit `u`: held until the unit is free (R315). -/
def e2eFeed (u size : Nat) (v : Word) (s : State) : State :=
  if !isDirect u then s
  else
    let x := directOf s u
    let n := if size = 4 then 4 else if size = 2 then 2 else 1
    let y : DirectUnit := { x with
      fed := x.fed ++ le n v.toNat, count := x.count + BitVec.ofNat 32 n
      busyTill := max x.busyTill s.clk + (if n = 4 then 2 else 1) }
    keepE2e u (if n = 4 then 0x0C else if n = 2 then 0x08 else 0x04) (v.toNat % 256 ^ n)
      { s with gw.direct := tset s.gw.direct u y }

/-- The final value of a direct unit (R315): its profile's check value over the bytes fed. -/
def e2eResult (s : State) (u : Nat) : Option Nat :=
  (curObj s .e2e (directOf s u).profile).map fun pr => e2eCrc pr (directOf s u).fed

/-! ### Transport -/

/-- The ranges of a transport channel (R295). -/
def tpValues (c : Ctx) : Check :=
  let iso := c.u8 2 == 2
  firstOf
    [ c.upto 0 2 1023, c.upto 2 1 2, c.upto 3 1 1, c.gport 4 0 23, if iso then c.upto 5 1 2 else c.zero 5 1,
      range (!iso || [8, 12, 16, 20, 24, 32, 48, 64].contains (c.u8 7)) 7,
      range (decide (c.u32 8 < (if iso then 2 ^ 30 else 2 ^ 18))) 8,
      if iso then range (decide (c.u32 0xC < 2 ^ 30)) 0xC else c.zero 0xC 4,
      if iso then c.btw 0x10 2 1 16384 else c.btw 0x10 2 9 1785, c.upto 0x18 1 2, c.upto 0x19 1 7,
      c.upto 0x1A 2 (match c.u8 0x18 with
        | 0 => 127
        | 1 => 16383
        | _ => 1023),
      c.upto 0x1C 2 16383,
      if c.u8 2 == 0 && c.u8 3 == 1 then c.btw 0x1E 1 50 200 else none, c.zero 0x1F 1 ]

/-- `TP_CHANNEL_SET`. -/
def tpChannelSetSpec : CmdSpec :=
  { opcode := 0x0341, change := true, len := lenIs 32
    values := fun c _ => tpValues c
    conds := fun c s => firstOf
      [ range (c.u8 2 == 2 || j1939Set s (c.u8 4)) 4, stageCheck c.p .tpChannel (c.u16 0) s ]
    apply := stageParams .tpChannel 0 2 }

/-- A staged channel or route entry names a channel (R323). -/
def tpNamed (s : State) (o i : Nat) : Bool :=
  stagedAny s o .tpChannel (fun b => byteAt b 3 == 0 && byteAt b 0x18 == 2 && leAt b 0x1A 2 == i) || routeNames s o 4 i

/-- `TP_CHANNEL_REMOVE`. -/
def tpChannelRemoveSpec : CmdSpec :=
  { opcode := 0x0342, change := true, len := lenIs 4
    values := fun c _ => indexOk c 1023
    conds := removeConds .tpChannel tpNamed
    apply := removeObj .tpChannel }

/-- `TP_SESSION_QUERY`; the manual gives STATE no encoding, so it is a free byte. -/
def tpSessionQuerySpec : CmdSpec :=
  { opcode := 0x0343, change := false, len := lenIs 4
    values := fun c _ => indexOk c 1023
    apply := fun c s =>
      (s.gw.sessions.filter fun e => e.2.channel == c.u16 0).foldl (fun (a : State × Bytes) e =>
        let (v, s) := takeFreeBytes 1 a.1
        (s, a.2 ++ le 2 e.1 ++ le 1 e.2.peer ++ v ++ le 4 (min e.2.done e.2.total))) (s, []) }

/-- `TP_ABORT` (R306). -/
def tpAbortSpec : CmdSpec :=
  { opcode := 0x0344, change := true, len := lenIs 4
    values := fun c _ => indexOk c 2047
    apply := quiet fun c s => tpEnd (c.u16 0) 4 s }

/-! ### J1939 -/

/-- `J1939_BIND`: the binding takes the address its NAME holds (R288). -/
def j1939BindSpec : CmdSpec :=
  { opcode := 0x0351, change := true, len := lenIs 12
    values := fun c _ => firstOf [c.upto 0 2 1023, c.gport 2 0 31, c.zero 3 1]
    conds := fun c s => firstOf [range (j1939Set s (c.u8 2)) 2, stageCheck c.p .bind (c.u16 0) s]
    apply := quiet fun c s =>
      stage c.p .bind (c.u16 0) (some (c.ps ++ le 1 (claimAddr s (c.u8 2) (c.u64 4)))) s }

/-- A staged route entry or rewrite rule names a binding (R323). -/
def bindNamed (s : State) (o i : Nat) : Bool :=
  stagedAny s o .canExact (fun b => namesBinding b i) ||
    stagedAny s o .rewrite fun b => (byteAt b 8 == 3 && leAt b 0xA 2 == i) || (byteAt b 9 == 3 && leAt b 0xC 2 == i)

/-- `J1939_UNBIND`. -/
def j1939UnbindSpec : CmdSpec :=
  { opcode := 0x0352, change := true, len := lenIs 4
    values := fun c _ => indexOk c 1023
    conds := removeConds .bind bindNamed
    apply := removeObj .bind }

/-- `J1939_CLAIMS` (R287). -/
def j1939ClaimsSpec : CmdSpec :=
  { opcode := 0x0353, change := false, len := lenIs 4
    values := fun c _ => firstOf [c.gport 0 0 31, c.zero 1 3]
    apply := answer fun c s =>
      let g := c.u8 0
      let held := (s.gw.claims.filter fun e => e.1 / 256 == g).foldl (fun v e => v + 2 ^ (e.1 % 256)) 0
      le 32 held ++ (List.range 254).flatMap fun a => le 8 (tget s.gw.claims 0 (256 * g + a)) }

/-- An address or binding field of a rewrite rule under its mode (R292). -/
def ruleVal (c : Ctx) (mode o : Nat) : Check :=
  if mode = 2 then c.upto o 2 253 else if mode = 3 then c.upto o 2 1023 else none

/-- `J1939_REWRITE_SET`. -/
def j1939RewriteSetSpec : CmdSpec :=
  { opcode := 0x0354, change := true, len := lenIs 16
    values := fun c _ => firstOf
      [ c.upto 0 2 4095, range (decide (c.u8 2 ≤ 7) || c.u8 2 == 0xFF) 2, c.upto 3 1 1,
        range (decide (c.u32 4 < 2 ^ 18)) 4, c.upto 8 1 3, range ([0, 2, 3].contains (c.u8 9)) 9,
        ruleVal c (c.u8 8) 0xA, ruleVal c (c.u8 9) 0xC, c.gport 0xE 0 23, c.upto 0xF 1 7 ]
    conds := fun c s => firstOf [range (j1939Set s (c.u8 0xE)) 0xE, stageCheck c.p .rewrite (c.u16 0) s]
    apply := stageParams .rewrite 0 2 }

/-- `J1939_OWN_ADDRESS`. -/
def j1939OwnAddressSpec : CmdSpec :=
  { opcode := 0x0355, change := true, len := lenIs 12
    values := fun c _ => firstOf
      [c.gport 0 0 31, range (decide (c.u8 1 ≤ 253) || c.u8 1 == 0xFE) 1, c.zero 2 2]
    conds := fun c s => firstOf [range (j1939Set s (c.u8 0)) 0, stageCheck c.p .ownAddress (c.u8 0) s]
    apply := stageParams .ownAddress 0 1 }

/-- `GW_COUNTERS` (R321). -/
def gwCountersSpec : CmdSpec :=
  { opcode := 0x0361, change := false, len := lenIs 0
    apply := answer fun _ s => counterBlock s (gwCtr 0x0100) 29 }

end Sys2Proof.Machine
end

