-- ==== Sys2Proof/Machine/LinkOps.lean ====
section
/-!
DEFINITION. The Masaton link below its commands: credits and the choice of the next packet (R698, R699),
replay (R700), the link's state (R695), time on the link (R701-R704) and frames sent over it.
-/
namespace Sys2Proof.Machine

/-- The address of a counter of link `k` (R751). -/
def lnkCtr (k o : Nat) : Nat := portCtr (50 + k) o

/-- A packet as the device sends it; LSEQ and LACK are given when it leaves (R696). -/
def mkPacket (s : State) (typ vc dst hops pflags arg : Nat) (payload : Bytes) : LinkPacket :=
  { typ := typ, vc := vc, lseq := 0, lack := 0, src := s.pair.devId, dst := dst, hops := hops
    pflags := pflags, arg := arg, payload := payload, good := true }

/-- Types that carry LSEQ and use credits (R697). -/
def pktReplayable (p : LinkPacket) : Bool := within p.typ 1 5

/-- The bytes of a packet on the link (R696). -/
def pktSize (p : LinkPacket) : Nat := 24 + 8 * ((p.payload.length + 7) / 8)

/-- The credits a packet takes, in units of 128 bytes; a READ takes one (R698). -/
def pktCost (p : LinkPacket) : Nat :=
  if p.typ = 3 then 1 else max 1 ((p.payload.length + 127) / 128)

/-- The virtual channels, most urgent first (R699). -/
def vcOrder : List Nat := [12, 11, 10, 8, 9, 7, 6, 5, 4, 3, 2, 1, 0]

/-- MIRROR bytes sent in the current window of 10 µs (R699). -/
def mirrorUsed (s : State) (x : Link) : Nat := if x.mirrorWindow = s.now / us 10 then x.mirrorSent else 0

/-- Bytes kept for replay (R700). -/
def Link.keptBytes (x : Link) : Nat := (x.unacked.map pktSize).sum

/-- A packet may be sent now: credit, room for replay, and the MIRROR limit of 25,000 bytes in 10 µs
(R698-R700). -/
def lnkMaySend (s : State) (k : Nat) (p : LinkPacket) : Bool :=
  let x := linkOf s k
  !pktReplayable p ||
    (decide (pktCost p ≤ tget x.credits 0 p.vc) && decide (x.keptBytes + pktSize p ≤ 65536) &&
      (p.typ != 5 || decide (mirrorUsed s x + pktSize p ≤ 25000)))

/-- A packet leaves (R696, R698, R700). -/
def lnkTransmit (k : Nat) (p : LinkPacket) (s : State) : State :=
  let x := linkOf s k
  let s := bump (lnkCtr k 0x0100) s
  if pktReplayable p then
    let n := (x.txSeq + 1) % 65536
    let p := { p with lseq := n, lack := x.rxSeq }
    setLink k { x with
      txSeq := n
      unacked := x.unacked ++ [p]
      ackAt := if x.unacked.isEmpty then s.now else x.ackAt
      credits := tset x.credits p.vc (tget x.credits 0 p.vc - pktCost p)
      mirrorWindow := if p.typ = 5 then s.now / us 10 else x.mirrorWindow
      mirrorSent := if p.typ = 5 then mirrorUsed s x + pktSize p else x.mirrorSent } s
  else s

/-- The next packet a link sends: the oldest of the most urgent channel whose oldest may go (R699). -/
def lnkNext (s : State) (k : Nat) : Option LinkPacket :=
  vcOrder.findSome? fun v => ((linkOf s k).out.find? fun p => p.vc == v).filter (lnkMaySend s k)

/-- Send what may be sent, at most `n` packets. -/
def lnkPumpN (k : Nat) : Nat → State → State
  | 0, s => s
  | n + 1, s =>
    match lnkNext s k with
    | none => s
    | some p =>
      let x := linkOf s k
      lnkPumpN k n (lnkTransmit k p (setLink k { x with out := x.out.erase p } s))

/-- Send what may be sent. -/
def lnkPump (k : Nat) (s : State) : State :=
  if operUp s (50 + k) then lnkPumpN k (linkOf s k).out.length s else s

/-- Queue a packet on a link and send what may be sent. -/
def lnkSend (k : Nat) (p : LinkPacket) (s : State) : State :=
  let x := linkOf s k
  lnkPump k (setLink k { x with out := x.out ++ [p] } s)

/-- The credit a receiver's buffer of a channel is worth: free room of the account, or the buffer's size
(R698). -/
def vcRoom (s : State) (k v : Nat) : Nat :=
  if v < 8 then
    let a := account s (50 + k) v
    (a.res - a.resUsed) + min (a.share - a.sharedUsed) (sharedFree s)
  else
    match v with
    | 8 => 128
    | 9 => 32
    | 10 => 256
    | _ => 512

/-- Return the credit that has become free, with NAK where asked for (R697, R698, R700). -/
def lnkGrant (k : Nat) (nak : Bool) (s : State) : State :=
  let x := linkOf s k
  let gives := (List.range 12).map fun v => min 65535 (vcRoom s k v - tget x.granted 0 v)
  if !operUp s (50 + k) ∨ (!nak ∧ gives.all (· == 0)) then s
  else
    let granted := (List.range 12).foldl (fun m v => tset m v (tget x.granted 0 v + gives.getD v 0)) x.granted
    let p := mkPacket s 7 12 0xFF 31 (if nak then 2 else 0) 0 (gives.flatMap (le 2) ++ zeros 2)
    lnkSend k { p with lack := x.rxSeq } (setLink k { x with granted := granted } s)

/-! ### The state of a link (R695, R700) -/

/-- LINK_STATE (R754). -/
def linkState (k : Nat) (up : Bool) (cause : Nat) (s : State) : State :=
  raiseEvent (50 + k) 0x0111 (le 1 (b2n up) ++ le 1 cause) s

/-- A link's protocol starts anew when the link comes up (DESIGN CHOICE). -/
def Link.fresh (x : Link) : Link :=
  { x with txSeq := 0, rxSeq := 0, unacked := [], replays := 0, ackAt := 0, out := [], credits := [],
           granted := [], hbGot := none, hbSent := [], relays := [] }

/-- A change of a link's condition, with what its rise or fall brings (R353, R695, R751, R754). -/
def withLink (k cause : Nat) (f : Link → Link) (s : State) : State :=
  let was := operUp s (50 + k)
  let s := setLink k (f (linkOf s k)) s
  let up := operUp s (50 + k)
  if was = up then s
  else
    let s := setLink k (linkOf s k).fresh s
    if up then linkState k true cause (lnkGrant k false s)
    else linkState k false cause (bump (lnkCtr k 0x0120) (portEgressDown (50 + k) s))

/-- A replay begins, or the eighth replay has failed and the link goes down (R700). -/
def lnkReplay (k : Nat) (s : State) : State :=
  let x := linkOf s k
  if x.unacked.isEmpty then s
  else if 8 ≤ x.replays then withLink k 3 (fun x => { x with aligned := false }) s
  else
    setLink k { x with replays := x.replays + 1, ackAt := s.now }
      (bumpBy (lnkCtr k 0x0100) x.unacked.length (bump (lnkCtr k 0x0118) s))

/-- LACK has not advanced for 2 µs while packets are unacknowledged (R700). -/
def lnkReplayTimeout (k : Nat) (s : State) : State :=
  let x := linkOf s k
  if !operUp s (50 + k) ∨ x.unacked.isEmpty ∨ s.now < x.ackAt + us 2 then s else lnkReplay k s

/-- LACK acknowledges packets up to a sequence number (R696, R700). -/
def lnkAck (k lack : Nat) (s : State) : State :=
  let x := linkOf s k
  match x.unacked.findIdx? (fun p => p.lseq == lack) with
  | some i => setLink k { x with unacked := x.unacked.drop (i + 1), replays := 0, ackAt := s.now } s
  | none => s

/-! ### Time (R701-R704) -/

/-- The ingress and egress stamps of a packet at device-clock instants (R224, R701). -/
def lnkIngress (s : State) (cap : Tick) : Tick := nsTick (2 * stampOf s cap - 150)
def lnkEgress (s : State) (cap : Tick) : Tick := nsTick (2 * stampOf s cap + 110)

/-- `LNK_DELAY` (R702). -/
def Link.delay (x : Link) : Nat := if x.samples.isEmpty then 0 else x.samples.sum / x.samples.length

/-! ### Frames (R697, R704) -/

/-- The FRAME packet of a held frame sent at a stamp. -/
def framePacket (s : State) (k c : Nat) (f : Frame) (stamp : Tick) : LinkPacket :=
  let d := ethBody f (50 + k)
  match f.bus, rtcIngress f, rtcMessage s d with
  | none, some i, some _ => mkPacket s 1 c 0xFF 31 1 (2 * (stamp - i) % 2 ^ 32) d
  | _, _, _ => mkPacket s 1 c 0xFF 31 0 0 d

/-- A link selects and sends its next frame (R327, R697-R699); it leaves whole. -/
def lnkSelect (k : Nat) (cap : Tick) (s : State) : State :=
  let g := 50 + k
  let stamp := lnkEgress s cap
  let s := sweepPort g s
  if downForEgress s g then s
  else
    match pick s g (fun c h => !h.receiving && lnkMaySend s k (framePacket s k c h.frame stamp)) with
    | none => s
    | some (c, r, h) =>
      let f := h.frame
      if h.faulted then dropFault g c 1 r.fid f.flow s
      else
        let s := lnkTransmit k (framePacket s k c f stamp) (bump (swCtr g 0x40) (dequeue g c r.fid s))
        let s := txStampDone r.fid f.txRing (some stamp) s
        releaseRef r.fid (frameLeft f s.now s)

end Sys2Proof.Machine
end

