-- ==== Sys2Proof/Machine/PairOps.lean ====
section
/-!
DEFINITION. Heartbeats (R712-R714), the pair states and their elections (R715-R717, R727, R730), mirroring
(R720-R722) and the switchover (R723-R726).
-/
namespace Sys2Proof.Machine

/-! ### Settings and conditions (R715) -/

/-- Fields of `PAIR_CONFIG` (R715, R752). -/
def pairEnabled (s : State) : Bool := byteAt s.pair.raw 0 == 1
def peerDevOf (s : State) : Nat := byteAt s.pair.raw 1
def preferred (s : State) : Bool := byteAt s.pair.raw 2 == 1
def pairLink (s : State) (k : Nat) : Bool := bit (byteAt s.pair.raw 3) k
def holdOffS (s : State) : Nat := leAt s.pair.raw 4 4
def startWait (s : State) : Tick := ms (orDefault (leAt s.pair.raw 16 2) 500)

/-- The heartbeat and pin windows (R713, R714). -/
def hbWindowLen : Tick := us 30

/-- The peer's heartbeat arrives: its window runs (R714). -/
def hbValid (s : State) : Bool := match s.pair.hbLast with
  | some h => inWindow s.now h hbWindowLen
  | none => false

/-- The peer's pin is silent (R713). -/
def pinSilent (s : State) : Bool := match s.pair.pinLast with
  | some e => !inWindow s.now e hbWindowLen
  | none => true

/-- The peer shows READY in its last heartbeat (R712). -/
def peerReady (s : State) : Bool := bit s.pair.peerFlags 2

/-- HFLAGS of the next heartbeat (R712). -/
def hFlags (s : State) : Nat :=
  b2n s.pair.fail + 2 * b2n (preferred s) + 4 * b2n (s.pair.st == .standby) + 8 * b2n s.pair.reclaim +
    16 * b2n s.pair.handover + 32 * b2n (s.mode == .lee) + 64 * b2n (pairEnabled s)

/-- `HOST_SUMMARY.PAIR_ROLE` (R716). -/
def pairRole (s : State) : Nat := match s.pair.st with
  | .unpaired => 0
  | .active => 1
  | .isolated => if s.pair.wasActive then 1 else 2
  | .switching => 3
  | _ => 2

/-- The conditions of the hold-off window (R727). -/
def reclaimOk (s : State) : Bool :=
  preferred s && s.pair.st == .standby && !s.pair.hold && holdOffS s != 0 &&
    s.kernel.ledger.entries.all fun e => decide (e.severity < 2)

/-- R727's window follows its conditions. -/
def reclaimTrack (s : State) : State :=
  if reclaimOk s then
    { s with pair.reclaimFrom := some (s.pair.reclaimFrom.getD s.now) }
  else { s with pair.reclaimFrom := none, pair.reclaim := false }

/-! ### Starting and ending (R717, R730) -/

/-- A paired unit waits through START_WAIT_MS (R717); meanwhile it shows SYNCING. -/
def pairStart (s : State) : State :=
  if pairEnabled s then
    { s with pair.st := .syncing, pair.waitEnd := some (s.now + startWait s), pair.copied := false
             pair.keysAgree := false, pair.fail := false, pair.handover := false, pair.reclaim := false
             pair.reclaimFrom := none }
  else s

/-- Pairing ends at entry to Zephyr or Calm, or when it is disabled (R715, R730). -/
def pairEnd (s : State) : State :=
  { s with pair.st := .unpaired, pair.waitEnd := none, pair.copied := false, pair.keysAgree := false
           pair.fail := false, pair.handover := false, pair.reclaim := false, pair.reclaimFrom := none
           pair.hbLast := none, pair.pinLast := none, pair.peerState := 0, pair.peerFlags := 0
           pair.mirrorOut := [] }

/-- The unit takes the bulk copy (R717, R720, R722). -/
def toSyncing (reason : Nat) (s : State) : State :=
  setPairState .syncing reason { s with pair.waitEnd := none, pair.copied := false, pair.keysAgree := false
                                        pair.handover := false, pair.wasActive := false }

/-- The unit takes the active role without a switchover (R717). -/
def toActive (reason : Nat) (s : State) : State :=
  setPairState .active reason { s with pair.waitEnd := none, pair.handover := false, pair.reclaim := false }

/-- The unit becomes ISOLATED in its role (R714, R716, R717). -/
def toIsolated (asActive : Bool) (s : State) : State :=
  setPairState .isolated 5 { s with pair.waitEnd := none, pair.wasActive := asActive, pair.handover := false }

/-- START_WAIT_MS ends and the unit elects its role (R717). -/
def startWaitExpiry (s : State) : State :=
  match s.pair.waitEnd with
  | none => s
  | some e =>
    if s.now < e then s
    else if hbValid s then
      if s.pair.peerState = 3 then toSyncing 1 s
      else
        let theirs := bit s.pair.peerFlags 1
        if preferred s ≠ theirs then (if preferred s then toActive 1 s else toSyncing 1 s)
        else
          let s := raiseEvent 0x0900 0x0103 (le 1 (peerDevOf s)) s
          if s.pair.devId < peerDevOf s then toActive 1 s else toSyncing 1 s
    else if pinSilent s ∨ preferred s then toActive 1 s
    else toIsolated false s

/-! ### Mirroring (R720-R722) -/

/-- The copy of the current generation and of every mirrored object that an active sends to a peer in
SYNCING (R722). -/
def bulkCopy (s : State) : State :=
  let g := currentNum s
  let recs : List MirrorRec :=
    [.commit g ((currentObjs s).map fun e => (e.1, some e.2))] ++
      (s.tables.learned.map fun e => MirrorRec.learned e.1 e.2.gport e.2.locked) ++
      (s.gw.built.map fun e =>
        MirrorRec.pdu e.1 e.2.image (pduPending s e.1) e.2.counter e.2.lastTrig (e.2.due.getD 0)) ++
      (s.gw.conts.flatMap fun e => if e.2.isOpen then
        e.2.entries.map fun y => MirrorRec.container e.1 (entryRecord y) e.2.earliest else []) ++
      (s.ports.lin.filterMap fun e => match e.2.active with
        | some t => if e.2.commander && e.2.begun then some (MirrorRec.lin e.1 t e.2.slot e.2.slotEnd) else none
        | none => none) ++
      (s.policing.quarantines.map fun q => MirrorRec.quarantine q.kind q.target q.cause q.holdMs true) ++
      (s.cipher.secys.flatMap fun y => y.2.sas.filterMap fun a =>
        if a.1 < 64 then some (MirrorRec.macsecPn (y.1 * 256 + a.1) a.2.pn) else none) ++
      (s.cipher.fresh.map fun e => MirrorRec.securedFv e.1 e.2.1) ++
      (s.switch.seqGens.map fun e => MirrorRec.frerSeq e.1 e.2.next) ++
      (s.gw.own.map fun e => MirrorRec.ownAddress e.1 e.2.1 e.2.2)
  recs.foldl (fun s r => mirror r s) s

/-- An object enters an owner's staging with its way, where it needs one (R392). -/
def stageObject (o key : Nat) (v : Option Bytes) (s : State) : State :=
  let hashed (k : Kind) : State := match v with
    | some b => stageHashed o k (oindex key) b s
    | none => stageHashedDelete o k (oindex key) s
  if okind key = Kind.fdb.code then hashed .fdb
  else if okind key = Kind.canExact.code then hashed .canExact
  else { s with tables.staging := tset s.tables.staging o (tset (stagingOf s o) key v) }

/-- An owner's staging makes of the current content exactly this content. -/
def stageContent (o : Nat) (content : List (Nat × Option Bytes)) (s : State) : State :=
  let cur := currentObjs s
  let s := cur.foldl (fun s e => if content.any (fun c => c.1 == e.1) then s else stageObject o e.1 none s) s
  content.foldl (fun s c => if tget? cur c.1 = c.2 then s else stageObject o c.1 c.2 s) s

/-- The owner of the staging in which a standby commits what its active committed. -/
def mirrorOwner : Nat := 9

/-- The current generation becomes generation `gen` with exactly this content (R722). -/
def loadGeneration (gen : Nat) (content : List (Nat × Option Bytes)) (s : State) : State :=
  commitAs gen mirrorOwner (stageContent mirrorOwner content s)

/-- An entry read from its mirror record (R721). -/
def readEntry (b : Bytes) : ContEntry :=
  let w := leAt b 20 4
  let fl := byteAt b 25
  let c : CanFrame :=
    { id := w % 2 ^ 29, ide := bit w 29, rtr := bit w 30, fmt := byteAt b 24, brs := bit fl 0, esi := bit fl 1
      sec := false, enh := false, dlc := if byteAt b 24 ≤ 1 then dlcOf (leAt b 26 2) else 0
      dlen := leAt b 26 2, af := 0, sdt := 0, vcid := 0, data := b.drop 28 }
  { pdu := if byteAt b 18 = 1 then some (leAt b 19 2) else none
    tunnel := if byteAt b 18 = 2 then some (c, byteAt b 19) else none
    trig := leAt b 0 8, deadline := leAt b 8 8, len := leAt b 16 2 }

/-- A mirrored entry joins its open container. -/
def mirrorEntry (c : Nat) (b : Bytes) (deadline : Tick) (s : State) : State :=
  match contDef s (currentNum s) c with
  | none => s
  | some d =>
    let x := contOf s c
    let e := readEntry b
    let kept := if e.pdu.isSome then x.entries.filter fun y => y.pdu != e.pdu else x.entries
    setCont c { x with entries := kept ++ [e], isOpen := true, raw := d, earliest := deadline
                       rel := deadline - txEst s d - us (leAt d 8 4) } s

/-- A mirrored PDU: image, PENDING, counter, last trigger and next due instant; one that is not pending has
left its container. -/
def mirrorBuilt (i : Nat) (image : Bytes) (pending : Bool) (e2e last due : Nat) (s : State) : State :=
  let held := s.gw.conts.any fun e => e.2.entries.any fun y => y.pdu == some i
  let x : BuiltPdu :=
    { image := image, counter := e2e, lastTrig := last
      lastEmit := match tget? s.gw.built i with
        | some y => y.lastEmit
        | none => none
      due := if due = 0 then none else some due
      deferred := if pending && !held then some last else none }
  let s := setBuilt i x s
  if pending then s
  else
    { s with gw.conts := tmap s.gw.conts fun _ y =>
        let es := y.entries.filter fun z => z.pdu != some i
        { y with entries := es, isOpen := y.isOpen && !es.isEmpty } }

/-- A mirrored learned entry, move, lock or removal. -/
def mirrorLearned (key g : Nat) (locked : Bool) (s : State) : State :=
  if g = 0xFF then removeLearned (fun k _ => k == key) s
  else
    match tget? s.tables.learned key with
    | some e => { s with tables.learned := tset s.tables.learned key { e with gport := g, locked := locked } }
    | none =>
      let s := placeLearned { key := key, gport := g, at_ := s.now, gen := currentNum s } s
      match tget? s.tables.learned key with
      | some e => { s with tables.learned := tset s.tables.learned key { e with locked := locked } }
      | none => s

/-- The LIN position of the active (R721): the next slot's computed instant. -/
def mirrorLin (g t slot start : Nat) (s : State) : State :=
  let x := linOf s g
  let d := match (tget x.tables [] t)[slot]? with
    | some e => ms e.delayMs
    | none => 0
  setLin g { x with active := some t, slot := slot, begun := true, slotEnd := start + d } s

/-- A quarantine of the active begins or ends. -/
def mirrorQuarantine (kind target cause holdMs : Nat) (starts : Bool) (s : State) : State :=
  let rest := s.policing.quarantines.filter fun q => !(q.kind == kind && q.target == target)
  let q : Quarantine := { kind := kind, target := target, cause := cause, start := s.now, holdMs := holdMs
                          holdStart := s.now, again := false, dropped := 0 }
  { s with policing.quarantines := if starts then rest ++ [q] else rest }

/-- A standby applies one record (R721, R722); none where a commit does not follow its generation. -/
def applyRecord (r : MirrorRec) (s : State) : Option State :=
  match r with
  | .commit gen content =>
    if s.pair.st = .syncing && !s.pair.copied then
      some { loadGeneration gen content s with pair.copied := true }
    else if nextGenNum (currentNum s) = gen then
      some (commitAs gen mirrorOwner (content.foldl (fun s c => stageObject mirrorOwner c.1 c.2 s) s))
    else none
  | .learned key g locked => some (mirrorLearned key g locked s)
  | .pdu i image pending e2e last due => some (mirrorBuilt i image pending e2e last due s)
  | .container c b deadline => some (mirrorEntry c b deadline s)
  | .lin g t slot start => some (mirrorLin g t slot start s)
  | .quarantine kind target cause holdMs starts => some (mirrorQuarantine kind target cause holdMs starts s)
  | .macsecPn sa pn =>
    let y := secY s (sa / 256)
    some (match tget? y.sas (sa % 256) with
      | some a => setSecY (sa / 256) { y with sas := tset y.sas (sa % 256) { a with pn := pn } } s
      | none => s)
  | .securedFv i fv => some { s with cipher.fresh := tset s.cipher.fresh i (fv, (freshOf s i).2) }
  | .frerSeq i n =>
    let x := tget s.switch.seqGens { next := 0, generated := 0 } i
    some { s with switch.seqGens := tset s.switch.seqGens i { x with next := n } }
  | .ownAddress g sa name => some { s with gw.own := tset s.gw.own g (sa, name) }

/-- The standby leaves for SYNCING after a gap or a stall (R720). -/
def resync (s : State) : State := toSyncing 2 (bump (pairCtr 0x0120) s)

/-- Records applied in order; a commit that does not follow ends it in a resync. -/
def applyRecords : List MirrorRec → State → State
  | [], s => s
  | r :: rs, s =>
    match applyRecord r s with
    | some s => applyRecords rs
        (bump (pairCtr 0x0118) { s with pair.mirrorSeq := (s.pair.mirrorSeq + 1) % 2 ^ 32 })
    | none => resync s

/-- A standby takes the records of a MIRROR packet, the first of which has sequence `n` (R720). -/
def takeRecords (n : Nat) (recs : List MirrorRec) (s : State) : State :=
  if s.pair.st ≠ .standby ∧ s.pair.st ≠ .syncing then s
  else if (s.pair.st = .standby ∨ s.pair.copied) ∧ n ≠ (s.pair.mirrorSeq + 1) % 2 ^ 32 then resync s
  else
    applyRecords recs { s with pair.mirrorSeq := (n + 2 ^ 32 - 1) % 2 ^ 32 }

/-- The bulk copy is applied: STANDBY with READY where the keys agree, else PAIR_STATE with reason 4
(R722). -/
def syncComplete (agree : Bool) (s : State) : State :=
  if s.pair.st ≠ .syncing ∨ !s.pair.copied ∨ s.pair.waitEnd.isSome then s
  else if agree then setPairState .standby 3 { s with pair.keysAgree := true }
  else
    let c := PairSt.syncing.code
    raiseSafety 0x0900 0x0101 (le 1 c ++ le 1 c ++ le 1 4) { s with pair.keysAgree := false }

/-! ### The switchover (R721, R723-R726) -/

/-- The route for a device: none, or its link (R705). -/
def routeOf (s : State) (dev : Nat) : Option Nat :=
  match byteAt s.pair.routes dev with
  | 1 => some 0
  | 2 => some 1
  | _ => none

/-- The transmit PNs, TX_FVs and FRER sequences advance past what the failed unit may have used (R721). -/
def advanceCounters (s : State) : State :=
  let s := { s with
    cipher.secys := tmap s.cipher.secys fun _ y =>
      { y with sas := tmap y.sas fun k a => if k < 64 then { a with pn := min y.topPn (a.pn + 8192) } else a }
    switch.seqGens := tmap s.switch.seqGens fun _ x => { x with next := (x.next + 4) % 65536 } }
  s.cipher.fresh.foldl (fun s e =>
    let tx := e.2.1 + 512
    let s := { s with cipher.fresh := tset s.cipher.fresh e.1 (tx, e.2.2) }
    let persist := match curObj s .prot e.1 with
      | some b => pfPersist b
      | none => false
    if persist && tx / 2 ^ 16 != e.2.1 / 2 ^ 16 then monoWrite (mcTxFv e.1) (tx / 2 ^ 16 * 2 ^ 16) s else s) s

/-- The ports of SHARED (R715). -/
def sharedPorts (s : State) : List Nat := (List.range 50).filter fun g => bit (leAt s.pair.raw 8 8) g

/-- DURATION_NS: 1,680 cycles of FABCLK (R723, R31). -/
def switchNs (s : State) : Nat := if s.mode = .breeze then 8400 else 2100

/-- The unit takes over with a cause (R723, R725, R726). -/
def takeOver (cause : Nat) (s : State) : State :=
  let stale := s.pair.st == .syncing
  let s := bump (pairCtr 0x0100) { s with pair.st := .switching, pair.lastCause := cause }
  let s := if cause = 3 then bump (pairCtr 0x0108) s else s
  let s := if stale then
      ledgerAdd 9 0x0900 0 2 false (le 4 (currentNum s)) (setW1c 0x0900 0 6 0 s)
    else s
  let s := advanceCounters s
  let s := s.gw.conts.foldl (fun s e => contRelease e.1 none s) s
  let s := { s with pair.st := .active, pair.waitEnd := none, pair.handover := false, pair.reclaim := false
                    pair.reclaimFrom := none, pair.wasActive := false }
  let s := ((sharedPorts s).filter isCan).foldl (fun s g => orderOpmode g 0 s) s
  raiseSafety 0x0900 0x0102 (le 1 cause ++ zeros 3 ++ le 4 (switchNs s) ++ le 4 (currentNum s)) s

/-! ### Heartbeats (R712-R714) -/

/-- A heartbeat's payload (R712). -/
def hbPayload (s : State) (x : Link) (stamp : Tick) : Bytes :=
  let (echo, turn) := match x.hbGot with
    | some (n, t) => (n, 2 * (stamp - t))
    | none => (0, 0)
  le 4 (x.hbSeq + 1) ++ le 4 (nsOf stamp) ++ le 4 echo ++ le 4 turn ++ le 1 s.pair.st.code ++ le 1 (hFlags s) ++
    le 1 s.pair.devId ++ zeros 1 ++ le 4 (currentNum s) ++ le 4 s.pair.mirrorSeq ++ zeros 4

/-- Mirror records leave for the peer, each in a packet of its own (R720). -/
def mirrorPump (s : State) : State :=
  match routeOf s (peerDevOf s) with
  | none => s
  | some k =>
    let n := s.pair.mirrorOut.length
    let first := s.pair.mirrorSeq + 2 ^ 32 - n + 1
    (List.range n).foldl (fun s i =>
      let (b, s) := takeFreeBytes 60 s
      lnkSend k (mkPacket s 5 11 (peerDevOf s) 31 0 0 (le 4 ((first + i) % 2 ^ 32) ++ b)) s)
      { s with pair.mirrorOut := [] }

/-- Armature sends a heartbeat on every up link, once in each window of 10 µs (R712). -/
def heartbeatTx (s : State) : State :=
  let w := s.now / us 10
  let s := reclaimTrack s
  let s := if s.pair.st = .active ∧ bit s.pair.peerFlags 3 ∧ peerReady s ∧ !s.pair.hold ∧ hbValid s then
      { s with pair.handover := true }
    else s
  let send (s : State) (k : Nat) : State :=
    let x := linkOf s k
    if !operUp s (50 + k) ∨ x.hbWindow = some w then s
    else
      let stamp := lnkEgress s s.clk
      let p := { mkPacket s 6 12 0xFF 31 0 0 (hbPayload s x stamp) with lack := x.rxSeq }
      let s := setLink k { x with hbSeq := (x.hbSeq + 1) % 2 ^ 32, hbWindow := some w
                                  hbSent := (((x.hbSeq + 1) % 2 ^ 32, stamp) :: x.hbSent).take 64 } s
      lnkGrant k false (lnkSend k p s)
  mirrorPump (send (send s 0) 1)

/-- What a valid heartbeat of the peer brings (R714, R722, R724, R727). -/
def peerBeat (stamp : Tick) (b : Bytes) (s : State) : State :=
  let newSync := decide (byteAt b 16 = 1) && s.pair.peerState != 1
  let flags := byteAt b 17
  let s := { s with pair.hbLast := some stamp, pair.peerState := byteAt b 16, pair.peerFlags := flags
                    pair.peerGen := leAt b 20 4
                    pair.peerApplied := if standbyRole s then s.pair.peerApplied else leAt b 24 4 }
  if s.pair.waitEnd.isSome then s
  else
    match s.pair.st with
    | .isolated => if s.pair.wasActive then toActive 5 s else toSyncing 5 s
    | .standby =>
      if bit flags 0 then takeOver 2 s
      else if bit flags 4 then takeOver (if s.pair.reclaim then 3 else 4) s
      else s
    | .syncing => if bit flags 0 then takeOver 2 s else s
    | .active =>
      if s.pair.handover && s.pair.peerState == 3 then toSyncing 1 s
      else if newSync then bulkCopy s else s
    | _ => s

/-- A heartbeat arrives on a link at an ingress stamp (R702, R712, R714). -/
def heartbeatRx (k : Nat) (p : LinkPacket) (stamp : Tick) (s : State) : State :=
  let b := p.payload
  let x := linkOf s k
  let sample := match x.hbSent.find? fun e => e.1 == leAt b 8 4 with
    | some (_, t1) => [(2 * stamp + 2 * 10 ^ 9 - 2 * t1 % 10 ^ 9 - leAt b 12 4 % 10 ^ 9) % 10 ^ 9 / 2]
    | none => []
  let s := setLink k { x with hbGot := some (leAt b 0 4, stamp), peerDev := byteAt b 18 % 32
                              samples := (sample ++ x.samples).take 64 } s
  if pairEnabled s ∧ pairLink s k ∧ byteAt b 18 = peerDevOf s then peerBeat stamp b s else s

/-- The heartbeat or pin window ends without activity (R714). -/
def heartbeatLost (s : State) : State :=
  if s.pair.st = .unpaired ∨ s.pair.waitEnd.isSome then s
  else
    let lost := !hbValid s
    let s := match s.pair.hbLast with
      | some _ =>
        if lost then
          let s := [0, 1].foldl (fun s k => if pairLink s k then bump (lnkCtr k 0x0128) s else s) s
          { s with pair.hbLast := none, pair.peerFlags := 0, pair.peerState := 0 }
        else s
      | none => s
    let asActive := s.pair.st == .active || (s.pair.st == .isolated && s.pair.wasActive)
    match lost, pinSilent s, s.pair.st with
    | _, _, .failed => s
    | true, true, _ =>
      if asActive then toActive 5 s else takeOver 1 s
    | true, false, .isolated => s
    | true, false, _ => toIsolated asActive s
    | false, true, _ => setW1c 0x0900 0 5 0 s
    | false, false, _ => s

/-- PAIR_HB_OUT toggles every 5 µs (R713). -/
def hbOutToggle (s : State) : State :=
  if s.pair.pinToggled + us 5 ≤ s.now then { s with pair.pinOut := !s.pair.pinOut, pair.pinToggled := s.now } else s

/-- The hold-off window ends (R727). -/
def holdOffExpiry (s : State) : State :=
  let s := reclaimTrack s
  match s.pair.reclaimFrom with
  | some r => if r + holdOffS s * ticksPerSec ≤ s.now then { s with pair.reclaim := true } else s
  | none => s

/-- A standby has been unable to take records for 1 ms (R720). -/
def mirrorStall (s : State) : State := if s.pair.st = .standby then resync s else s

end Sys2Proof.Machine
end

