-- ==== Sys2Proof/Machine/LinkCmds.lean ====
section
/-!
DEFINITION. The commands of the links, of the cascade, of pairing and of remote access (R752, R753).
-/
namespace Sys2Proof.Machine

/-! ### Links -/

/-- `LNK_STATUS` (R748). -/
def lnkStatus (s : State) (k : Nat) : Nat :=
  let x := linkOf s k
  let valid : Bool := match x.hbGot with
    | some (_, t) => inWindow s.now t hbWindowLen
    | none => false
  b2n x.up + 2 * b2n x.lane0 + 4 * b2n x.lane1 + 8 * b2n x.aligned + 16 * b2n (x.replays != 0) +
    32 * b2n (w1cIs s (50 + k) 4 5) + 2 ^ 8 * x.peerDev + 2 ^ 13 * b2n valid

/-- `LNK_DELAY` (R702, R748). -/
def lnkDelay (s : State) (k : Nat) : Nat := min 0xFFFF (linkOf s k).delay

/-- `LNK_CONFIG` (R695, R703). -/
def lnkConfigSpec : CmdSpec :=
  { opcode := 0x0061, change := true, units := isLnk, len := lenIs 4
    values := fun c _ => firstOf [c.upto 0 1 1, c.upto 1 1 3, c.zero 2 2]
    apply := quiet fun c s => withLink (c.unit - 50) 1 (fun x => { x with admin := c.u8 0 == 1, time := c.u8 1 }) s }

/-- `LNK_QUERY`. -/
def lnkQuerySpec : CmdSpec :=
  { opcode := 0x0062, change := false, units := isLnk, len := lenIs 0
    apply := answer fun c s => le 4 (lnkStatus s (c.unit - 50)) ++ le 4 (lnkDelay s (c.unit - 50)) }

/-- `LNK_COUNTERS`. -/
def lnkCountersSpec : CmdSpec :=
  { opcode := 0x0063, change := false, units := isLnk, len := lenIs 0
    apply := answer fun c s => counterBlock s (portCtr c.unit 0x0100) 10 }

/-! ### Cascade and pairing -/

/-- SWITCHING or SYNCING: the settings may not change (R753). -/
def pairBusy (s : State) : Bool := s.pair.st == .switching || s.pair.st == .syncing

/-- `CASCADE_SET` (R705). -/
def cascadeSetSpec : CmdSpec :=
  { opcode := 0x0901, change := true, len := lenIs 36
    values := fun c _ => firstOf
      ([c.upto 0 1 31, c.zero 1 3] ++ (List.range 32).map fun d => c.upto (4 + d) 1 2)
    conds := fun _ s => need (!pairBusy s) stBusy
    apply := quiet fun c s => { s with pair.devId := c.u8 0, pair.routes := c.raw 4 32 } }

/-- The links of LINKS hold the route to PEER_DEV (R753; DEDUCED). -/
def routeInLinks (c : Ctx) (s : State) : Bool := match routeOf s (c.u8 1) with
  | some k => bit (c.u8 3) k
  | none => c.u8 3 == 0

/-- `PAIR_CONFIG` (R715, R717, R753); PEER_DEV and LINKS count where ENABLE is 1 (DEDUCED). -/
def pairConfigSpec : CmdSpec :=
  { opcode := 0x0902, change := true, len := lenIs 20
    values := fun c _ => firstOf
      [ c.upto 0 1 1, c.upto 1 1 31, c.upto 2 1 1, c.upto 3 1 3,
        range (c.u32 4 == 0 || within (c.u32 4) 10 3600) 4, range (decide (c.u64 8 < 2 ^ 50)) 8,
        c.btw0 16 2 100 10000, c.zero 18 2 ]
    conds := fun c s => firstOf
      [ range (c.u8 0 == 0 || c.u8 1 != s.pair.devId) 1, range (c.u8 0 == 0 || routeInLinks c s) 3,
        need (!pairBusy s) stBusy ]
    apply := quiet fun c s =>
      let s := { s with pair.raw := c.ps }
      if c.u8 0 = 0 then pairEnd (setPairState .unpaired 1 s)
      else if s.pair.st = .unpaired then pairStart (setPairState .syncing 1 s)
      else s }

/-- Seconds left of R727's window. -/
def holdOffLeft (s : State) : Nat := match s.pair.reclaimFrom with
  | some r => min 0xFFFF ((r + holdOffS s * ticksPerSec - s.now + ticksPerSec - 1) / ticksPerSec)
  | none => 0

/-- `PAIR_STATUS` (R749). -/
def pairStatus (s : State) : Nat :=
  s.pair.st.code + 8 * b2n (preferred s) + 16 * b2n (peerReady s) + 32 * b2n (w1cIs s 0x0900 0 5) +
    64 * b2n (w1cIs s 0x0900 0 6) + 128 * b2n s.pair.hold + 2 ^ 8 * peerDevOf s + 2 ^ 16 * holdOffLeft s

/-- `PAIR_MIRROR`: records sent and not yet applied (R749). -/
def mirrorLag (s : State) : Nat :=
  if standbyRole s then 0 else (s.pair.mirrorSeq + 2 ^ 32 - s.pair.peerApplied) % 2 ^ 32

/-- `PAIR_QUERY`. -/
def pairQuerySpec : CmdSpec :=
  { opcode := 0x0903, change := false, len := lenIs 0
    apply := answer fun _ s =>
      le 4 (pairStatus s) ++ le 4 (mirrorLag s) ++ le 1 s.pair.peerState ++ le 1 s.pair.peerFlags ++
        le 1 s.pair.lastCause ++ zeros 1 ++ le 4 s.pair.peerGen }

/-- The modes of a command that R752 accepts in Lee too. -/
def linkLee : List Mode := [.breeze, .gale, .lee, .atelier]

/-- `PAIR_SWITCH` (R728, R753). -/
def pairSwitchSpec : CmdSpec :=
  { opcode := 0x0904, change := true, modes := some linkLee, len := lenIs 4
    values := fun c _ => c.zero 0 4
    conds := fun _ s => firstOf [range (s.pair.st == .active) 0, need (peerReady s) stPeerAbsent]
    apply := quiet fun _ s => { s with pair.handover := true } }

/-- `PAIR_HOLD` (R728). -/
def pairHoldSpec : CmdSpec :=
  { opcode := 0x0905, change := true, modes := some linkLee, len := lenIs 4
    values := fun c _ => firstOf [c.upto 0 1 1, c.zero 1 3]
    apply := quiet fun c s => reclaimTrack { s with pair.hold := c.u8 0 == 1 } }

/-- `PAIR_COUNTERS`. -/
def pairCountersSpec : CmdSpec :=
  { opcode := 0x0906, change := false, len := lenIs 0
    apply := answer fun _ s => counterBlock s (pairCtr 0x0100) 6 }

/-! ### Remote access (R711) -/

/-- LEN of a remote access. -/
def remoteLen (c : Ctx) : Check := range (within (c.u32 12) 4 1024 && c.u32 12 % 4 == 0) 12

/-- Issue the READ of a remote read; its TAG is the next. -/
def remoteIssue (r : Remote) (s : State) : State :=
  match routeOf s (byteAt r.params 0) with
  | none => s
  | some k =>
    let tag := s.pair.nextTag
    let p := mkPacket s 3 9 (byteAt r.params 0) 31 0 tag (slice r.params 4 8 ++ slice r.params 12 4 ++ zeros 4)
    let s := { s with pair.nextTag := (tag + 1) % 65536, pair.remote := some { r with tag := tag } }
    lnkSend k p s

/-- `REMOTE_READ`: the READ is sent, and the reply waits for its completion. -/
def remoteReadSpec : CmdSpec :=
  { opcode := 0x0911, change := true, modes := some linkLee, len := lenIs 16
    values := fun c _ => firstOf [c.upto 0 1 31, c.zero 1 3, remoteLen c]
    conds := fun c s => need (routeOf s (c.u8 0)).isSome stPeerAbsent
    apply := quiet fun c s =>
      remoteIssue { partner := c.p, pkt := none, params := c.ps, tag := 0, started := s.now, retried := false } s }

/-- `REMOTE_WRITE`: the WRITE is sent, or waits on its link for credit. -/
def remoteWriteSpec : CmdSpec :=
  { opcode := 0x0912, change := true, modes := some linkLee
    len := fun ps => decide (16 ≤ ps.length) && ps.length == 16 + leAt ps 12 4
    values := fun c _ => firstOf [c.upto 0 1 31, c.zero 1 3, remoteLen c]
    conds := fun c s => need (match routeOf s (c.u8 0) with
      | some k => operUp s (50 + k)
      | none => false) stPeerAbsent
    apply := quiet fun c s =>
      match routeOf s (c.u8 0) with
      | none => s
      | some k => lnkSend k (mkPacket s 2 8 (c.u8 0) 31 0 0 (c.raw 4 8 ++ c.raw 16 (c.u32 12))) s }

end Sys2Proof.Machine
end

