-- ==== Sys2Proof/Machine/PowerOps.lean ====
section
/-!
DEFINITION. Operations of the power unit: banks (R617, R648), images (R633-R642), flushes (R616), wakes and
abandoned transitions (R626), and the segments of the frame buffer (R650).
-/
namespace Sys2Proof.Machine

/-- The address of a power counter (R656). -/
def pwrCtr (o : Nat) : Nat := unitBase 0x0700 + o

/-! ### Banks (R617, R648, R649) -/

/-- LNK0 or LNK1 is selected in Breeze. -/
def breezeLinks (s : State) : Bool := bit s.power.breezePorts 50 || bit s.power.breezePorts 51

/-- A bank's state: 0 off, 1 retention, 2 on (R617). -/
def bankState (s : State) (b : Nat) : Nat :=
  let seg := if within b 32 47 && s.switch.segOn.testBit (b - 32) then 2 else 0
  match s.mode with
  | .calm => 0
  | .zephyr => if within b 9 18 then 1 else 0
  | .breeze =>
    if b = 7 then (if breezeLinks s then 2 else 0) else if b = 18 then 1 else if b ≤ 17 then 2 else seg
  | .lee => if b ≤ 18 then 2 else seg
  | _ => if b ≤ 18 then tget s.power.bankSet 2 b else seg

/-- The kinds of object a table bank holds (R39). -/
def bankKinds (b : Nat) : List Kind :=
  if b = 9 then [.fdb] else if b = 10 then [.canExact, .canMask] else if b = 11 then [.lpm]
  else if b = 12 then [.sieve, .portSet] else if b = 13 then [.map] else if b = 14 then [.pdu, .cont, .e2e]
  else if b = 15 then [.flow] else if b = 16 then [.tpChannel] else []

/-- A live generation, a staging or the bank's master holds something in a bank (R649). -/
def bankHolds (s : State) (b : Nat) : Bool :=
  let has (n : Nat) : Bool := (bankKinds b).any fun k => k.code == okind n
  if b = 3 then !s.gw.built.isEmpty || !s.gw.source.isEmpty || s.gw.conts.any fun e => e.2.isOpen
  else if b = 4 then !s.gw.sessions.isEmpty || s.gw.sendQ.any fun e => !e.2.isEmpty
  else if b = 7 then s.links.any (fun e => e.2.admin) || !s.pair.mirrorOut.isEmpty
  else
    s.tables.gens.any (fun g => g.objs.any fun e => has e.1) ||
      s.tables.staging.any fun o => o.2.any fun e => has e.1 || b == 12

/-- The frame-buffer segments wanted (R333, R650). -/
def setSegments (mask : Nat) (s : State) : State :=
  poolGrown { s with switch.segWanted := mask, switch.segOn := s.switch.segOn ||| mask }

/-- A segment removed from the set switches off once its last cell is freed (R333). -/
def segmentOff (k : Nat) (s : State) : State :=
  if s.switch.segOn.testBit k && !s.switch.segWanted.testBit k && tget s.switch.segUsed 0 k == 0 then
    { s with switch.segOn := s.switch.segOn - 2 ^ k }
  else s

/-- A set of segments covers the reservations (R650). -/
def segmentsCover (s : State) (mask : Nat) : Bool :=
  bit mask 0 && bit mask 1 &&
    decide (reserved s + 4096 ≤ ((segments.filter fun k => bit mask k).map fun _ => 8192).sum)

/-! ### Images (R633-R638) -/

/-- An image slot. -/
def imageSlot (s : State) (i : Nat) : ImageSlot := tget s.power.images ImageSlot.empty i

/-- Its size (R633). -/
def imageSize (i : Nat) : Nat := if i < 2 then 2 ^ 24 else if i < 4 then 2 ^ 20 else 2 ^ 25

/-- `n` bytes of an image from an offset. -/
def imageBytes (s : State) (i o n : Nat) : Bytes := memReadBytes (imageSlot s i).bytes o n

/-- Header fields (R634). -/
def imageSvn (s : State) (i : Nat) : Nat := imageField s i 0x08 2
def imageHandover (s : State) (i : Nat) : Nat := imageField s i 0x0A 2
def imageVersion (s : State) (i : Nat) : Nat := imageField s i 0x0C 4
def imageLength (s : State) (i : Nat) : Nat := imageField s i 0x10 4

/-- The measurement of an image (R635). -/
def imageMeasure (s : State) (i : Nat) : Bytes := sha256 (imageBytes s i 0 0xC0)

/-- The payload of an image. -/
def imagePayload (s : State) (i : Nat) : Bytes := imageBytes s i 0x100 (imageLength s i)

/-- The header is well formed for its slot (R634, R636 row 1). -/
def imageFormed (s : State) (i : Nat) : Bool :=
  let h := imageBytes s i 0 0x100
  let kind := i / 2
  slice h 0 4 == [0x4C, 0x59, 0x53, 0x49] && leAt h 4 2 == 1 && byteAt h 6 == kind &&
    bits (byteAt h 7) 7 1 == 0 && (kind == 0 || (byteAt h 7 == 0 && leAt h 0x0A 2 == 0)) &&
    zeroAt h 0x14 12 && (kind == 1 || zeroAt h 0x40 32) && zeroAt h 0x60 96 &&
    decide (imageLength s i ≤ imageSize i - 256)

/-- The key that signs an image of a slot, where there is one (R635). -/
def imageKey (s : State) (i : Nat) : Option Bytes :=
  if i < 2 then some Config.lysrothFirmwareKey
  else if s.power.authority.isEmpty then none else some s.power.authority

/-- The SVN floor of a slot's kind (R641); an extension has its configuration's (DEDUCED, log entry 33). -/
def imageFloor (s : State) (i : Nat) : Nat := if i < 2 then s.power.fwFloor else s.power.cfgFloor

/-- A configuration image names an extension (R634). -/
def namesExtension (s : State) (i : Nat) : Bool := i / 2 == 1 && !zeroAt (imageBytes s i 0x40 32) 0 32

/-- The check of R636: the REASON of its first failure. Data that cannot be read ends it with 8. -/
def imageCheck (s : State) (i : Nat) (unreadable : Bool) : Option Nat :=
  let h := imageBytes s i 0 0x100
  if unreadable then some 8
  else if !imageFormed s i then some 1
  else
    match imageKey s i with
    | none => some 2
    | some k =>
      if !Config.ecdsaVerify k (imageMeasure s i) (slice h 0xC0 64) then some 2
      else if sha256 (imagePayload s i) != slice h 0x20 32 ||
          (namesExtension s i && imageMeasure s (i + 2) != slice h 0x40 32) then some 3
      else if imageSvn s i < imageFloor s i then some 4
      else none

/-- A slot takes a state, with IMAGE_STATE where it changes (R637, R642). -/
def setImage (i st reason : Nat) (booted : Bool) (s : State) : State :=
  let x := imageSlot s i
  let y : ImageSlot := { x with state := st, reason := reason, booted := booted }
  let s := { s with power.images := tset s.power.images i y }
  if x.state = st then s
  else
    raiseEvent 0x0700 0x0104
      (le 1 i ++ le 1 x.state ++ le 1 st ++ le 1 reason ++ le 2 (imageSvn s i) ++ zeros 2 ++ le 4 (imageVersion s i)) s

/-- The UPDATE_REFUSED record (R564, R636). -/
def updateRefused (i reason : Nat) (s : State) : State :=
  sealQueue 0x0012 (le 1 (if i < 2 then 0 else 1) ++ le 1 reason ++ le 2 (imageSvn s i) ++ zeros 2 ++
    (imageMeasure s i).take 16) s

/-- A slot becomes INVALID with a REASON. -/
def imageInvalid (i reason : Nat) (s : State) : State := setImage i 6 reason false (updateRefused i reason s)

/-- The slots of a slot's kind that are ACTIVE become PREVIOUS, and the slot becomes TRIAL (R642). -/
def makeTrial (i : Nat) (booted : Bool) (s : State) : State :=
  let o := i ^^^ 1
  let s := if (imageSlot s o).state = 4 then setImage o 5 0 false s else s
  setImage i 3 0 booted s

/-- The FW_ACTIVATE record (R564). -/
def sealFwActivate (i : Nat) (hitless : Bool) (p : Nat) (s : State) : State :=
  sealQueue 0x0010 (le 1 i ++ le 1 (b2n hitless) ++ le 2 (imageSvn s i) ++ le 1 p ++ zeros 1 ++
    (imageMeasure s i).take 16) s

/-- The running firmware becomes that of a slot. -/
def runFirmware (i : Nat) (s : State) : State :=
  { s with power.fwSlot := i, power.mFw := imageMeasure s i, power.fwSvn := imageSvn s i }

/-! ### Flushes (R616, R625) -/

/-- TX_FV and LATEST of every PERSIST profile go to the monotonic counters (R595). -/
def writeFreshness (s : State) : State :=
  (currentObjs s).foldl (fun s e =>
    if okind e.1 = Kind.prot.code ∧ byteAt e.2 2 = 1 ∧ bit (byteAt e.2 3) 0 then
      let i := oindex e.1
      monoWrite (mcLatest i) (freshOf s i).2 (monoWrite (mcTxFv i) (freshOf s i).1 s)
    else s) s

/-- What an emergency flush and an entry to Zephyr or Calm write (R616). -/
def flushAll (s : State) : State := sealAll (writeFreshness (writeUses (writeFloor s)))

/-- The emergency flush of a comparator (R616): FLUSH_US is a free value within 4 ms. -/
def emergencyFlush (c : Nat) (s : State) : State :=
  let (v, s) := takeFree 32 (flushAll s)
  raiseEvent 0x0700 0x0103 (le 1 c ++ zeros 3 ++ le 4 (v.toNat % 4001))
    (bump (pwrCtr 0x0130) (setW1c 0x0700 0x0030 16 0 s))

/-! ### Wakes (R615, R622, R626) -/

/-- MODE_CHANGE (R659). -/
def modeChange (old : Mode) (x : Transition) (cause : Nat) (s : State) : State :=
  raiseEvent 0x0700 0x0101
    (le 1 old.code ++ le 1 s.mode.code ++ le 1 cause ++ le 1 x.source ++ le 4 ((s.clk - x.started) / 500)) s

/-- A mode of the code given for WAKE_TARGET. -/
def wakeMode (n : Nat) : Mode := if n = 2 then .breeze else .gale

/-- A transition towards Zephyr or Calm that has not reached its commit point. -/
def enteringSleep (s : State) : Bool := match s.power.transition with
  | some x => (x.target == .zephyr || x.target == .calm) && s.mainUp
  | none => false

/-- It is abandoned (R626). -/
def abandonSleep (s : State) : State :=
  match s.power.transition with
  | none => s
  | some x =>
    let s := bump (pwrCtr 0x0100) { s with power.transition := none }
    modeChange s.mode x 8 s

/-- A wake starts the way out of Zephyr or Calm towards WAKE_TARGET (R615, R622). -/
def beginWake (cause source : Nat) (s : State) : State :=
  if s.power.transition.isSome then s
  else if s.mode = .zephyr then
    { beginTransition (wakeMode s.power.wakeTarget) cause source 0 s with power.lastWake := source }
  else if s.mode = .calm ∧ !s.power.mainEn then
    { beginTransition (wakeMode s.power.wakeTarget) cause source 0 s with
      power.lastWake := source, power.mainEn := true, power.enAt := s.clk, power.retry := false }
  else s

end Sys2Proof.Machine
end

