-- ==== Sys2Proof/Machine/SleepOps.lean ====
section
/-!
DEFINITION. Operations of the sleep unit (chapter "Network Sleep, Wake and Partial Operation"): ring
messages, presence, rounds, agreement, late wakes, ports held asleep and false wakes.
-/
namespace Sys2Proof.Machine

/-- The address of a sleep counter (R690). -/
def slpCtr (o : Nat) : Nat := unitBase 0x0800 + o

/-! ### Settings of `SLEEP_RING_SET` (R691, R785) -/

def ringNode (s : State) : Nat := leAt s.sleep.raw 0 2
def ringPorts (s : State) : List Nat := (List.range 52).filter (ringPort s)
def tokenPassMs (s : State) : Nat := orDefault (leAt s.sleep.raw 16 2) 10
def tokenTimeout (s : State) : Tick := ms (orDefault (leAt s.sleep.raw 18 2) 100)
def objectTicks (s : State) : Tick := ms (orDefault (leAt s.sleep.raw 20 2) 200)
def falseWakeMs (s : State) : Nat := orDefault (leAt s.sleep.raw 22 2) 1000
def awakeMaxS (s : State) : Nat := leAt s.sleep.raw 24 4

/-! ### The 9460's own need (R670) -/

/-- The partial networks that contain a port (R679). -/
def pnsOf (s : State) (g : Nat) : Nat :=
  (List.range 8).foldl (fun v p => if bit (tget s.sleep.pns 0 p) g then v + 2 ^ p else v) 0

/-- The ports of a set of partial networks. -/
def pnPorts (s : State) (mask : Nat) : Nat :=
  (List.range 8).foldl (fun v p => if bit mask p then v ||| tget s.sleep.pns 0 p else v) 0

/-- The port wakes that still give need. -/
def liveWakes (s : State) : List (Nat × Tick) :=
  s.sleep.wakes.filter fun w => decide (s.now < w.2 + ms (falseWakeMs s))

/-- Need that is no partner's: Atelier and hitless activation (R670, R687). -/
def firmNeed (s : State) : Bool := s.mode == .atelier || s.power.activating.isSome

/-- REQ (R670). -/
def ownReq (s : State) : Bool :=
  firmNeed s || s.sleep.holds.any (fun h => h.2.1) || (liveWakes s).any fun w => pnsOf s w.1 == 0

/-- PN_REQ (R670). -/
def ownPn (s : State) : Nat :=
  (liveWakes s).foldl (fun v w => v ||| pnsOf s w.1) (s.sleep.holds.foldl (fun v h => v ||| h.2.2) 0)

/-- The 9460 has need. -/
def hasNeed (s : State) : Bool := ownReq s || ownPn s != 0

/-! ### Presence (R666) -/

/-- The node ID of the master. -/
def masterNode (s : State) : Nat := s.sleep.present.headD 0

/-- The 9460 is master. -/
def isMaster (s : State) : Bool := s.sleep.st != .off && s.sleep.present.head? == some (ringNode s)

/-- The position of the own node in the presence set. -/
def ownRank (s : State) : Nat := s.sleep.present.idxOf (ringNode s)

/-- A presence change raises RING_NODE (R693). -/
def nodeEvent (n : Nat) (present : Bool) (s : State) : State :=
  raiseEvent 0x0800 0x0106 (le 2 n ++ le 1 (b2n present)) s

/-- A node enters the presence set. -/
def addNode (n : Nat) (s : State) : State :=
  if s.sleep.present.contains n then s
  else
    nodeEvent n true { s with
      sleep.present := s.sleep.present.filter (fun m => decide (m < n)) ++ n :: s.sleep.present.filter (fun m => decide (n < m)) }

/-- A node leaves it. -/
def removeNode (n : Nat) (s : State) : State :=
  if s.sleep.present.contains n then
    nodeEvent n false { s with sleep.present := s.sleep.present.filter fun m => m != n }
  else s

/-- The next node of the presence set after `n`, with wrap-around. -/
def nextNode (s : State) (n : Nat) : Nat :=
  match s.sleep.present.find? (fun m => decide (n < m)) with
  | some m => m
  | none => s.sleep.present.headD n

/-- A node number lies strictly between two others, in ascending order with wrap-around. -/
def between (a b n : Nat) : Bool :=
  if a < b then decide (a < n) && decide (n < b) else decide (a < n) || decide (n < b)

/-! ### States and messages (R661, R662, R675) -/

/-- The state changes (R675, R693). -/
def setSleepSt (st : SleepSt) (s : State) : State :=
  if s.sleep.st = st then s
  else
    raiseEvent 0x0800 0x0101
      (le 1 s.sleep.st.code ++ le 1 st.code ++ le 1 s.sleep.round ++ zeros 1 ++ le 2 (masterNode s))
      { s with sleep.st := st }

/-- The 8 bytes of a message of the own node. -/
def ringMessage (s : State) (typ : Nat) (late : Bool) (dst : Nat) : Bytes :=
  le 1 (0x10 + typ) ++ le 1 (b2n (ownReq s) + 2 * b2n late) ++ be 2 (ringNode s) ++ be 2 dst ++
    le 1 s.sleep.round ++ le 1 (ownPn s)

/-- The source of a message. -/
def msgSrc (m : Bytes) : Nat := beAt m 2 2

/-- A message leaves on one port in its medium's form (R661). -/
def ringSendOn (g : Nat) (m : Bytes) (s : State) : State :=
  let tc := Config.firmwareTc 2
  if isCan g then
    let f : CanFrame :=
      { id := leAt s.sleep.raw 12 4 + msgSrc m, ide := true, rtr := false, fmt := 0, brs := false, esi := false
        sec := false, enh := false, dlc := 8, dlen := 8, af := 0, sdt := 0, vcid := 0, data := m }
    cpuEmit g tc (some f) [] s
  else
    cpuEmit g tc none
      (slice s.sleep.raw 28 6 ++ [0x02, 0x4C, 0x59, 0x00] ++ be 2 (msgSrc m) ++ be 2 0x88B6 ++ m ++ zeros 38) s

/-- A message leaves on every ring port but one; a standby sends none (R664, R665). -/
def ringSendBut (but : Option Nat) (m : Bytes) (s : State) : State :=
  if standbyRole s then s
  else (ringPorts s).foldl (fun s g => if some g = but then s else ringSendOn g m s) s

/-- A message of the own node leaves on every ring port. -/
def ringSend (typ : Nat) (late : Bool) (dst : Nat) (s : State) : State :=
  ringSendBut none (ringMessage s typ late dst) s

/-- SLEEP_WAKE (R693). -/
def sleepWake (source : Nat) (late : Bool) (node : Nat) (stamp : Tick) (s : State) : State :=
  raiseFull 0x0800 0x0102 (le 1 source ++ le 1 (b2n late) ++ zeros 2 ++ le 2 node) stamp false false s

/-- The own REQ and PN_REQ as observed in the round. -/
def seeOwn (s : State) : State :=
  { s with sleep.seen := tset s.sleep.seen (ringNode s) (ownReq s, ownPn s) }

/-- The token goes to the node after `from_` (R667-R669); a node alone passes it to itself. -/
def sendToken (from_ : Nat) (s : State) : State :=
  let dst := nextNode s from_
  let s := seeOwn (ringSend 2 false dst s)
  if dst = ringNode s then { s with sleep.holding := some (s.sleep.round, s.now), sleep.sent := none }
  else { s with sleep.sent := some (dst, s.now), sleep.holding := none }

/-- The ring is joined (R667); a standby takes no part in presence (R665). -/
def startJoining (s : State) : State :=
  let s := if standbyRole s then s else addNode (ringNode s) s
  let s := { s with sleep.joinEnd := some (s.now + tokenTimeout s), sleep.tokenAt := none, sleep.sent := none
                    sleep.holding := none, sleep.objection := none, sleep.objected := false
                    sleep.agreedAt := none, sleep.quiet := 0, sleep.noReq := 0, sleep.seen := []
                    sleep.overruled := none, sleep.awake := none }
  ringSend 1 false 0xFFFF (setSleepSt .joining s)

/-! ### Waking and holding ports (R680-R684) -/

/-- The bytes of `WAKE_PORT_SET` of a port. -/
def wakePortRaw (s : State) (g : Nat) : Bytes := tget s.sleep.wakePorts (zeros 16) g

/-- TC10_EN of a port. -/
def tc10On (s : State) (g : Nat) : Bool := bit (byteAt (wakePortRaw s g) 1) 0

/-- A network is woken on one port (R683). -/
def wakePort (g : Nat) (s : State) : State :=
  let ring (s : State) : State :=
    if ringPort s g ∧ !standbyRole s then ringSendOn g (ringMessage s 5 false 0xFFFF) s else s
  if isCan g then
    let s := canDriveSof g (setTrx g 0 50 s)
    let w := tget s.sleep.wakeFrames (zeros 16) g
    let f : CanFrame :=
      { id := leAt w 4 4 % 2 ^ 29, ide := bit (leAt w 4 4) 29, rtr := bit (leAt w 4 4) 30, fmt := 0, brs := false
        esi := false, sec := false, enh := false, dlc := byteAt w 1, dlen := byteAt w 1, af := 0, sdt := 0
        vcid := 0, data := slice w 8 (byteAt w 1) }
    ring (if bit (byteAt (wakePortRaw s g) 1) 1 then cpuEmit g (Config.firmwareTc 3) (some f) [] s else s)
  else if isLin g then
    if (linOf s g).commander then { s with sleep.linAfter := tset s.sleep.linAfter g (s.now + ms 100) } else s
  else if isT1s g then
    if ringPort s g then ring s else ringSendOn g (ringMessage s 5 false 0xFFFF) s
  else if isEth g then
    if tc10On s g then ring s
    else
      let x := ethOf s g
      ring (setEth g { x with prst := x.prst && decide (s.clk < x.prstSince + us x.prstUs) } s)
  else ring s

/-- A port is held asleep (R681). -/
def holdPort (g : Nat) (s : State) : State :=
  if thas s.sleep.heldPorts g then s
  else
    let s := { s with sleep.heldPorts := tset s.sleep.heldPorts g (common s g).admin }
    let prst := (ethOf s g).prst
    let s := setAdmin g false s
    if isCan g then setTrx g 3 50 s
    else if isLin g then setLinEn g false s
    else
      let s := setEth g { ethOf s g with prst := prst } s
      if !isT1s g && tc10On s g then
        let x : Tc10 := { written := s.now, status := 0 }
        { s with sleep.tc10 := tset s.sleep.tc10 g x }
      else s

/-- A port held asleep is released (R680, R681, R683). -/
def releasePort (g : Nat) (s : State) : State :=
  match tget? s.sleep.heldPorts g with
  | none => s
  | some up =>
    let s := { s with sleep.heldPorts := tdel s.sleep.heldPorts g, sleep.tc10 := tdel s.sleep.tc10 g }
    let s := if isLin g then setLinEn g true s else s
    wakePort g (setAdmin g up s)

/-- Release the ports held asleep that a REQ, or PN_REQ bits, wake (R680, R683). -/
def releaseFor (req : Bool) (pn : Nat) (s : State) : State :=
  (s.sleep.heldPorts.map fun e => e.1).foldl (fun s g =>
    if req || (pnsOf s g &&& pn) != 0 then releasePort g s else s) s

/-! ### Wakes (R672-R678) -/

/-- A late wake (R678): source and waking node. -/
def lateWake (source node : Nat) (s : State) : State :=
  let s := if enteringSleep s then abandonSleep s else s
  let s := ringSend 5 true 0xFFFF s
  let s := releaseFor true 0xFF s
  let s := sleepWake source true node s.now (bump (slpCtr 0x0108) s)
  startJoining s

/-- The agreement instant has passed and the sleep is not complete (R677). -/
def sleepAgreed (s : State) : Bool := s.sleep.st == .agreed

/-- Need arises: held ports are woken; in PROPOSED a WAKE is sent, and after the agreement it is a late wake
(R672, R677, R683). -/
def needArises (source : Nat) (s : State) : State :=
  if !hasNeed s then s
  else if sleepAgreed s then lateWake source 0xFFFF s
  else
    let s := releaseFor (ownReq s) (ownPn s) s
    if s.sleep.st = .proposed then
      let s := ringSend 5 false 0xFFFF s
      if isMaster s then { s with sleep.objected := true } else startJoining s
    else s

/-- The device goes to SLEEP_MODE (R674, R686). -/
def beginSleep (s : State) : State :=
  if (s.mode = .gale ∨ s.mode = .breeze) ∧ s.power.transition = none then
    beginTransition (if byteAt s.sleep.raw 3 = 0 then .zephyr else .calm) 2 0xFF 0 s
  else s

/-- The agreement instant of this node (R674). -/
def agree (stamp : Tick) (s : State) : State :=
  let s := { s with sleep.agreedAt := some stamp, sleep.objection := none }
  if hasNeed s then lateWake 0xFE 0xFFFF s
  else beginSleep (setSleepSt .agreed (bump (slpCtr 0x0118) s))

/-! ### Rounds (R671, R679, R680, R682, R687) -/

/-- The ports needed (R679). -/
def neededPorts (s : State) : Nat := pnPorts s (s.sleep.pnNeed ||| ownPn s)

/-- After a completed round: who is quiet, what is needed, and what follows of it. -/
def roundDone (s : State) : State :=
  let counted := (s.sleep.seen.filter fun (e : Nat × Bool × Nat) => e.2.1 && s.sleep.overruled != some e.1).map fun e => e.1
  let asked := (s.sleep.seen.filter fun (e : Nat × Bool × Nat) => e.2.1).map fun e => e.1
  let pn := s.sleep.seen.foldl (fun v e => v ||| e.2.2) 0
  let cleared := s.sleep.overruled.filter fun n => match tget? s.sleep.seen n with
    | some x => x.1
    | none => true
  let s := { s with
    sleep.quiet := if counted.isEmpty ∧ pn = 0 then satAdd 0xFF s.sleep.quiet 1 else 0
    sleep.noReq := if counted.isEmpty then satAdd 0xFF s.sleep.noReq 1 else 0
    sleep.lastReq := asked
    sleep.pnNeed := pn, sleep.overruled := cleared, sleep.seen := [] }
  let s := { s with sleep.awake := match counted with
    | [n] => if isMaster s ∧ awakeMaxS s ≠ 0 then
        (match s.sleep.awake with
          | some (m, a) => if m = n then some (m, a) else some (n, s.now)
          | none => some (n, s.now))
      else none
    | _ => none }
  let need := neededPorts s
  let s := if 2 ≤ s.sleep.noReq then
      (List.range 50).foldl (fun s g => if pnsOf s g != 0 && !bit need g then holdPort g s else s) s
    else s
  let want := (List.range 54).filter fun g => bit need g || ringPort s g
  let fits := want.all fun g => bit s.power.breezePorts g
  if s.power.transition.isSome then s
  else if s.mode = .gale ∧ 2 ≤ s.sleep.noReq ∧ fits = true then beginTransition .breeze 2 0xFF 0 s
  else if s.mode = .breeze ∧ (!counted.isEmpty ∨ (List.range 54).any (fun g => bit need g && !bit s.power.breezePorts g)) then
    beginTransition .gale 2 0xFF 0 s
  else s

/-- The ring port's firmware runs (R618). -/
def ringRuns (s : State) : Bool := tsclkRuns s && s.sleep.st != .off

/-! ### Messages received (R663-R676) -/

/-- A message is well formed (R663). -/
def ringMsgOk (m : Bytes) : Bool :=
  let ty := byteAt m 0 % 16
  m.length == 8 && byteAt m 0 / 16 == 1 && within ty 1 5 && bits (byteAt m 1) 7 2 == 0 &&
    decide (msgSrc m < 1024) && (if ty = 2 then decide (beAt m 4 2 < 1024) else beAt m 4 2 == 0xFFFF)

/-- A TOKEN is seen (R666-R669, R680). -/
def tokenSeen (m : Bytes) (stamp : Tick) (s : State) : State :=
  let src := msgSrc m
  let dst := beAt m 4 2
  let round := byteAt m 6
  let req := bit (byteAt m 1) 0
  let s := (s.sleep.present.filter fun n => between src dst n).foldl (fun s n => removeNode n s) s
  let s := if round ≠ s.sleep.round ∧ !isMaster s then roundDone s else s
  let s := { s with sleep.round := round, sleep.tokenAt := some stamp
                    sleep.seen := tset s.sleep.seen src (req, byteAt m 7)
                    sleep.sent := match s.sleep.sent with
                      | some (n, a) => if n = src then none else some (n, a)
                      | none => none }
  let s := releaseFor req (byteAt m 7) s
  let s := if s.sleep.st = .joining ∨ s.sleep.st = .proposed then
      setSleepSt .ring { s with sleep.joinEnd := none, sleep.objection := none }
    else s
  if dst = ringNode s ∧ !standbyRole s then { s with sleep.holding := some (round, stamp) } else s

/-- A WAKE is seen (R672, R673, R676, R677). -/
def wakeSeen (m : Bytes) (stamp : Tick) (s : State) : State :=
  let src := msgSrc m
  if isMaster s ∧ s.sleep.overruled = some src then bump (slpCtr 0x0140) s
  else
    let s := releaseFor (bit (byteAt m 1) 0) (byteAt m 7) s
    match s.sleep.st with
    | .agreed => lateWake 0xFE src s
    | .proposed =>
      let s := sleepWake 0xFE false src stamp s
      match isMaster s, s.sleep.objection with
      | true, some i => if inWindow stamp i (objectTicks s) then { s with sleep.objected := true } else startJoining s
      | _, _ => startJoining s
    | .ring => startJoining (sleepWake 0xFE false src stamp s)
    | _ => s

/-- A ring message arrives on a port (R663, R664). -/
def ringRx (g : Nat) (m : Bytes) (stamp : Tick) (s : State) : State :=
  if !ringRuns s || !ringPort s g then s
  else if !ringMsgOk m then bump (slpCtr 0x0150) s
  else
    let near := s.sleep.recent.filter fun x => decide (stamp < x.2 + ms 20)
    let dup := near.any fun x => x.1 == m
    let s := { s with sleep.recent := near ++ [(m, stamp)] }
    if dup then bump (slpCtr 0x0150) s
    else
      let s := bump (slpCtr 0x0148) s
      let s := ringSendBut (some g) m s
      let s := { s with sleep.falseWakes := s.sleep.falseWakes.map fun w => (w.1, w.2.1, true) }
      let s := addNode (msgSrc m) s
      match byteAt m 0 % 16 with
      | 2 => tokenSeen m stamp s
      | 3 =>
        if s.sleep.st = .ring ∨ s.sleep.st = .joining then
          let s := setSleepSt .proposed { s with sleep.objection := some stamp, sleep.objected := false }
          if hasNeed s then needArises 0xFE s else s
        else s
      | 4 => if s.sleep.st = .ring ∨ s.sleep.st = .joining ∨ s.sleep.st = .proposed then agree stamp s else s
      | 5 => wakeSeen m stamp s
      | _ => s

/-- The token held is passed, or the master ends the round (R668, R672). -/
def tokenPass (s : State) : State :=
  match s.sleep.holding with
  | none => s
  | some _ =>
    if !ringRuns s then s
    else if isMaster s then
      let s := roundDone { seeOwn s with sleep.holding := none }
      if s.power.transition.isNone ∧ 2 ≤ s.sleep.quiet then
        let s := ringSend 3 false 0xFFFF s
        setSleepSt .proposed { s with sleep.objection := some s.now, sleep.objected := false, sleep.sent := none }
      else sendToken (ringNode s) { s with sleep.round := (s.sleep.round + 1) % 256 }
    else sendToken (ringNode s) s

/-- The joining window ends (R667). -/
def joinTimeout (s : State) : State :=
  match s.sleep.joinEnd with
  | some e =>
    if ringRuns s && decide (e ≤ s.now) && s.sleep.st == .joining then
      let s := { s with sleep.joinEnd := none }
      if isMaster s && s.sleep.tokenAt.isNone && !standbyRole s then
        sendToken (ringNode s) (setSleepSt .ring { s with sleep.round := 0, sleep.tokenAt := some s.now })
      else s
    else s
  | none => s

/-- A token recipient is silent (R669). -/
def tokenTimeoutEnd (s : State) : State :=
  match s.sleep.sent with
  | some (n, a) =>
    if ringRuns s && decide (a + tokenTimeout s ≤ s.now) then
      sendToken n (bump (slpCtr 0x0130) (removeNode n { s with sleep.sent := none }))
    else s
  | none => s

/-- No TOKEN has come in the window of the own rank: it is regenerated (R669). -/
def tokenLost (s : State) : State :=
  match s.sleep.tokenAt with
  | some r =>
    if ringRuns s && !standbyRole s && s.sleep.st == .ring && decide (r + (2 + ownRank s) * tokenTimeout s ≤ s.now) then
      sendToken (ringNode s)
        (bump (slpCtr 0x0128) { s with sleep.round := (s.sleep.round + 1) % 256, sleep.tokenAt := some s.now
                                       sleep.seen := [], sleep.quiet := 0, sleep.noReq := 0 })
    else s
  | none => s

/-- The objection window ends (R673). -/
def objectionEnd (s : State) : State :=
  match s.sleep.objection with
  | some i =>
    if ringRuns s && decide (i + objectTicks s ≤ s.now) then
      let s := { s with sleep.objection := none }
      if !isMaster s || s.sleep.st != .proposed then s
      else if s.sleep.objected then
        let s := bump (slpCtr 0x0120) { s with sleep.objected := false, sleep.quiet := 0, sleep.noReq := 0 }
        sendToken (ringNode s) (setSleepSt .ring { s with sleep.round := (s.sleep.round + 1) % 256 })
      else agree s.now (ringSend 4 false 0xFFFF s)
    else s
  | none => s

/-! ### Wake detectors (R235-R237, R670, R677, R685, R686) -/

/-- A wake of a port: need, release, and what the mode and the state of the sleep make of it. -/
def portWake (g source : Nat) (stamp : Tick) (s : State) : State :=
  let s := { s with sleep.wakes := liveWakes s ++ [(g, stamp)] }
  let opened (s : State) : State := { s with sleep.falseWakes := s.sleep.falseWakes ++ [(g, stamp, false)] }
  if s.mode = .zephyr then
    opened (beginWake 3 g { s with sleep.wakeEvents := s.sleep.wakeEvents ++ [(g, source, stamp)] })
  else
    let s := raiseFull g 0x0104 (le 1 source) stamp false false s
    if sleepAgreed s || enteringSleep s then lateWake g 0xFFFF s
    else
      let s := sleepWake g false 0xFFFF stamp (opened s)
      let s := releasePort g s
      let s := needArises g s
      if s.mode = .breeze ∧ !bit s.power.breezePorts g ∧ s.power.transition = none then
        bump (slpCtr 0x0100) (beginTransition .gale 3 g 0 { s with power.lastWake := g })
      else s

/-- SOURCE of WAKE_DETECT (R240) for a detector's source bit. -/
def wakeSource (g src : Nat) : Nat :=
  if isCan g then src + 1 else if isLin g then 3 else if isT1s g then 4 else 5

/-- A SLOWCLK period of 30,517.578125 ns in units of 2⁻³² ns (R488). -/
def slowFine : Nat := 125000000 * 2 ^ 20

/-- The stamp of a wake in Zephyr: `n` SLOWCLK periods and `k` WAKECLK cycles from the entry (R685). -/
def zephyrStamp (s : State) (n k : Nat) : Tick :=
  (s.it + n * slowFine + k * (500 * 2 ^ 32)) / 2 ^ 33

/-- A detector completes a detection (R235, R236): source bit 0 or 1. -/
def wakeDetect (g src n k : Nat) (s : State) : State :=
  if !decide (g < 50) || !bit (common s g).wakeSrc src || s.mode == .calm || (!s.mainUp && s.mode != .zephyr) then s
  else
    let s := if isCan g && src == 0 then setCan g { canOf s g with wflag := true } s
      else if isEth g && !isT1s g then setEth g { ethOf s g with phyWake := true } s else s
    portWake g (wakeSource g src) (if s.mode = .zephyr then zephyrStamp s n k else s.now) s

/-- A false-wake window of a port ends (R686). -/
def falseWakeEnd (g : Nat) (s : State) : State :=
  match s.sleep.falseWakes.find? fun w => w.1 == g && decide (w.2.1 + ms (falseWakeMs s) ≤ s.now) with
  | none => s
  | some w =>
    let s := { s with sleep.falseWakes := s.sleep.falseWakes.filter fun x => x != w }
    if w.2.2 || !tsclkRuns s then s
    else
      let s := raiseEvent 0x0800 0x0103 (le 1 g ++ zeros 3 ++ le 4 (falseWakeMs s)) (bump (slpCtr 0x0110) s)
      if hasNeed s || s.sleep.st == .off then s
      else beginSleep (setSleepSt .agreed { s with sleep.agreedAt := some s.now })

/-- The awake window ends uncancelled (R687, R688). -/
def awakeEnd (s : State) : State :=
  match s.sleep.awake with
  | some (n, a) =>
    if a + awakeMaxS s * ticksPerSec ≤ s.now ∧ isMaster s ∧ awakeMaxS s ≠ 0 then
      let s := { s with sleep.awake := none }
      if n = ringNode s ∧ firmNeed s then s
      else
        let s := bump (slpCtr 0x0138) { s with sleep.overruled := some n, sleep.ovrNode := n }
        let s := raiseEvent 0x0800 0x0104 (le 2 n ++ zeros 2 ++ le 4 (awakeMaxS s)) s
        ledgerAdd 0x0005 0x0800 n 1 false (le 2 n) s
    else s
  | none => s

/-! ### TC10 (R684) -/

/-- STAT_REG is read after a TC10 sleep write. -/
def tc10Poll (g stat : Nat) (s : State) : State :=
  match tget? s.sleep.tc10 g with
  | none => s
  | some x =>
    let mask := leAt (wakePortRaw s g) 12 2
    if s.now < x.written + ms 16 ∧ stat &&& mask = mask then { s with sleep.tc10 := tdel s.sleep.tc10 g }
    else { s with sleep.tc10 := tset s.sleep.tc10 g { x with status := stat } }

/-- The 16 ms window ends without acknowledgement. -/
def tc10End (g : Nat) (s : State) : State :=
  match tget? s.sleep.tc10 g with
  | none => s
  | some x =>
    if s.now < x.written + ms 16 then s
    else
      let s := bump (slpCtr 0x0158) { s with sleep.tc10 := tdel s.sleep.tc10 g }
      let s := setEth g { ethOf s g with prst := true, prstSince := s.clk } (setW1c 0x0800 0x0000 5 g s)
      raiseEvent 0x0800 0x0105 (le 1 g ++ zeros 1 ++ le 2 x.status) s

end Sys2Proof.Machine
end

