-- ==== Sys2Proof/Machine/ModeOps.lean ====
section
/-!
DEFINITION. Resets of the device and of its main domain (R612, R613, R629), supplies (R611), the transitions
between modes and what each mode changes (R617-R628, R737), and the comparators (R614-R616).
-/
namespace Sys2Proof.Machine

/-! ### Resets -/

/-- What the MRAM, the NOR and the fuses keep of Herax. -/
def heraxKept (h : Herax) : Herax :=
  { Herax.reset with
    lc := h.lc, fuseRoot := h.fuseRoot, bootCount := h.bootCount, kek := h.kek, store := h.store
    journal := h.journal, ring := h.ring, head := h.head, prevCp := h.prevCp, lcIntent := h.lcIntent
    eraseAtStart := h.eraseAtStart }

/-- The W1C bits the Plinth holds: the latched detections (R614, R655). -/
def plinthBits (l : List W1cBit) : List W1cBit :=
  l.filter fun w => w.addr == unitBase 0x0700 + 0x30 && within w.bit 8 15

/-- The whole device resets with the Plinth: what non-volatile memory, the host and the free values hold stays
(R612, R765). -/
def powerOnReset (s : State) : State :=
  let p := s.power
  let power : PowerUnit := { PowerUnit.reset with
    porst := p.porst, sysRst := p.sysRst, images := p.images, fwFloor := p.fwFloor, cfgFloor := p.cfgFloor
    authority := p.authority, mono := p.mono, resetAt := s.clk, pwrGood := p.pwrGood }
  let ledger : Ledger := { Kernel.reset.ledger with nextId := s.kernel.ledger.nextId, journal := s.kernel.ledger.journal }
  { State.reset with
    clk := s.clk, free := s.free, pending := s.pending, power := power, herax := heraxKept s.herax
    kernel.ledger := ledger, host.mem := s.host.mem }

/-- The main domain loses its contents (R613); the Plinth's and the non-volatile stay. Of the time base only
what was handed to the Plinth stays (R485, R488). -/
def clearMain (s : State) : State :=
  let p := s.power
  let power : PowerUnit := { p with
    transition := none, resetCause := 0, atelierMaxS := 0, atelierEnd := none, atelierPartner := 0
    breezePorts := 0, breezeSegs := 3, segMask := 0xFFFF, trained := false, adminSaved := [], bankSet := []
    fwSlot := 0, cfgSlot := 0, recovery := false, mFw := [], fwSvn := 0, mCfg := [], activating := none
    resetDue := none, held := false, monoWait := [], monoTimes := [] }
  let legal := if p.asleep then s.time.legal else legalFine s
  let time : TimeUnit := { TimeUnit.reset with
    legal := legal, valid := s.time.valid, uncertain := s.time.uncertain
    domains := if p.asleep then s.time.domains else [], refMode := if p.asleep then s.time.refMode else 0 }
  let ledger : Ledger := { Kernel.reset.ledger with nextId := s.kernel.ledger.nextId, journal := s.kernel.ledger.journal }
  let herax := { heraxKept s.herax with tamperWaiting := s.herax.tamperWaiting }
  let sleep := { Sleep.reset with wakeEvents := s.sleep.wakeEvents }
  { State.reset with
    clk := s.clk, free := s.free, pending := s.pending, power := power, herax := herax, time := time
    it := if p.asleep then s.it else 0
    rateAdj := if p.asleep then s.rateAdj else 0
    sleep := sleep, ports.latched := s.ports.latched && p.asleep
    kernel.ledger := ledger, kernel.w1c := plinthBits s.kernel.w1c, host.mem := s.host.mem }

/-- A reset of the main domain with a cause of R629; of causes within 1 µs the lowest counts. -/
def mainReset (cause : Nat) (s : State) : State :=
  let p := s.power
  let again := !s.mainUp && decide (p.nextCause ≠ 0) && decide (s.clk < p.resetAt + us 1)
  let c := if again then min p.nextCause cause else cause
  let s := clearMain s
  { s with power.nextCause := c, power.resetAt := if again then p.resetAt else s.clk }

/-- The reset that is due (R643, R657, R733). -/
def performReset (s : State) : State := match s.power.resetDue with
  | some c => if s.mainUp then mainReset c s else s
  | none => s

/-! ### Pins and supplies (R611-R613, R765-R768) -/

/-- PORST_N changes its level (R612). -/
def porstPin (low : Bool) (s : State) : State :=
  if low then powerOnReset { s with power.porst := true } else { s with power.porst := false }

/-- SYS_RST_N changes its level (R612, R768); in Calm there is no main domain to reset. -/
def sysRstPin (low : Bool) (s : State) : State :=
  let s := { s with power.sysRst := low }
  if low ∧ s.power.mainEn then mainReset 4 s else s

/-- VSTBY_1V8 drops: as PORST_N, with the Plinth's contents lost (R765). -/
def standbyDrop (s : State) : State := powerOnReset s

/-- SLOWCLK is stable after the release of PORST_N: the Plinth asks for the main group (R766). -/
def slowclkStable (s : State) : State :=
  if s.power.porst ∨ s.power.mainEn ∨ s.power.kept ∨ s.power.nextCause ≠ 1 ∨ s.mode ≠ .calm then s
  else { s with power.mainEn := true, power.enAt := s.clk, power.retry := false }

/-- PWR_GOOD has been high for 100 µs (R611). -/
def pwrGoodRise (s : State) : State := if s.power.mainEn then { s with power.pwrGood := true } else s

/-- PWR_GOOD falls (R613). -/
def pwrGoodFall (s : State) : State :=
  let s := { s with power.pwrGood := false }
  if s.power.mainEn then mainReset 6 s else s

/-- PWR_GOOD did not rise within 50 ms (R611): PWR_MAIN_EN is low for 10 ms and rises once more, or the
device returns to Calm. -/
def pwrGoodTimeout (s : State) : State :=
  if !s.power.mainEn ∨ s.power.pwrGood ∨ s.clk < s.power.enAt + ms 50 then s
  else if !s.power.retry then { s with power.retry := true, power.enAt := s.clk + ms 10 }
  else
    { clearMain s with power.mainEn := false, power.retry := false, power.nextCause := 6 }

/-! ### Ports, segments and pages of a mode (R617, R620, R621, R737) -/

/-- Set the admin state of a gport, link or wired. -/
def setAdminAny (g : Nat) (up : Bool) (s : State) : State :=
  if isLnk g then withLink (g - 50) 1 (fun x => { x with admin := up }) s else setAdmin g up s

/-- The gports with an admin state. -/
def adminPorts : List Nat := List.range 52

/-- Every port outside a selection goes admin down, and is restored on return to Gale (R621, R737). -/
def keepOnly (mask : Nat) (s : State) : State :=
  let out := adminPorts.filter fun g => !bit mask g && adminUp s g
  out.foldl (fun s g => setAdminAny g false s)
    { s with power.adminSaved := s.power.adminSaved ++ out.filter fun g => !s.power.adminSaved.contains g }

/-- The admin states held before are restored (R621). -/
def restoreAdmin (s : State) : State :=
  s.power.adminSaved.foldl (fun s g => setAdminAny g true s) { s with power.adminSaved := [] }

/-- The contexts whose translations stay in use in Breeze (R620). -/
def contextsInUse (s : State) : List Nat :=
  List.range 8 ++ (s.host.rings.filter fun e => e.2.st != 0).map (fun e => e.2.ctx) ++
    s.host.windows.map fun e => byteAt e.2.raw 1

/-- Pin or release the translations of a mode (R620). -/
def pinPages (on : Bool) (s : State) : State :=
  let used := contextsInUse s
  { s with host.ctxs := tmap s.host.ctxs fun c x =>
      if !on || used.contains c then { x with pages := tmap x.pages fun _ p => { p with pinned := on } } else x }

/-! ### Entering and leaving modes (R617-R628, R737) -/

/-- The ATELIER record (R564, R628). -/
def atelierRecord (phase : Nat) (s : State) : State :=
  sealQueue 0x0013 (le 1 phase ++ le 1 s.power.atelierPartner) s

/-- What leaving a mode does: Atelier is closed with its record (R624, R628). -/
def leaveMode (s : State) : State :=
  if s.mode = .atelier then { atelierRecord 2 s with power.atelierEnd := none } else s

/-- Breeze is entered (R617, R620, R621, R656). -/
def enterBreeze (s : State) : State :=
  let s := keepOnly s.power.breezePorts { s with mode := .breeze }
  lpddrLost (pinPages true (setSegments s.power.breezeSegs (bump (pwrCtr 0x0108) s)))

/-- Gale is entered again (R617, R621, R737): LPDDR5 leaves self-refresh, and a unit that held a Lee cause is
elected anew (DESIGN CHOICE). -/
def enterGale (s : State) : State :=
  let old := s.mode
  let s := { s with mode := .gale }
  if old = .atelier then s
  else
    let s := restoreAdmin (setSegments s.power.segMask (pinPages false { s with lpddrUp := s.power.trained }))
    if old = .lee then
      let s := { s with tables.epochStart := s.tables.epochStart.map fun _ => s.now }
      let s := raiseSafety 0x0A00 0x0102 (le 1 0 ++ le 1 s.safety.leeCause) s
      if s.pair.st = .failed then pairStart s else s
    else s

/-- Lee is entered (R247, R737, R754). -/
def enterLee (s : State) : State :=
  let s := bump (pwrCtr 0x0110) { s with mode := .lee, lpddrUp := s.power.trained }
  let s := keepOnly s.safety.leePorts (setSegments 0xFFFF s)
  let s := s.gw.conts.foldl (fun s e =>
    if e.2.isOpen && gwLee s (currentNum s) (leAt e.2.raw 0x10 2) then contDiscard e.1 s else s) s
  raiseSafety 0x0A00 0x0102 (le 1 1 ++ le 1 s.safety.leeCause) s

/-- Atelier is entered (R628). -/
def enterAtelier (x : Transition) (s : State) : State :=
  let s := bump (pwrCtr 0x0118) { s with
    mode := .atelier, power.atelierPartner := x.partner
    power.atelierEnd := some (s.now + s.power.atelierMaxS * ticksPerSec) }
  atelierRecord 1 s

/-- The transitions between modes in which TSCLK runs (R622). -/
def mayTurn (old new : Mode) : Bool := match old, new with
  | .gale, .breeze => true
  | .breeze, .gale => true
  | .gale, .lee => true
  | .breeze, .lee => true
  | .atelier, .lee => true
  | .lee, .gale => true
  | .gale, .atelier => true
  | .atelier, .gale => true
  | _, _ => false

/-- A transition completes (R622), in which TSCLK runs throughout; no other transition is possible. -/
def transitionDone (s : State) : State :=
  match s.power.transition with
  | none => s
  | some x =>
    if !mayTurn s.mode x.target then s
    else
      let old := s.mode
      let s := leaveMode { s with power.transition := none }
      let s := match x.target with
        | .breeze => enterBreeze s
        | .lee => enterLee s
        | .atelier => enterAtelier x s
        | _ => enterGale s
      { modeChange old x x.cause s with mode := x.target, mainUp := true }

/-- The ATELIER_MAX_S window ends (R628). -/
def atelierExpiry (s : State) : State :=
  match s.power.atelierEnd with
  | some e => if s.mode = .atelier ∧ e ≤ s.now ∧ s.power.transition = none then beginTransition .gale 6 0xFF 0 s else s
  | none => s

/-! ### Sleep (R617, R625, R627, R730) -/

/-- What a port keeps of its medium while it is off. -/
def portsOff (s : State) : State :=
  let s := { s with
    ports.can := tmap s.ports.can fun _ x => { CanPort.reset with
      config := x.config, bitN := x.bitN, bitD := x.bitD, bitX := x.bitX, tdc := x.tdc, opmode := x.opmode
      trxMode := x.trxMode, wflag := x.wflag }
    ports.lin := tmap s.ports.lin fun _ x => { x with
      syncSeen := false, awaiting := none, busy := false, begun := false, deferred := false }
    ports.eth := tmap s.ports.eth fun _ x => { x with
      lock := false, plcaOk := false, preemptSt := 0, pause := none, pfc := [], orders := [], heldSince := none }
    ports.latched := true }
  { s with links := tmap s.links fun _ x => { x.fresh with lane0 := false, lane1 := false, aligned := false } }

/-- The contents of the blocks that are off in Zephyr are lost; table memories and TCMs are retained (R617,
R627). -/
def zephyrClear (s : State) : State :=
  let learnedOut := s.tables.fdbSlots.filter fun e => e.2.use != SlotUse.learned
  let kernel : Kernel := { s.kernel with
    asyncs := [], counters := [], msix := [], w1c := plinthBits s.kernel.w1c
    partners := tmap s.kernel.partners fun _ x => { x with
      txn := none, resetRecs := []
      evq := { x.evq with rd := x.evq.wr, mark := x.evq.wr, rel := x.evq.wr, records := [], sig := x.evq.wr
                          firstUnsig := none, lost := 0 } }
    ledger := { s.kernel.ledger with entries := [], unpersisted := [] } }
  let s := portsOff { s with
    kernel := kernel
    tables.learned := [], tables.learnQ := [], tables.fdbSlots := learnedOut, tables.rehash := none
    tables.epoch := 0, tables.learnFail := none
    switch.held := [], switch.queues := [], switch.sending := [], switch.suspended := [], switch.ringIn := []
    switch.watched := [], switch.spillUsed := 0, switch.segUsed := [], switch.cpuIn := []
    switch.seqGens := [], switch.recoveries := [], switch.spillOn := false
    switch.accounts := tmap s.switch.accounts fun _ a =>
      { a with resUsed := 0, sharedUsed := 0, xoff := false, ordered := 0 }
    switch.fc := tmap s.switch.fc fun _ x => { x with samples := [], probe := none }
    policing.quarantines := [], policing.sources := tmap s.policing.sources fun _ x =>
      { x with count := 0, given := false, safetySeen := false }
    gw.built := [], gw.source := [], gw.conts := [], gw.sessions := [], gw.sendQ := [], gw.claims := []
    gw.stalled := [], gw.direct := []
    host.rings := tmap s.host.rings fun _ r => { r with fetch := none, writing := none, stamps := [], firstUnsig := none }
    host.writes := [], host.prefetch := [], host.kept := [], host.abortNext := [], host.internal := []
    host.linkUp := false, host.regs := []
    cipher.lanes := [], cipher.waiting := [], cipher.jobs := [], cipher.fresh := [], cipher.limits := []
    herax.bank := [], herax.challenge := none, herax.keysBlocked := false, herax.wipeBusy := false
    herax.queue := [], herax.lost := 0, herax.sealTimes := []
    power.monoWait := [], power.monoTimes := []
    time.domains := tmap s.time.domains fun _ x => if x.state = .disabled then x else
      { x with state := .acquiring, good := 0, grandmaster := false }
    safety := { Safety.reset with leePorts := s.safety.leePorts }
    lpddrUp := false }
  s

/-- The entry to Zephyr or Calm up to and through its commit point (R625). -/
def sleepEntry (s : State) : State :=
  match s.power.transition with
  | none => s
  | some x =>
    if !enteringSleep s ∨ !(s.mode = .gale ∨ s.mode = .breeze) then s
    else
      let s := flushAll s
      let (h, s) := if x.target = .zephyr then takeFreeBytes 32 s else ([], s)
      let s := { s with
        power.tcmHash := h, power.asleep := true, power.sleptAt := s.clk, power.transition := none
        sleep.st := if s.sleep.st = .off then .off else .asleep
        time.legal := legalFine s }
      let s := pairEnd s
      if x.target = .zephyr then
        { zephyrClear s with mode := .zephyr, mainUp := false, power.nextCause := 3 }
      else
        let s := clearMain { s with ports.latched := true }
        { s with mode := .calm, mainUp := false, power.mainEn := false, power.pwrGood := false
                 power.nextCause := 2 }

/-- CALM_AFTER_S passes in Zephyr without a wake (R622). -/
def calmAfterExpiry (s : State) : State :=
  if s.mode = .zephyr ∧ s.power.transition = none ∧ s.power.calmAfterS ≠ 0 ∧
      s.power.sleptAt + s.power.calmAfterS * ticksPerSec ≤ s.clk then
    let s := clearMain s
    { s with mode := .calm, power.mainEn := false, power.pwrGood := false, power.nextCause := 2 }
  else s

/-! ### Comparators (R614-R616) -/

/-- A comparator. -/
def comparatorOf (s : State) (c : Nat) : Comparator := tget s.power.comparators Comparator.off c

/-- Replace it. -/
def setComparator (c : Nat) (x : Comparator) (s : State) : State :=
  { s with power.comparators := tset s.power.comparators c x }

/-- The COMPARATOR event (R615, R659). -/
def comparatorEvent (c : Nat) (x : Comparator) (s : State) : State :=
  raiseEvent 0x0700 0x0102 (le 1 c ++ le 1 (b2n x.level) ++ le 1 (byteAt x.raw 3)) s

/-- A comparator detects a crossing (`on`), or its level leaves the threshold (R614-R616, R626). -/
def comparatorDetect (c : Nat) (on : Bool) (s : State) : State :=
  let x := comparatorOf s c
  if 7 < c ∨ byteAt x.raw 1 ≠ 1 then s
  else if !on then setComparator c { x with level := false } s
  else
    let y := { x with level := true }
    let act := byteAt x.raw 3
    if tsclkRuns s then
      let s := setComparator c y s
      let s := bump (pwrCtr 0x0138) (setW1c 0x0700 0x0030 (8 + c) c s)
      let s := if bit act 1 then comparatorEvent c y s else s
      let s := if bit act 2 then emergencyFlush c s else s
      if bit act 0 && enteringSleep s then abandonSleep s else s
    else
      let w : W1cBit := { addr := unitBase 0x0700 + 0x30, bit := 8 + c }
      let s := setComparator c { y with waiting := x.waiting || bit act 1 } s
      let s := if s.kernel.w1c.contains w then s else { s with kernel.w1c := s.kernel.w1c ++ [w] }
      if bit act 0 then beginWake 4 (0x40 + c) s else s

end Sys2Proof.Machine
end

