-- ==== Sys2Proof/Machine/PowerCmds.lean ====
section
/-!
DEFINITION. The commands of the power unit (R657, R658) and the completion of its asynchronous ones (R642,
R646).
-/
namespace Sys2Proof.Machine

/-! ### Modes -/

/-- The mode a TARGET names (R45). -/
def targetMode (n : Nat) : Mode := match n with
  | 0 => .calm
  | 1 => .zephyr
  | 2 => .breeze
  | 5 => .atelier
  | _ => .gale

/-- A transition that `MODE_REQUEST` may start (R622). -/
def mayRequest (old new : Mode) : Bool := match old, new with
  | .gale, .breeze => true
  | .breeze, .gale => true
  | .gale, .zephyr => true
  | .gale, .calm => true
  | .breeze, .zephyr => true
  | .breeze, .calm => true
  | .gale, .atelier => true
  | .atelier, .gale => true
  | _, _ => false

/-- `MODE_REQUEST` (R622, R623, R628, R658). -/
def modeRequestSpec : CmdSpec :=
  { opcode := 0x0701, change := true, len := lenIs 12
    values := fun c _ => firstOf
      [ range ([0, 1, 2, 3, 5].contains (c.u8 0)) 0, c.btw 1 1 2 3, c.zero 2 2,
        range (c.u32 4 == 0 || within (c.u32 4) 60 604800) 4,
        range (if c.u8 0 = 5 then within (c.u32 8) 60 86400 else c.u32 8 == 0) 8 ]
    conds := fun c s => firstOf
      [ need (mayRequest s.mode (targetMode (c.u8 0))) stWrongMode,
        need (c.u8 0 != 5 || (partner s c.p).service) stDenied,
        need s.power.transition.isNone stBusy ]
    apply := quiet fun c s =>
      let s := { s with power.wakeTarget := c.u8 1, power.calmAfterS := c.u32 4 }
      let s := if c.u8 0 = 5 then { s with power.atelierMaxS := c.u32 8 } else s
      beginTransition (targetMode (c.u8 0)) 1 0xFF c.p s }

/-- TARGET, 0 while no transition runs. -/
def targetCode (s : State) : Nat := match s.power.transition with
  | some x => x.target.code
  | none => 0

/-- The seconds left of Atelier's window. -/
def atelierLeft (s : State) : Nat := match s.power.atelierEnd with
  | some e => (e - s.now) / ticksPerSec
  | none => 0

/-- `MODE_QUERY`. -/
def modeQuerySpec : CmdSpec :=
  { opcode := 0x0702, change := false, len := lenIs 0
    apply := answer fun _ s =>
      le 1 s.mode.code ++ le 1 (targetCode s) ++ le 1 (b2n s.power.transition.isSome) ++
        le 1 s.power.wakeTarget ++ le 1 s.power.lastWake ++ le 1 s.power.resetCause ++ zeros 2 ++
        le 4 s.herax.bootCount ++ le 4 (atelierLeft s) }

/-- `BREEZE_CONFIG` (R658). -/
def breezeConfigSpec : CmdSpec :=
  { opcode := 0x0703, change := true, len := lenIs 12
    values := fun c _ => firstOf
      [range (decide (c.u64 0 < 2 ^ 54)) 0, range (c.u16 8 % 4 == 3) 8, c.zero 10 2]
    conds := fun _ s => need (s.mode != .breeze) stBusy
    apply := quiet fun c s => { s with power.breezePorts := c.u64 0, power.breezeSegs := c.u16 8 } }

/-- `POWER_BANK_SET` (R649). -/
def powerBankSetSpec : CmdSpec :=
  { opcode := 0x0704, change := true, modes := some [.gale, .atelier], len := lenIs 4
    values := fun c _ => firstOf
      [range ([3, 4, 7].contains (c.u8 0) || within (c.u8 0) 9 16) 0, c.upto 1 1 2, c.zero 2 2]
    conds := fun c s =>
      need (c.u8 1 == 2 || bankState s (c.u8 0) != 2 || !bankHolds s (c.u8 0)) stBusy
    apply := quiet fun c s =>
      let s := { s with power.bankSet := tset s.power.bankSet (c.u8 0) (c.u8 1) }
      if c.u8 0 = 9 ∧ c.u8 1 = 0 then removeLearned (fun _ _ => true) s else s }

/-- `FB_SEGMENT_SET` (R333, R650); Breeze and Lee have segments of their own (R617). -/
def fbSegmentSetSpec : CmdSpec :=
  { opcode := 0x0705, change := true, len := lenIs 4
    values := fun c _ => c.zero 2 2
    conds := fun c s => need (segmentsCover s (c.u16 0)) stNoRoom
    apply := quiet fun c s =>
      let s := { s with power.segMask := c.u16 0 }
      if s.mode = .breeze ∨ s.mode = .lee then s else setSegments (c.u16 0) s }

/-- `COMPARATOR_SET` (R614). -/
def comparatorSetSpec : CmdSpec :=
  { opcode := 0x0706, change := true, len := lenIs 12
    values := fun c _ => firstOf
      [ c.upto 0 1 7, c.upto 1 1 1, c.upto 2 1 1, c.upto 3 1 7,
        range (within (c.u16 4) 100 1700 && c.u16 4 % 50 == 0) 4,
        range ([0, 25, 50, 100].contains (c.u8 6)) 6, c.zero 7 1, c.btw 8 4 10 100000 ]
    apply := quiet fun c s => setComparator (c.u8 0) { comparatorOf s (c.u8 0) with raw := c.ps } s }

/-- `DEVICE_RESET` (R657). -/
def deviceResetSpec : CmdSpec :=
  { opcode := 0x0707, change := true, modes := some [.breeze, .gale, .lee, .atelier], len := lenIs 4
    values := fun c _ => c.zero 0 4
    apply := quiet fun _ s => resetDue 5 s }

/-! ### Images (R642-R646) -/

/-- An erase of a slot runs. -/
def erasing (s : State) (i : Nat) : Bool := (findAsync 0x0710 (fun a => byteAt a.params 0 == i) s).isSome

/-- A slot in use: ACTIVE or TRIAL. -/
def imageInUse (s : State) (i : Nat) : Bool := (imageSlot s i).state == 3 || (imageSlot s i).state == 4

/-- `IMAGE_ERASE` (R642, R658). -/
def imageEraseSpec : CmdSpec :=
  { opcode := 0x0710, change := true, service := true, modes := some [.atelier], async := true, len := lenIs 4
    values := fun c _ => firstOf [c.upto 0 1 5, c.zero 1 3]
    conds := fun c s => firstOf
      [need (!imageInUse s (c.u8 0)) stDenied, need (!erasing s (c.u8 0)) stBusy]
    apply := quiet fun _ s => s }

/-- An erase completes (R642). -/
def eraseDone (i : Nat) (ok : Bool) (s : State) : State :=
  match findAsync 0x0710 (fun a => byteAt a.params 0 == i) s with
  | none => s
  | some a =>
    if ok then
      let s := setImage i 0 0 false s
      let x := imageSlot s i
      cmdComplete a stDone { s with power.images := tset s.power.images i { x with bytes := [] } }
    else cmdComplete a stInternalMemory s

/-- The data of an `IMAGE_WRITE` goes into its slot, which is left WRITTEN. -/
def imageWritten (c : Ctx) (s : State) : State :=
  let (_, s) := takeFree 1 s
  let i := c.u8 0
  let x := imageSlot s i
  let y : ImageSlot := { x with bytes := memWriteBytes x.bytes (c.u32 4) (c.raw 16 (c.u32 8)) }
  setImage i 1 0 false { s with power.images := tset s.power.images i y }

/-- `IMAGE_WRITE` (R642, R658); whether the read-back differs is a free value. -/
def imageWriteSpec : CmdSpec :=
  { opcode := 0x0711, change := true, service := true, modes := some [.atelier]
    len := fun ps => decide (16 ≤ ps.length) && ps.length == 16 + leAt ps 8 4
    values := fun c _ => firstOf
      [ c.upto 0 1 5, c.zero 1 3, range (c.u32 4 % 4 == 0) 4,
        range (within (c.u32 8) 4 4060 && c.u32 8 % 4 == 0) 8, c.zero 12 4 ]
    conds := fun c s => firstOf
      [ range (decide (c.u32 4 + c.u32 8 ≤ imageSize (c.u8 0))) 4, need (!imageInUse s (c.u8 0)) stDenied,
        need (Config.freeValue 1 s.free == 0) stCheckFail ]
    apply := quiet imageWritten
    onReject := fun c r s => if r.status = stCheckFail then imageWritten c s else s }

/-- `IMAGE_VERIFY` (R636, R642, R658); of a slot in use it is DENIED (DESIGN CHOICE). -/
def imageVerifySpec : CmdSpec :=
  { opcode := 0x0712, change := true, service := true, modes := some [.atelier], async := true, len := lenIs 4
    values := fun c _ => firstOf [c.upto 0 1 5, c.zero 1 3]
    conds := fun c s => firstOf
      [need (!imageInUse s (c.u8 0)) stDenied, need (!erasing s (c.u8 0)) stBusy]
    apply := quiet fun _ s => s }

/-- A verification completes; `unreadable`: an uncorrectable error reading the image (R636). -/
def verifyDone (i : Nat) (unreadable : Bool) (s : State) : State :=
  match findAsync 0x0712 (fun a => byteAt a.params 0 == i) s with
  | none => s
  | some a =>
    match imageCheck s i unreadable with
    | none => cmdComplete a stDone (setImage i 2 0 false s)
    | some r => cmdComplete a stCheckFail (imageInvalid i r s)

/-- The header of a slot allows a hitless activation from the running firmware (R645). -/
def hitlessOk (s : State) (i : Nat) : Bool :=
  bit (byteAt (imageBytes s i 0 8) 7) 0 && imageHandover s i == imageHandover s s.power.fwSlot

/-- `FW_ACTIVATE` (R642, R643, R645). -/
def fwActivateSpec : CmdSpec :=
  { opcode := 0x0713, change := true, service := true, modes := some [.atelier], async := true, len := lenIs 4
    values := fun c _ => firstOf [c.upto 0 1 1, c.upto 1 1 1, c.zero 2 2]
    conds := fun c s => firstOf
      [ range ((imageSlot s (c.u8 0)).state == 2) 0,
        range (c.u8 1 == 0 || hitlessOk s (c.u8 0)) 0,
        need (findAsync 0x0713 (fun _ => true) s).isNone stBusy ]
    apply := quiet fun c s =>
      if c.u8 1 = 1 then { s with power.activating := some (c.u8 0, s.now) }
      else resetDue 0x0A (sealFwActivate (c.u8 0) false c.p (makeTrial (c.u8 0) false s))
    onReject := fun c r s =>
      if r.status = stBadValue ∧ c.u8 0 ≤ 1 ∧ c.u8 1 = 1 ∧ c.u16 2 = 0 ∧ (imageSlot s (c.u8 0)).state = 2 then
        updateRefused (c.u8 0) 7 s
      else s }

/-- A hitless activation reports ready within 40 ms, or has failed after them (R646). -/
def hitlessDone (ok : Bool) (s : State) : State :=
  match s.power.activating, findAsync 0x0713 (fun _ => true) s with
  | some (i, t0), some a =>
    if ok ∧ s.now ≤ t0 + ms 40 then
      let s := runFirmware i (makeTrial i true { s with power.activating := none })
      cmdComplete a stDone (bump (pwrCtr 0x0120) (sealFwActivate i true a.partner s))
    else if !ok ∧ t0 + ms 40 ≤ s.now then
      let s := imageInvalid i 6 { s with power.activating := none }
      cmdComplete a stInternalTimeout (bump (pwrCtr 0x0128) (setW1c 0x0700 0x0050 5 i s))
    else s
  | _, _ => s

/-- The payload of a configuration with its extension's (R633). -/
def cfgPayload (s : State) (i : Nat) : Bytes :=
  imagePayload s i ++ (if namesExtension s i then imagePayload s (i + 2) else [])

/-- The generation-bound content of a configuration image, by object number (R383, R644). -/
def cfgContent (s : State) (i : Nat) : List (Nat × Option Bytes) :=
  (Config.imageObjects (cfgPayload s i)).filterMap fun e =>
    if e.1 < 19 ∧ e.2.1 < 2 ^ 144 then some (e.1 * 2 ^ 144 + e.2.1, some e.2.2) else none

/-- `CFG_ACTIVATE` (R642, R644). -/
def cfgActivateSpec : CmdSpec :=
  { opcode := 0x0714, change := true, service := true, modes := some [.atelier], len := lenIs 4
    values := fun c _ => firstOf [c.btw 0 1 2 3, c.zero 1 3]
    conds := fun c s => firstOf
      [ range ((imageSlot s (c.u8 0)).state == 2) 0,
        need (s.tables.staging.all fun e => e.2.isEmpty) stBusy, need (canCommit s) stBusy ]
    apply := fun c s =>
      let i := c.u8 0
      let s := commitAll c.p (stageContent c.p (cfgContent s i) s)
      let s := makeTrial i false s
      let s := sealQueue 0x0011 (le 1 i ++ le 1 c.p ++ zeros 4 ++ (imageMeasure s i).take 16) s
      let s := { s with power.cfgSlot := i - 2, power.mCfg := imageMeasure s i }
      (s, le 4 (currentNum s) ++ le 4 (Config.imageSettings (cfgPayload s i)).length) }

/-- `IMAGE_CONFIRM` (R641, R642). -/
def imageConfirmSpec : CmdSpec :=
  { opcode := 0x0715, change := true, service := true, modes := some [.atelier], len := lenIs 4
    values := fun c _ => firstOf [c.upto 0 1 5, c.upto 1 1 1, c.zero 2 2]
    conds := fun c s => range ((imageSlot s (c.u8 0)).state == 3) 0
    apply := quiet fun c s =>
      let i := c.u8 0
      let s := setImage i 4 0 (imageSlot s i).booted s
      if c.u8 1 = 0 then s
      else if i < 2 then { s with power.fwFloor := max s.power.fwFloor (imageSvn s i) }
      else { s with power.cfgFloor := max s.power.cfgFloor (imageSvn s i) } }

/-- `IMAGE_QUERY`. -/
def imageQuerySpec : CmdSpec :=
  { opcode := 0x0716, change := false, len := lenIs 4
    values := fun c _ => firstOf [c.upto 0 1 5, c.zero 1 3]
    apply := answer fun c s =>
      let i := c.u8 0
      let x := imageSlot s i
      le 1 x.state ++ le 1 (b2n x.booted) ++ le 1 x.reason ++ zeros 1 ++ le 2 (imageSvn s i) ++
        le 2 (imageHandover s i) ++ le 4 (imageVersion s i) ++ le 4 (imageLength s i) ++ imageMeasure s i }

/-- `CFG_AUTHORITY_SET` (R635, R658). -/
def cfgAuthoritySetSpec : CmdSpec :=
  { opcode := 0x0717, change := true, service := true, modes := some [.atelier], len := lenIs 64
    conds := fun _ s => need (s.herax.lc != 2 && s.herax.lc != 4) stDenied
    apply := quiet fun c s => { s with power.authority := c.ps } }

/-- `PWR_COUNTERS`. -/
def pwrCountersSpec : CmdSpec :=
  { opcode := 0x0721, change := false, len := lenIs 0
    apply := answer fun _ s => counterBlock s (pwrCtr 0x0100) 8 }

end Sys2Proof.Machine
end

