-- ==== Sys2Proof/Machine/SafetyOps.lean ====
section
/-!
DEFINITION. The safety unit: detections and reactions (R733, R734), the clock monitor (R33), LBIST (R736),
admin and oper comparison (R739-R741), Lee by command (R737, R738) and the Fault Ledger's commands and journal
(R742-R747).
-/
namespace Sys2Proof.Machine

/-! ### Detections (R734) -/

/-- A condition lasts until it is withdrawn (R738). -/
def holdCondition (row : Nat) (s : State) : State :=
  { s with safety.conditions := if s.safety.conditions.contains row then s.safety.conditions
                                else s.safety.conditions ++ [row] }

/-- A lockstep compare differs: 0 Pair A, 1 Pair B, 2 Armature (rows 1 and 2). -/
def lockstepMismatch (n : Nat) (s : State) : State :=
  match n with
  | 0 => safetyLee 1 0 (holdCondition 1 { s with safety.haltedA := true })
  | 1 => safetyLee 1 1 (holdCondition 1 { s with safety.haltedB := true })
  | 2 => safetyRst 2 0 8 s
  | _ => s

/-- A window without a kick ends; it is suspended during an activation and Pair A's slot (row 3, R735). -/
def watchdogExpiry (s : State) : State :=
  if s.now < s.safety.kicked + ms 10 ∨ s.power.activating.isSome ∨ lbistRuns 0 s then s
  else safetyRst 3 0 7 s

/-- The forwarding monitor: a watched frame has been neither sent nor counted as dropped for 1 ms (row 4). -/
def forwardingMonitor (s : State) : State :=
  let late := s.switch.watched.filter fun e => decide (e.2 + ms 1 ≤ s.now)
  late.foldl (fun s e =>
    let flow := match heldOf s e.1 with
      | some h => h.frame.flow
      | none => 0
    safetyLee 4 flow { s with switch.watched := tdel s.switch.watched e.1 }) s

/-- The ports of the media a clock serves: CANCLK, GECLK, XGCLK and LNKCLK (R31). -/
def clockPorts (n : Nat) : List Nat := match n with
  | 8 => List.range 32
  | 9 => (List.range 56).filter fun g => isT1s g || isGe g
  | 10 => [38, 39, 40, 41]
  | 11 => [50, 51]
  | 12 => [52]
  | _ => []

/-- Clock domain `n` runs (R31). -/
def clockRuns (s : State) (n : Nat) : Bool :=
  let sel (mask : Nat) : Bool := (clockPorts n).any fun g => bit mask g
  if n = 1 then true
  else if n = 2 then s.mode == .zephyr
  else if n = 14 ∨ n = 0 ∨ 14 < n then false
  else
    match s.mode with
    | .calm | .zephyr => n == 3 && s.power.pwrGood && !s.power.asleep
    | .breeze => if 8 ≤ n ∧ n ≤ 12 then sel s.power.breezePorts else n != 13
    | .lee => if 8 ≤ n ∧ n ≤ 10 then sel s.safety.leePorts else true
    | _ => true

/-- A clock measurement ends; `ok`: within 1 % (R33, row 8). -/
def clockMonitor (n : Nat) (ok : Bool) (s : State) : State :=
  if !(within n 3 13 && clockRuns s n) then s
  else
    let m := s.safety.freqFault
    if ok then { s with safety.freqFault := if m.testBit (n - 1) then m - 2 ^ (n - 1) else m }
    else
      let s := setW1c 0x0700 0x0040 (15 + n) n { s with safety.freqFault := m ||| 2 ^ (n - 1) }
      if n = 3 then safetyRst 8 3 8 s
      else if 5 ≤ n ∧ n ≤ 10 then safetyLee 8 n s
      else safetyE 8 n s

/-- VDD_CORE (0) or Tj (1) stays beyond its limit, or is back (row 9). -/
def supplyMonitor (which : Nat) (out : Bool) (s : State) : State :=
  if out then safetyLee 9 which (holdCondition 9 s)
  else { s with safety.conditions := s.safety.conditions.filter fun r => r != 9 }

/-- An LBIST slot of at most 2 ms on the next pair, with its result (R736, row 14). -/
def lbistSlot (len : Tick) (pass : Bool) (s : State) : State :=
  let busy := lbistRuns 0 s || lbistRuns 1 s || lbistRuns 2 s
  if busy ∨ ms 2 < len ∨ !(s.mode = .gale ∨ s.mode = .lee ∨ s.mode = .atelier) then s
  else
    let n := s.safety.lbistNext
    let s := bump (safetyCounter 0x0128) { s with
      safety.lbistEnd := some (s.now + len), safety.lbistNext := (n + 1) % 3
      safety.rotStart := if n = 0 then s.now else s.safety.rotStart }
    if pass then s
    else
      let s := if n = 0 then { s with safety.haltedA := true }
        else if n = 1 then { s with safety.haltedB := true } else s
      safetyLee 14 n (holdCondition 14 s)

/-! ### Admin and oper state (R739-R741) -/

/-- The register and bit of an object's STATE_DIVERGE (R750). -/
def divergeBit (unit : Nat) : Nat × Nat :=
  if unit < 32 then (4, unit) else if unit < 52 then (8, unit - 32) else (12, unitClass unit)

/-- A disagreement of an object: what it is for, and since when (R740). -/
def divergeOne (unit object admin oper : Nat) (old : Tab (Tick × Bool)) (s : State) : State :=
  let k := unit * 65536 + object
  match tget? old k with
  | none => { s with safety.diverging := tset s.safety.diverging k (s.now, false) }
  | some (t, told) =>
    let due := !told && decide (t + ms 10 ≤ s.now)
    let s := { s with safety.diverging := tset s.safety.diverging k (t, told || due) }
    if due then
      let (o, b) := divergeBit unit
      raiseSafety 0x0A00 0x0103 (le 2 unit ++ le 2 object ++ le 1 admin ++ le 1 oper)
        (bump (safetyCounter 0x0108) (setW1c 0x0A00 o b object s))
    else s

/-- The comparison of every 1 ms: `diff` holds each object whose oper path does not show the state expected, as
unit, object, admin and oper; `started` each object that carries a safety flow and started a frame where admin
forbids it (R739-R741). -/
def stateCompare (diff : List (Nat × Nat × Nat × Nat)) (started : List (Nat × Nat)) (s : State) : State :=
  let old := s.safety.diverging
  let s := diff.foldl (fun s (d : Nat × Nat × Nat × Nat) => divergeOne d.1 d.2.1 d.2.2.1 d.2.2.2 old s)
    { s with safety.diverging := [] }
  started.foldl (fun s (d : Nat × Nat) =>
    let s := safetyLee 10 d.2 s
    raiseSafety 0x0A00 0x0103 (le 2 d.1 ++ le 2 d.2 ++ le 1 0 ++ le 1 1) s) s

/-! ### The ledger (R742-R747) -/

/-- The bytes of an entry (R742). -/
def LedgerEntry.bytes (e : LedgerEntry) : Bytes :=
  le 2 e.id ++ le 2 e.code ++ le 2 e.unit ++ le 2 e.object ++ le 4 (nsOf e.first) ++ le 6 (secOf e.first) ++
    le 1 e.severity ++ le 1 (b2n e.persisted + 2 * b2n e.restored + 4 * b2n e.w1c) ++ le 2 e.count ++ zeros 2 ++
    padTo 8 e.detail

/-- The W1C bit an entry names (R744). -/
def LedgerEntry.names (e : LedgerEntry) : W1cBit := { addr := leAt e.detail 0 5, bit := byteAt e.detail 5 }

/-- The condition of a W1C bit still holds. -/
def w1cHolds (s : State) (w : W1cBit) : Bool :=
  let u := (w.addr - 0x0800000000) / 65536
  let o := (w.addr - 0x0800000000) % 65536
  if u = 0x0A00 ∧ within o 4 12 then
    s.safety.diverging.any fun e => e.2.2 && divergeBit (e.1 / 65536) == (o, w.bit)
  else if u = 0x0A00 ∧ o = 0 then decide (256 ≤ s.kernel.ledger.entries.length)
  else if u = 0x0900 ∧ w.bit = 5 then hbValid s && pinSilent s
  else if u = 0x0700 ∧ o = 0x40 then s.safety.freqFault.testBit (w.bit - 16)
  else if u = 0x0700 ∧ o = 0x30 ∧ w.bit < 16 then (comparatorOf s (w.bit - 8)).level
  else if u = 0x0600 ∧ o = 0 ∧ w.bit = 9 then decide (58982 ≤ s.herax.head - s.herax.ack)
  else false

/-- The condition of an entry still holds (R738, R753). -/
def entryHolds (s : State) (e : LedgerEntry) : Bool :=
  if e.code = 1 then w1cHolds s e.names
  else if 0x10 ≤ e.code ∧ e.severity = 3 then
    let row := e.code - 0x10
    if row = 8 then s.safety.freqFault.testBit (e.object - 1) else s.safety.conditions.contains row
  else false

/-- Entries are removed, with the W1C bits they name and their copies in the journal (R746). -/
def removeEntries (out : List LedgerEntry) (s : State) : State :=
  let gone (id : Nat) : Bool := out.any fun e => e.id == id
  let s := { s with
    kernel.ledger.entries := s.kernel.ledger.entries.filter fun e => !gone e.id
    kernel.ledger.unpersisted := s.kernel.ledger.unpersisted.filter fun i => !gone i
    kernel.ledger.journal := s.kernel.ledger.journal.filter fun e => !gone e.id }
  out.foldl (fun s e => if e.code = 1 then clearW1c e.names s else s) s

/-- The orphaned W1C bits whose condition no longer holds are cleared (R747). -/
def clearOrphans (s : State) : State :=
  let named (w : W1cBit) : Bool := s.kernel.ledger.entries.any fun e => e.code == 1 && e.names == w
  (s.kernel.w1c.filter fun w => !named w && !w1cHolds s w).foldl (fun s w => clearW1c w s) s

/-- The oldest change that waits: a new entry before a change of COUNT (R745). -/
def nextPersist (l : Ledger) : Option LedgerEntry :=
  let waiting := l.unpersisted.filterMap fun i => l.entries.find? fun e => e.id == i
  match waiting.find? fun e => !e.persisted with
  | some e => some e
  | none => waiting.head?

/-- One change is written to the journal, at most 16 in a second (R745). -/
def ledgerPersist (s : State) : State :=
  let l := s.kernel.ledger
  let w := s.now / ticksPerSec
  let used := if l.writeWindow = w then l.writes else 0
  match nextPersist l with
  | none => s
  | some e =>
    if 16 ≤ used then s
    else
      let e' : LedgerEntry := { e with persisted := true }
      let y : Ledger := { l with
        entries := l.entries.map fun x => if x.id = e.id then e' else x
        unpersisted := l.unpersisted.filter fun i => i != e.id
        journal := (l.journal.filter fun x => x.id != e.id) ++ [e']
        writeWindow := w, writes := used + 1 }
      { s with kernel.ledger := y }

/-! ### Registers and commands (R750, R752, R753) -/

/-- The W1C bits set in a register, as its word. -/
def w1cWord (s : State) (addr : Nat) : Nat :=
  ((s.kernel.w1c.filter fun w => w.addr == addr && decide (w.bit < 64)).map fun w => 2 ^ w.bit).sum

/-- The five registers of R750. -/
def safWord (s : State) (o : Nat) : Nat := match o with
  | 0 => b2n (s.mode == .lee) + w1cWord s (unitBase 0x0A00) + 2 ^ 8 * s.safety.leeCause +
      2 ^ 16 * s.kernel.ledger.entries.length
  | 16 => s.safety.lbistNext + 2 ^ 16 * min 0xFFFF ((s.now - s.safety.rotStart) / (60 * ticksPerSec))
  | _ => w1cWord s (unitBase 0x0A00 + o)

/-- The modes of a command that R752 accepts in Lee too. -/
def alsoLee : List Mode := [.breeze, .gale, .lee, .atelier]

/-- `SAFETY_QUERY`. -/
def safetyQuerySpec : CmdSpec :=
  { opcode := 0x0A01, change := false, len := lenIs 0
    apply := answer fun _ s => [0, 4, 8, 12, 16].flatMap fun o => le 4 (safWord s o) }

/-- `LEE_CONFIG`. -/
def leeConfigSpec : CmdSpec :=
  { opcode := 0x0A02, change := true, len := lenIs 8
    values := fun c _ => range (decide (c.u64 0 < 2 ^ 54)) 0
    apply := quiet fun c s => { s with safety.leePorts := c.u64 0 } }

/-- `LEE_ENTER`: its ledger entry, of severity 2, keeps REASON (R744, R752; DESIGN CHOICE); Lee is entered with
cause 0xFF (R737, R750). -/
def leeEnterSpec : CmdSpec :=
  { opcode := 0x0A03, change := true, modes := some alsoLee, len := lenIs 4
    apply := quiet fun c s =>
      requestLee 0xFF (ledgerAdd (0x0010 + 0xFF) 0x0A00 0 2 false (c.raw 0 4) s) }

/-- `LEE_EXIT` (R738, R753). -/
def leeExitSpec : CmdSpec :=
  { opcode := 0x0A04, change := true, service := true, modes := some [.lee], len := lenIs 4
    values := fun c _ => c.zero 0 4
    conds := fun _ s =>
      need (s.kernel.ledger.entries.all (fun e => e.severity != 3) && s.power.transition.isNone) stBusy
    apply := quiet fun c s => beginTransition .gale 1 0xFF c.p s }

/-- `LEDGER_READ`; a FIRST that is not held begins at the oldest entry (DEDUCED). -/
def ledgerReadSpec : CmdSpec :=
  { opcode := 0x0A05, change := false, len := lenIs 4
    values := fun c _ => c.btw 2 2 1 127
    apply := answer fun c s =>
      let es := s.kernel.ledger.entries
      let from_ := (es.findIdx? fun e => e.id == c.u16 0).getD 0
      le 2 es.length ++ zeros 2 ++ ((es.drop from_).take (c.u16 2)).flatMap LedgerEntry.bytes }

/-- The entry a `LEDGER_CLEAR` names. -/
def clearTarget (c : Ctx) (s : State) : Option LedgerEntry :=
  s.kernel.ledger.entries.find? fun e => e.id == c.u16 0

/-- `LEDGER_CLEAR` (R746, R747, R753). -/
def ledgerClearSpec : CmdSpec :=
  { opcode := 0x0A06, change := true, modes := some alsoLee, len := lenIs 4
    values := fun c _ => firstOf
      [c.upto 2 1 1, c.zero 3 1]
    conds := fun c s =>
      if c.u16 0 = 0xFFFF then none
      else if c.u8 2 = 1 then range false 2
      else match clearTarget c s with
        | none => range false 0
        | some e => firstOf
          [need (!entryHolds s e) stBusy, need (decide (e.severity < 2) || (partner s c.p).service) stDenied]
    apply := quiet fun c s =>
      if c.u16 0 = 0xFFFF then
        let s := removeEntries (s.kernel.ledger.entries.filter fun e => decide (e.severity < 2) && !entryHolds s e) s
        if c.u8 2 = 1 then clearOrphans s else s
      else match clearTarget c s with
        | some e => removeEntries [e] s
        | none => s }

/-- `SAFETY_COUNTERS`. -/
def safetyCountersSpec : CmdSpec :=
  { opcode := 0x0A07, change := false, len := lenIs 0
    apply := answer fun _ s => counterBlock s (safetyCounter 0x0100) 6 }

end Sys2Proof.Machine
end

