-- ==== Sys2Proof/Machine/SleepCmds.lean ====
section
/-!
DEFINITION. The opcodes of the sleep unit (R691, R692).
-/
namespace Sys2Proof.Machine

/-- A mask of gports within `hi`: bits 56 to 63 are BAD_UNIT (R4), other bits beyond it BAD_VALUE. -/
def Ctx.ports (c : Ctx) (o hi : Nat) : Check :=
  firstOf [need (bits (c.u64 o) 63 56 == 0) stBadUnit, range (decide (c.u64 o < 2 ^ (hi + 1))) o]

/-- `SLEEP_RING_SET` (R660, R692, R785). -/
def sleepRingSetSpec : CmdSpec :=
  { opcode := 0x0801, change := true, len := lenIs 40
    values := fun c _ =>
      firstOf
        [ c.upto 0 2 1023, c.upto 2 1 1, c.upto 3 1 1, c.ports 4 51, range (bits (c.u64 4) 31 24 == 0) 4,
          range (c.u32 12 % 1024 == 0 && decide (c.u32 12 ≤ 0x1FFFFC00)) 12, c.btw0 16 2 1 1000,
          c.btw0 18 2 10 10000,
          c.btw0 20 2 10 5000,
          c.btw0 22 2 10 60000, range (c.u32 24 == 0 || within (c.u32 24) 60 86400) 24,
          range (bit (c.u8 28) 0) 28, c.zero 34 6 ]
    conds := fun c s => firstOf
      [ range (decide (2 * orDefault (c.u16 16) 10 ≤ orDefault (c.u16 18) 100)) 18,
        need (s.sleep.st != .proposed && s.sleep.st != .agreed) stBusy ]
    apply := quiet fun c s =>
      let s := { s with sleep.raw := c.ps, sleep.present := [], sleep.joinEnd := none, sleep.sent := none
                        sleep.holding := none, sleep.tokenAt := none, sleep.objection := none }
      if c.u8 2 = 1 then startJoining s
      else setSleepSt .off s }

/-- `PN_SET` (R679). -/
def pnSetSpec : CmdSpec :=
  { opcode := 0x0802, change := true, len := lenIs 12
    values := fun c _ => firstOf [c.upto 0 1 7, c.zero 1 3, range (decide (c.u64 4 < 2 ^ 50)) 4]
    apply := quiet fun c s => { s with sleep.pns := tset s.sleep.pns (c.u8 0) (c.u64 4) } }

/-- `SLEEP_HOLD` (R670, R677). -/
def sleepHoldSpec : CmdSpec :=
  { opcode := 0x0803, change := true, len := lenIs 4
    values := fun c _ => firstOf [c.upto 0 1 1, c.zero 2 2]
    apply := quiet fun c s =>
      needArises 0xFE { s with sleep.holds := tset s.sleep.holds c.p (c.u8 0 == 1, c.u8 1) } }

/-- `WAKE_PORT_SET` (R684, R692). -/
def wakePortSetSpec : CmdSpec :=
  { opcode := 0x0804, change := true, len := lenIs 16
    values := fun c _ =>
      firstOf
        [c.gport 0 0 49, c.upto 1 1 3, c.upto 2 1 31, c.zero 3 1, c.zero 14 2]
    conds := fun c _ => range (!bit (c.u8 1) 0 || within (c.u8 0) 38 49) 1
    apply := quiet fun c s => { s with sleep.wakePorts := tset s.sleep.wakePorts (c.u8 0) c.ps } }

/-- `WAKE_FRAME_SET` (R683, R692). -/
def wakeFrameSetSpec : CmdSpec :=
  { opcode := 0x0805, change := true, len := lenIs 16
    values := fun c _ =>
      firstOf [c.gport 0 0 23, c.upto 1 1 8, c.zero 2 2, range (decide (c.u32 4 < 2 ^ 31)) 4]
    apply := quiet fun c s => { s with sleep.wakeFrames := tset s.sleep.wakeFrames (c.u8 0) c.ps } }

/-- `WAKE_NETWORK` (R677, R683). -/
def wakeNetworkSpec : CmdSpec :=
  { opcode := 0x0806, change := true, len := lenIs 12
    values := fun c _ => firstOf [range (decide (c.u64 0 < 2 ^ 52)) 0, c.zero 8 4]
    apply := quiet fun c s =>
      let gs := (List.range 52).filter fun g => bit (c.u64 0) g
      if sleepAgreed s then lateWake 0xFE 0xFFFF s
      else
        let s := sleepWake 0xFE false 0xFFFF s.now s
        let s := gs.foldl (fun s g => if thas s.sleep.heldPorts g then releasePort g s else wakePort g s) s
        if s.sleep.st = .ring ∨ s.sleep.st = .proposed then startJoining s else s }

/-- Seconds left of an awake window (R687). -/
def awakeLeftS (s : State) : Nat := match s.sleep.awake with
  | some (_, a) => (a + awakeMaxS s * ticksPerSec - s.now + ticksPerSec - 1) / ticksPerSec
  | none => 0

/-- `SLEEP_QUERY`. -/
def sleepQuerySpec : CmdSpec :=
  { opcode := 0x0807, change := false, len := lenIs 0
    apply := answer fun _ s =>
      le 1 s.sleep.st.code ++ le 1 (b2n (isMaster s)) ++ le 1 s.sleep.round ++ le 1 s.sleep.quiet ++
        le 2 (masterNode s) ++ le 2 s.sleep.present.length ++ le 1 s.sleep.pnNeed ++ le 1 (ownPn s) ++ zeros 2 ++
        le 4 (awakeLeftS s) }

/-- A set of nodes as 128 bytes, bit n for node n. -/
def nodeBits (l : List Nat) : Bytes :=
  le 128 (l.foldl (fun v n => v ||| 2 ^ n) 0)

/-- `RING_QUERY` of the sleep unit. -/
def consentRingQuerySpec : CmdSpec :=
  { opcode := 0x0808, change := false, len := lenIs 0
    apply := answer fun _ s => nodeBits s.sleep.present ++ nodeBits s.sleep.lastReq }

/-- `SLEEP_COUNTERS`. -/
def sleepCountersSpec : CmdSpec :=
  { opcode := 0x0809, change := false, len := lenIs 0
    apply := answer fun _ s => counterBlock s (slpCtr 0x0100) 12 }

/-! ### Status registers (R689) -/

/-- `SLP_STATUS`, W1C bits apart. -/
def slpStatusWord (s : State) : Nat :=
  s.sleep.st.code + 8 * b2n (isMaster s) + 16 * b2n (ownReq s) + 2 ^ 8 * s.sleep.pnNeed + 2 ^ 16 * masterNode s

/-- `SLP_NODE`. -/
def slpNodeWord (s : State) : Nat := ringNode s + 2 ^ 16 * s.sleep.present.length

/-- `SLP_ROUND`. -/
def slpRoundWord (s : State) : Nat :=
  s.sleep.round + 2 ^ 8 * s.sleep.quiet + 2 ^ 16 * s.sleep.ovrNode + 2 ^ 26 * b2n s.sleep.overruled.isSome

/-- The ports held asleep, as a mask. -/
def heldMask (s : State) : Nat := s.sleep.heldPorts.foldl (fun v e => v ||| 2 ^ e.1) 0

end Sys2Proof.Machine
end

