-- ==== Sys2Proof/Machine/Registers.lean ====
section
/-!
DEFINITION. The registers of every unit as an internal read sees them (R11, R38, R43), reads with a side
effect (R163), the other regions of the internal map (R35, R46), and a register write (R11).
-/
namespace Sys2Proof.Machine

/-! ### Words of the units -/

/-- Bits from a list of flags, bit 0 first. -/
def flagBits (l : List Bool) : Nat := l.foldr (fun b v => b2n b + 2 * v) 0

/-- `HOST_SUMMARY` (R44). -/
def summaryWord (s : State) : Nat :=
  let diverges := s.kernel.w1c.any fun w =>
    [0x4, 0x8, 0xC].contains (w.addr - unitBase 0x0A00) && decide (unitBase 0x0A00 ≤ w.addr)
  s.mode.code + 8 * b2n s.power.transition.isSome + 16 * b2n (!s.kernel.ledger.entries.isEmpty) +
    32 * b2n diverges + 64 * pairRole s + 256 * b2n s.power.activating.isSome + 2 ^ 31 * b2n s.kernel.summaryValid

/-- `HOST_SPI_STATUS` as partner `p` reads it, W1C bits apart (R157). -/
def spiStatusWord (s : State) (p : Nat) : Nat :=
  let x := tget s.host.lastStatus (0, false) p
  x.1 + 2 ^ 8 * b2n x.2 + 2 ^ 9 * b2n (thas s.host.kept p) + 2 ^ 16 * s.host.crcErrs + 2 ^ 24 * s.host.framingErrs

/-- The words of a partner block (R102-R108), W1C bits apart. -/
def partnerWord (s : State) (p o : Nat) : Nat :=
  let x := partner s p
  match o with
  | 0x04 => pairWord x.reqHead
  | 0x0C => pairWord x.rplTail
  | 0x1C => pairWord x.evq.wr
  | 0x20 => x.evq.rel.toNat + 2 ^ 16 * x.evq.mark.toNat
  | 0x24 => 2 ^ 8 * x.ptrErrs + 2 ^ 16 * x.resets + 2 ^ 24 * x.overflows
  | 0x28 =>
    let failed : Bool := match x.txn with
      | some t => t.failed
      | none => false
    x.transport + 8 * b2n x.txn.isSome + 16 * b2n failed + 32 * b2n x.seqAny + 64 * x.ringLog + 512 * x.evq.halfLog
  | 0x2C => x.seqNext.toNat
  | _ => 0

/-- An RX frame waits for posted descriptors: WAITING (R126, R133). -/
def ringWaits (s : State) (n : Nat) (r : Ring) : Bool :=
  r.rx && r.st != 0 && r.writing.isNone && (match tget s.switch.ringIn [] n with
    | [] => false
    | i :: _ => (heldOf s i).any fun h => decide (r.posted * r.bufSize < (ethBody h.frame gHostp).length))

/-- `RING_STATUS` (R126). -/
def ringStatus (s : State) (n : Nat) (r : Ring) : Nat :=
  r.st + 4 * b2n r.rx + 8 * r.tc + 64 * b2n (ringWaits s n r) + 128 * b2n (r.st == 2 && r.fetch.isSome) +
    256 * r.cause + 2 ^ 12 * r.owner + 2 ^ 15 + 2 ^ 16 * r.ctx

/-- The words of a ring block (R125-R127). -/
def ringWord (s : State) (n o : Nat) : Nat :=
  match ringOf s n with
  | none => if o = 4 ∨ o = 8 then pairWord 0 else 0
  | some r =>
    match o with
    | 0x04 => pairWord r.head
    | 0x08 => pairWord r.done
    | 0x0C => ringStatus s n r
    | 0x10 => r.faultDesc.toNat + 2 ^ 16 * r.frameDesc.toNat
    | 0x14 => r.offset
    | 0x18 => r.drops
    | 0x1C => r.frames.toNat
    | _ => 0

/-- Words of the host and memory unit. -/
def hostWord (s : State) (reader o : Nat) : Nat :=
  if o = 0 then summaryWord s
  else if o = 4 then spiStatusWord s reader
  else if within o 0x1000 0x11FF then partnerWord s ((o - 0x1000) / 0x40) ((o - 0x1000) % 0x40)
  else if within o 0x4000 0x4FFF then ringWord s ((o - 0x4000) / 0x20) ((o - 0x4000) % 0x20)
  else if o = 0x6000 then 2 ^ 8 * s.host.lostPartner + 2 ^ 16 * s.host.errors
  else if o = 0x6008 then s.host.lostAddr % 2 ^ 32
  else if o = 0x600C then s.host.lostAddr / 2 ^ 32
  else if o = 0x6010 then s.host.errAddr % 2 ^ 32
  else if o = 0x6014 then s.host.errAddr / 2 ^ 32
  else 0

/-- Words of a wired port (R184-R188, R205, R208-R210, R225). -/
def portWord (s : State) (g o : Nat) : Nat :=
  match o with
  | 0x00 => configWord s g
  | 0x04 => statusWord s g
  | 0x08 => if isCan g then (canOf s g).bitN.toNat else 0
  | 0x0C => if isCan g then (canOf s g).bitD.toNat else if isT1s g then (ethOf s g).plca.toNat else 0
  | 0x10 => if isCan g then (canOf s g).bitX.toNat else 0
  | 0x14 => if isCan g then (canOf s g).tdc.toNat else 0
  | 0x18 => tsCorrWord s g
  | _ => 0

/-- Words of the switch (R377, R378), W1C bits apart. -/
def switchWord (s : State) (o : Nat) : Nat :=
  if within o 0x0800 (0x0800 + 8 * 56 - 1) then
    let g := (o - 0x0800) / 8
    if !within g 38 49 then 0
    else if (o - 0x0800) % 8 = 4 then headroomFor s g (fcOf s g).rEst % 2 ^ 16
    else flagBits ((List.range 8).map fun c => (account s g c).xoff) + 2 ^ 16 * min 0xFFFF (((fcOf s g).rEst + 15) / 16)
  else
    match o with
    | 0x00 => b2n (tsclkRuns s) + 2 * b2n (s.switch.spillOn && s.lpddrUp) + 8 * b2n (decide (sharedFree s < 1024)) +
        16 * b2n (leeRule s) + 2 ^ 16 * s.switch.segOn
    | 0x04 => freeCells s
    | 0x08 => sharedFree s
    | 0x0C => 131072 - s.switch.held.length
    | 0x10 => s.switch.eccCorr + 2 ^ 17 * s.switch.retired.length
    | _ => 0

/-- Words of the tables unit (R434), W1C bits apart. -/
def tablesWord (s : State) (o : Nat) : Nat :=
  match o with
  | 0x00 => currentNum s
  | 0x04 => (s.tables.gens.head?.map fun g => g.num).getD 0
  | 0x08 => s.tables.gens.length + 64 * b2n s.tables.rehash.isSome + 256 * b2n s.tables.maqStale + 2 ^ 16 * stagingOwners s
  | 0x0C => s.tables.tickS + 2 ^ 16 * s.tables.epochs + 2 ^ 24 * s.tables.epoch
  | 0x10 => s.tables.holdMs + 2 ^ 16 * s.tables.flapMoves
  | 0x14 => s.tables.flapWindowS
  | 0x18 => s.tables.fdbSlots.length
  | 0x20 => s.tables.seedFdb
  | 0x24 => s.tables.seedCan
  | _ => 0

/-- Words of the gateway unit (R319, R320): the direct units' writable words are as last written. -/
def gatewayWord (s : State) (reader o : Nat) : Nat :=
  let sessions := s.gw.sessions.length
  if within o 0x0200 0x023F then
    let u := 6 + (o - 0x0200) / 0x20
    match (o - 0x0200) % 0x20 with
    | 0x10 => (e2eResult s u).getD 0 % 2 ^ 32
    | 0x14 => (e2eResult s u).getD 0 / 2 ^ 32
    | 0x18 => (tget s.gw.direct { profile := 0, fed := [], count := 0, busyTill := 0 } u).count.toNat
    | _ => tget s.host.regs 0 (unitBase 0x0300 + o)
  else
    match o with
    | 0x00 => b2n (tsclkRuns s) + 2 * b2n (decide (7936 < granules (currentObjs s))) +
        4 * b2n (decide (2016 < sessions)) + 2 ^ 16 * sessions
    | 0x04 => (8192 - granules (stagedObjs s reader)) + 2 ^ 16 * (2048 - sessions)
    | _ => 0

/-- Words of the policing unit (R470), W1C bits apart. -/
def policingWord (s : State) (o : Nat) : Nat :=
  match o with
  | 0x00 => b2n (tsclkRuns s) + 2 ^ 16 * s.policing.quarantines.length
  | 0x04 => s.policing.maxActive + 2 ^ 16 * s.policing.newMax
  | 0x08 => s.policing.winMs + 2 ^ 16 * newUsedAt s s.now
  | _ => 0

/-- Words of the time unit (R527), W1C bits and latching reads apart. -/
def timeWord (s : State) (reader o : Nat) : Nat :=
  match o with
  | 0x00 => (domain s 0).state.code + 4 * (domain s 1).state.code + 16 * s.time.ref + 64 * legalFlags s +
      2 ^ 16 * flagBits ((List.range 4).map fun p => (tget? s.time.pairs p).any fun x => x.episode)
  | 0x04 => (s.rateAdj % 2 ^ 32).toNat
  | 0x14 => tget s.time.secLatch 0 reader % 2 ^ 32
  | 0x18 => tget s.time.secLatch 0 reader / 2 ^ 32 % 2 ^ 16
  | 0x24 => tget s.time.legalLatch 0 reader
  | 0x30 =>
    flagBits ((List.range 8).map fun n => (tget? s.time.compares n).any fun x => x.next.isSome) +
      2 ^ 8 * flagBits ((List.range 8).map fun n => (tget? s.time.compares n).any fun x => x.active)
  | _ => 0

/-- Words of the security unit (R566, R605), W1C bits and latching reads apart; write-only words read 0. -/
def securityWord (s : State) (o : Nat) : Nat :=
  let lane (n : Nat) : Lane := tget s.cipher.lanes { run := none, suspended := [] } n
  let lanes (f : Lane → Bool) : Nat := flagBits ((List.range 4).map fun n => f (lane n))
  match o with
  | 0x00 => s.herax.lc + 8 * b2n s.herax.kek.isSome + 32 * b2n s.herax.wipeBusy + 64 * b2n s.herax.keysBlocked +
      2 ^ 16 * (s.herax.bank.filter fun e => within e.1 16 4095 && e.2.state == .active).length
  | 0x04 => 2 ^ 8 * s.herax.tamperAction
  | 0x0C => s.herax.headLatch
  | 0x14 => s.herax.ackLatch
  | 0x0800 =>
    lanes (fun x => x.run.isSome) + 2 ^ 4 * lanes (fun x => x.run.any fun m => m.hardened) +
      2 ^ 8 * lanes (fun x => !x.suspended.isEmpty) + 2 ^ 16 * s.cipher.waiting.length
  | o =>
    if o = 0x0810 ∨ o = 0x0814 ∨ o = 0x0818 ∨ o = 0x081C then
      let x := lane ((o - 0x0810) / 4)
      16 * x.suspended.length + (match x.run with
        | some m => m.urgency + 64 * b2n m.hardened + 2 ^ 8 * m.slot
        | none => 0)
    else 0

/-- Words of the power unit (R34, R655), W1C bits apart. -/
def powerWord (s : State) (o : Nat) : Nat :=
  let trial (i : Nat) : Bool := (tget s.power.images ImageSlot.empty i).state == 3
  match o with
  | 0x00 =>
    s.mode.code + 8 * b2n s.power.transition.isSome + 16 * (match s.power.transition with
      | some x => x.target.code
      | none => 0) + 2 ^ 7 * b2n s.power.recovery + 2 ^ 8 * s.power.wakeTarget + 2 ^ 16 * s.power.lastWake +
      2 ^ 24 * s.power.resetCause
  | 0x04 => s.herax.bootCount % 2 ^ 32
  | 0x30 => flagBits ((List.range 8).map fun c => (tget s.power.comparators Comparator.off c).level)
  | 0x40 => flagBits ((List.range 14).map fun n => clockRuns s (n + 1))
  | 0x50 =>
    s.power.fwSlot % 2 + 2 * (s.power.cfgSlot % 2) + 4 * b2n (trial s.power.fwSlot) + 8 * b2n (trial (2 + s.power.cfgSlot)) +
      2 ^ 16 * (s.power.fwFloor % 2 ^ 16)
  | 0x54 => s.power.cfgFloor % 2 ^ 16
  | o =>
    if o = 0x10 ∨ o = 0x14 ∨ o = 0x18 ∨ o = 0x1C then
      ((List.range 16).map fun k => bankState s (4 * (o - 0x10) + k) * 4 ^ k).sum
    else 0

/-- Words of the sleep unit (R689), W1C bits apart. -/
def sleepWord (s : State) (o : Nat) : Nat :=
  match o with
  | 0x00 => slpStatusWord s
  | 0x04 => slpNodeWord s
  | 0x08 => slpRoundWord s
  | 0x10 => heldMask s % 2 ^ 32
  | 0x14 => heldMask s / 2 ^ 32
  | _ => 0

/-- The word of a unit's register block, W1C bits, counters and latching reads apart. -/
def unitWord (s : State) (reader u o : Nat) : Nat :=
  if u < 50 then portWord s u o
  else if u = 50 ∨ u = 51 then
    (if o = 4 then lnkStatus s (u - 50) else if o = 8 then lnkDelay s (u - 50) else 0)
  else
    match u with
    | 0x0100 => switchWord s o
    | 0x0200 => tablesWord s o
    | 0x0300 => gatewayWord s reader o
    | 0x0400 => policingWord s o
    | 0x0500 => timeWord s reader o
    | 0x0600 => securityWord s o
    | 0x0700 => powerWord s o
    | 0x0800 => sleepWord s o
    | 0x0900 => if o = 0 then pairStatus s else if o = 4 then mirrorLag s else 0
    | 0x0A00 => if o ≤ 0x10 then safWord s o else 0
    | 0x0B00 => hostWord s reader o
    | _ => 0

/-- A read of an aligned word of the unit registers by a reader, with its side effect (R97, R490, R566). A
counter's words are those of its 64-bit value (R180). -/
def regRead (reader a : Nat) (s : State) : Nat × State :=
  let u := (a - 0x0800000000) / 0x10000
  let o := (a - 0x0800000000) % 0x10000
  if u = 0x0B00 ∧ within o 0x2000 0x20FF then windowRead ((o - 0x2000) / 0x20) (o % 0x20) s
  else if u = 0x0500 ∧ o = 0x10 then readItNs reader s
  else if u = 0x0500 ∧ o = 0x20 then readLegalLo reader s
  else if u = 0x0600 ∧ o = 0x08 then readSealHead s
  else if u = 0x0600 ∧ o = 0x10 then readSealAck s
  else
    let ctr := (counter s (a / 8 * 8)).toNat
    let ctrWord := if a % 8 = 0 then ctr % 2 ^ 32 else ctr / 2 ^ 32
    ((unitWord s reader u o ||| w1cWord s a ||| ctrWord) % 2 ^ 32, s)

/-- A read-sensitive word (R163): the event window and the latching registers. -/
def isSensitive (a : Nat) : Bool :=
  (within a (unitBase 0x0B00 + 0x2000) (unitBase 0x0B00 + 0x20FF) && a % 0x20 == 0) ||
    [unitBase 0x0500 + 0x10, unitBase 0x0500 + 0x20, unitBase 0x0600 + 0x08, unitBase 0x0600 + 0x10].contains a

/-- The first read-sensitive word that a read touches. -/
def firstSensitive (a len : Nat) : Option Nat :=
  ((List.range (len + 3)).map fun i => (a + i) / 4 * 4).find? fun w =>
    isSensitive w && decide (w < a + len) && decide (a < w + 4)

/-! ### Other regions -/

/-- Byte `o` of the reply ring of partner `p` in bank 0 (R48): a reply not yet consumed. -/
def replyByte (s : State) (p o : Nat) : Option Byte :=
  let x := partner s p
  let slot := o / 64
  x.replies.findSome? fun e =>
    let n := packetSlots e.2.params.length
    let start := (e.1 - BitVec.ofNat 16 n).toNat % x.slots
    let d := (slot + x.slots - start) % x.slots
    if slot < x.slots ∧ d < n then some (e.2.bytes.getD (64 * d + o % 64) 0) else none

/-- The image slot and offset at an internal address (R41, R633). -/
def imageAt (a : Nat) : Option (Nat × Nat) :=
  let nor := 0x2000000000
  if within a 0x0600000000 0x06000FFFFF then some (2, a - 0x0600000000)
  else if within a 0x0600100000 0x06001FFFFF then some (3, a - 0x0600100000)
  else if within a (nor + 0x00100000) (nor + 0x010FFFFF) then some (0, a - (nor + 0x00100000))
  else if within a (nor + 0x01100000) (nor + 0x020FFFFF) then some (1, a - (nor + 0x01100000))
  else if within a (nor + 0x02100000) (nor + 0x040FFFFF) then some (4, a - (nor + 0x02100000))
  else if within a (nor + 0x04100000) (nor + 0x060FFFFF) then some (5, a - (nor + 0x04100000))
  else none

/-- A byte outside the unit registers whose content the manual gives: flow counters (R442), replies in bank
0 (R48), the sealed record ring (R561), image slots (R633) and LPDDR5. -/
def knownByte (s : State) (a : Nat) : Option Byte :=
  if isLpddr a then some (memRead s.host.internal a)
  else if within a 0x02002C0000 0x02002DFFFF then
    let x := tget s.policing.flowCounts (0, 0) ((a - 0x02002C0000) / 8)
    (le 4 x.1.toNat ++ le 4 x.2.toNat)[(a - 0x02002C0000) % 8]?
  else if within a 0x0200040000 0x020007FFFF ∧ 0x4000 ≤ (a - 0x0200040000) % 0x8000 then
    replyByte s ((a - 0x0200040000) / 0x8000) ((a - 0x0200040000) % 0x8000 - 0x4000)
  else if within a 0x0600400000 0x06007FFFFF then
    let r := (a - 0x0600400000) / 64
    (tget? s.herax.ring r).map fun b => b.getD ((a - 0x0600400000) % 64) 0
  else
    match imageAt a with
    | some (i, o) => some (memRead (tget s.power.images ImageSlot.empty i).bytes o)
    | none => none

/-- A byte of the internal map outside the unit registers; content the manual does not give is a free value. -/
def byteRead (a : Nat) (s : State) : Byte × State := match knownByte s a with
  | some b => (b, s)
  | none => takeFree 8 s

/-- A read of `n` bytes of the internal map by a reader: unit registers word by word (R164), the word last
read being kept while its bytes last. -/
def mapRead (reader : Nat) : Nat → Nat → Option (Nat × Nat) → State → Bytes × State
  | _, 0, _, s => ([], s)
  | a, n + 1, last, s =>
    if isUnitReg a then
      let w := a / 4 * 4
      let (v, s) := match last with
        | some (b, v) => if b = w then (v, s) else regRead reader w s
        | none => regRead reader w s
      let (bs, s) := mapRead reader (a + 1) n (some (w, v)) s
      (BitVec.ofNat 8 (v / 256 ^ (a % 4)) :: bs, s)
    else
      let (b, s) := byteRead a s
      let (bs, s) := mapRead reader (a + 1) n none s
      (b :: bs, s)

/-- A region that the window bridge may read (R46). -/
def bridgeReadable (a : Nat) : Bool :=
  isUnitReg a || isLpddr a || within a 0x0200000000 0x02003FFFFF || within a 0x0500000000 0x050067FFFF ||
    (within a 0x0600000000 0x06007FFFFF && !isHeraxOnly a) || decide (0x2000000000 ≤ a)

/-! ### Register writes (R11, R12) -/

/-- The writable bits of a register that firmware writes and State holds whole (R184, R186, R188, R210,
R225, R320, R566). -/
def writableBits (a : Nat) : Nat :=
  let u := (a - 0x0800000000) / 0x10000
  let o := (a - 0x0800000000) % 0x10000
  if isCan u ∧ o = 0x00 then 0xFFFF077F
  else if isCan u ∧ (o = 0x08 ∨ o = 0x0C ∨ o = 0x10) then 0x3FFFFFFF
  else if isCan u ∧ o = 0x14 then 0x1FF
  else if isT1s u ∧ o = 0x0C then 0xFFFFFFFF
  else if u < 50 ∧ o = 0x18 then 0xFFFFFFFF
  else if u = 0x0600 ∧ within o 0x0100 0x013F then 0xFFFFFFFF
  else if u = 0x0600 ∧ o = 0x0004 then 0x3FF00
  else 0

/-- A firmware write of a register (R11): an RW register takes its writable bits, `HERAX_TAMPER.ACTION` (LK)
only before Field, and every other bit ignores it. Registers whose fields the rules keep up (mode, partners,
images) show what the rules say whatever is written (DEDUCED). -/
def firmwareWrite (a v : Nat) (s : State) : State :=
  let u := (a - 0x0800000000) / 0x10000
  let o := (a - 0x0800000000) % 0x10000
  let w := w32 (v &&& writableBits a)
  if writableBits a = 0 then s
  else if u = 0x0600 ∧ o = 0x0004 then
    if s.herax.lc < 2 then { s with herax.tamperAction := w.toNat / 2 ^ 8 } else s
  else if u = 0x0600 then
    { s with herax.keyIn := s.herax.keyIn.take (o - 0x0100) ++ le 4 w.toNat ++ s.herax.keyIn.drop (o - 0x0100 + 4) }
  else if o = 0x18 then
    setCommon u { common s u with rxExt := w.toNat % 2 ^ 16, txExt := w.toNat / 2 ^ 16 } s
  else if isCan u then
    let x := canOf s u
    setCan u (match o with
      | 0x00 => { x with config := w }
      | 0x08 => { x with bitN := w }
      | 0x0C => { x with bitD := w }
      | 0x10 => { x with bitX := w }
      | _ => { x with tdc := w }) s
  else setEth u { ethOf s u with plca := w } s

/-- A write of an aligned word of the unit registers that is no doorbell and no direct-unit register (R11):
a partner's write is ignored whatever the type, as are writes of RO and W1C bits. -/
def registerWrite (fw : Bool) (a : Nat) (v : Word) (s : State) : State :=
  if fw && isUnitReg a && a % 4 == 0 then firmwareWrite a v.toNat s else s

end Sys2Proof.Machine
end

