-- ==== Sys2Proof/Machine/RingOps.lean ====
section
/-!
DEFINITION. What the descriptor rings do: doorbells (R123, R128), the TX and RX DMA (R129-R137), faults and
restarts (R144-R147), coalescing (R132), and the HOSTP link (R117, R121).
-/
namespace Sys2Proof.Machine

/-! ### Fields of a descriptor (R129, R131) -/

def descAddr (b : Bytes) : Nat := leAt b 0 8
def descLen (b : Bytes) : Nat := leAt b 8 2
def descFlags (b : Bytes) : Nat := leAt b 10 2

/-- The TX descriptor ends its frame. -/
def descEop (b : Bytes) : Bool := bit (descFlags b) 1

/-- The bytes of a frame in its descriptors. -/
def descTotal (ds : List Bytes) : Nat := (ds.map descLen).sum

/-- The descriptors from SOP to EOP are there. -/
def wholeFrame (ds : List Bytes) : Bool := ds.getLast?.any descEop

/-! ### Stops and doorbells -/

/-- Where a ring's transfer stands: FAULT_DESC, FRAME_DESC and OFFSET of a stop now (R127, R144). -/
def descAt : List Bytes → Nat → Nat → Nat
  | [], k, _ => k
  | d :: ds, k, j => if j < descLen d then k else descAt ds (k + 1) (j - descLen d)

/-- The stop point of a ring. -/
def Ring.point (r : Ring) : Half × Half × Nat :=
  match r.fetch, r.writing with
  | some f, _ => (f.desc + BitVec.ofNat 16 (descAt f.descs 0 f.got.length), f.desc, f.got.length)
  | none, some (_, d, n) => (d + BitVec.ofNat 16 (n / r.bufSize), d, n)
  | none, none => (r.head, r.head, 0)

/-- A running ring stops for a cause that is no access of its own. -/
def ringHalt (n cause : Nat) (s : State) : State := match ringOf s n with
  | some r => if r.st = 1 then ringStop n cause r.point.1 r.point.2.1 r.point.2.2 s else s
  | none => s

/-- A write of `RING_DB` (R123, R128). A ring that is not running takes a valid tail and ignores any other
(R147; DEDUCED). -/
def ringDoorbell (n : Nat) (v : Word) (s : State) : State :=
  match ringOf s n with
  | none => s
  | some r =>
    match pairedPtr v with
    | none => ringHalt n 6 s
    | some ptr => if r.most < (ptr - r.done).toNat then ringHalt n 7 s else setRing n { r with tail := ptr } s

/-! ### TX (R129, R130, R135-R137, R144) -/

/-- What the descriptors of the next frame give. -/
inductive TxScan where
  | idle
  | bad (at_ : Half) (cause : Nat) (va : Nat)
  | frame (descs : List Bytes)

/-- Read descriptors after those taken, up to EOP (R128, R135). -/
def txScan (s : State) (r : Ring) (first : Half) : Nat → List Bytes → TxScan
  | 0, _ => .idle
  | fuel + 1, ds =>
    let p := first + BitVec.ofNat 16 ds.length
    if wholeFrame ds then .frame ds
    else if p = r.tail then .idle
    else
      match bulkRead s r.ctx (r.descVa p) 32 with
      | (bs, some e) => .bad p e (r.descVa p + bs.length)
      | (b, none) =>
        let bad := descLen b == 0 || decide (16384 < descLen b) || (ds.isEmpty && !bit (descFlags b) 0) ||
          decide (16384 < descTotal ds + descLen b) || (ds.length == 31 && !descEop b) ||
          (ds.isEmpty && bit (descFlags b) 3 && !decide (byteAt b 12 < 50))
        if bad then .bad p 5 0 else txScan s r first fuel (ds ++ [b])

/-- The scan of a ring's next or stopped frame. -/
def txNext (s : State) (r : Ring) : TxScan := match r.fetch with
  | some f => txScan s r f.desc 33 f.descs
  | none => txScan s r r.head 33 []

/-- The frame that fetched bytes make: DEST and TCX, and a host record for DIRECT with DEST 0 to 31 (R129,
R395). -/
def txFrame (s : State) (n : Nat) (r : Ring) (f : Fetch) : Frame :=
  let d := f.descs.headD []
  let direct := if bit (descFlags d) 3 then some (byteAt d 12, byteAt d 13 % 8) else none
  let bus := match direct with
    | some (g, _) => if g < 32 then some (recordBus f.got) else none
    | none => none
  { Frame.arrived bus (if bus.isSome then [] else f.got) (ringGport s r) s.now with
    direct := direct, credit := some f.credit
    txRing := if f.descs.any fun b => bit (descFlags b) 2 then some (n, f.desc.toNat) else none }

/-- The credit of a frame of a length: its cells from the account of the ring's class (R135, R346). -/
def txCredit (s : State) (r : Ring) (len : Nat) : Option Credit :=
  let g := ringGport s r
  let n := max 1 ((len + 127) / 128)
  if n ≤ freeCells s then
    (charge s g r.tc n false).map fun x =>
      { cls := r.tc, res := x.1, shared := x.2, segs := takeFrom s segments n }
  else none

/-- Cells granted and not used go back. -/
def returnCredit (g : Nat) (k : Credit) (s : State) : State :=
  let a := account s g k.cls
  let s := setAccount g k.cls { a with resUsed := a.resUsed - k.res, sharedUsed := a.sharedUsed - k.shared } s
  poolGrown (useCells k.segs false s)

/-- A ring is ready for the TX DMA: a frame is in progress, or one is posted and credited, or its
descriptors fault (R135, R136). -/
def txReady (s : State) (r : Ring) : Bool :=
  r.st == 1 && !r.rx && ringServed s r &&
    (match txNext s r with
      | .idle => false
      | .bad _ _ _ => true
      | .frame ds => r.fetch.isSome || (!r.stopping && (txCredit s r (descTotal ds)).isSome))

/-- The highest class that has a ready ring, and its ready rings. -/
def topClass (rings : List (Nat × Ring)) : Option (Nat × List (Nat × Ring)) :=
  let tcs := rings.map fun e => e.2.tc
  if rings.isEmpty then none
  else
    let c := tcs.foldl max 0
    some (c, rings.filter fun e => e.2.tc == c)

/-- The ring the TX DMA serves: a frame in progress is not pre-empted by its own class (R136, R137). -/
def txPick (s : State) : Option (Nat × Ring) :=
  match topClass (s.host.rings.filter fun e => txReady s e.2) with
  | none => none
  | some (c, l) =>
    match l.find? (fun e => e.2.fetch.isSome) with
    | some e => some e
    | none =>
      match arbGrant (tget s.host.txArb 0 c) (l.map fun e => e.1) with
      | some i => l.find? fun e => e.1 == i
      | none => none

/-- The virtual address of byte `j` of a frame, with its descriptor. -/
def descByte : List Bytes → Nat → Nat → Nat × Nat
  | [], k, _ => (k, 0)
  | d :: ds, k, j => if j < descLen d then (k, descAddr d + j) else descByte ds (k + 1) (j - descLen d)

/-- Read `n` bytes of a frame from byte `j` on: the bytes before a fault, and the fault. -/
def fetchBytes (s : State) (c : Nat) (ds : List Bytes) : Nat → Nat → Bytes × Option (Nat × Nat)
  | _, 0 => ([], none)
  | j, n + 1 =>
    let (_, va) := descByte ds 0 j
    match bulkTarget s c va false with
    | .error e => ([], some (e, va))
    | .ok x =>
      let (bs, e) := fetchBytes s c ds (j + 1) n
      (loadByte s x :: bs, e)

/-- A ring that was to stop at a frame boundary is disabled there (R172). -/
def ringBoundary (n : Nat) (s : State) : State := match ringOf s n with
  | some r => if r.stopping ∧ r.fetch.isNone ∧ r.writing.isNone then setRing n { r with stopping := false, st := 0 } s else s
  | none => s

/-- A whole fetched frame enters the fabric (R130, R135); where it cannot, it waits (R346). -/
def txAdmit (n : Nat) (r : Ring) (f : Fetch) (s : State) : State :=
  let g := ringGport s r
  let fr := txFrame s n r f
  let (fr, a) := ingress fr g false s
  if a.wait then s
  else
    let s := if a.fid.isSome then a.st else returnCredit g f.credit a.st
    match ringOf s n with
    | none => s
    | some r =>
      let r := { r with fetch := none }
      let s := match a.fid, fr.txRing with
        | some i, some _ => setRing n { r with stamps := r.stamps ++ [(i, f.desc, f.descs.length)] } s
        | _, ts => txDescDone n f.desc f.descs.length (if ts.isSome then 2 else 0) none (setRing n r s)
      ringBoundary n s

/-- Up to `k` chunks of a frame in progress are fetched, `err` says that the host answers the last with an
error, and a frame whose last byte is present is admitted (R135, R137, R144). -/
def txChunks (n : Nat) (err : Bool) : Nat → State → State
  | 0, s => s
  | k + 1, s =>
    match ringOf s n with
    | none => s
    | some r =>
      match r.fetch with
      | none => s
      | some f =>
        let at_ := f.got.length
        let total := descTotal f.descs
        if total ≤ at_ then txAdmit n r f s
        else
          let stop (got : Bytes) (cause : Nat) (va : Option Nat) (s : State) : State :=
            let f := { f with got := got }
            let r := { r with fetch := some f }
            let s := setRing n r s
            let s := match va with
              | some va => dmmuFault 8 r.ctx cause va false s
              | none => s
            ringStop n cause r.point.1 r.point.2.1 r.point.2.2 s
          if err ∧ k = 0 ∧ (partner s r.owner).transport = 1 then stop f.got 4 none s
          else
            match fetchBytes s r.ctx f.descs at_ (min (256 - at_ % 256) (total - at_)) with
            | (bs, some (e, va)) => stop (f.got ++ bs) e (some va) s
            | (bs, none) =>
              let f := { f with got := f.got ++ bs }
              let s := setRing n { r with fetch := some f } s
              if total ≤ f.got.length then txAdmit n r f s else txChunks n err k s

/-- The TX DMA serves the ring it picks with up to `k` chunks. -/
def txDmaFetch (k : Nat) (err : Bool) (s : State) : State :=
  if !tsclkRuns s then s
  else
    match txPick s with
    | none => s
    | some (n, r) =>
      let s := { s with host.txArb := tset s.host.txArb r.tc (arbNext 128 n) }
      match txNext s r with
      | .idle => s
      | .bad p cause va =>
        let at_ := match r.fetch with
          | some f => (f.desc, f.got.length)
          | none => (r.head, 0)
        if cause = 5 then ringStop n 5 p at_.1 at_.2 s else ringFault n cause va false p at_.1 at_.2 s
      | .frame ds =>
        match r.fetch with
        | some f =>
          let f := { f with descs := ds }
          txChunks n err k (setRing n { r with fetch := some f, head := f.desc + BitVec.ofNat 16 ds.length } s)
        | none =>
          match txCredit s r (descTotal ds) with
          | none => s
          | some c =>
            let f : Fetch := { desc := r.head, descs := ds, got := [], credit := c }
            let s := takeCells (ringGport s r) c.cls c.res c.shared c.segs s
            txChunks n err k (setRing n { r with fetch := some f, head := r.head + BitVec.ofNat 16 ds.length } s)

/-! ### RX (R131-R134, R145) -/

/-- The frame at the head of a ring's waiting frames. -/
def rxHead (s : State) (n : Nat) : Option (Nat × HeldFrame) := match tget s.switch.ringIn [] n with
  | [] => none
  | i :: _ => (heldOf s i).map fun h => (i, h)

/-- The bytes an RX frame delivers: an Ethernet frame without FCS, or the host record (R131, R198). -/
def rxBytes (s : State) (n : Nat) (h : HeldFrame) : Bytes := match ringOf s n with
  | some r => ethBody h.frame (ringGport s r)
  | none => []

/-- Descriptors for a number of bytes. -/
def Ring.need (r : Ring) (len : Nat) : Nat := (len + r.bufSize - 1) / r.bufSize

/-- A ring is ready for the RX DMA: a frame is being written, or enough descriptors are posted, or the
frame can never fit (R133, R134). -/
def rxReady (s : State) (n : Nat) (r : Ring) : Bool :=
  r.st == 1 && r.rx && ringServed s r && (r.writing.isSome || (!r.stopping && (match rxHead s n with
    | some (_, h) =>
      let k := r.need (rxBytes s n h).length
      decide (k ≤ r.posted) || decide (r.most < k)
    | none => false)))

/-- A frame leaves a ring's waiting frames. -/
def rxTake (n fid : Nat) (s : State) : State :=
  { s with switch.ringIn := tset s.switch.ringIn n ((tget s.switch.ringIn [] n).filter fun i => i != fid) }

/-- A frame is dropped at its ring: `RING_DROPS` and its flow's counter (R134, R146). -/
def rxDrop (n fid flow : Nat) (s : State) : State :=
  let s := countFlowDrop flow (releaseRef fid (rxTake n fid s))
  match ringOf s n with
  | some r => setRing n { r with drops := satAdd 0xFFFFFFFF r.drops 1, writing := none } s
  | none => s

/-- How far the writing of a frame has come: bytes done, and the fault: descriptor, cause and the virtual
address and kind of the access where the DMMU refused it. -/
structure RxRun where
  st : State
  done : Nat
  fault : Option (Nat × Nat × Option (Nat × Bool))

/-- Write the buffers of the descriptors `ks` of a frame, from byte `from_` of it on; the host answers the
read of descriptor `err` with an error. -/
def rxBuffers (r : Ring) (data : Bytes) (first : Half) (err : Option Nat) : List Nat → Nat → State → RxRun
  | [], from_, s => { st := s, done := from_, fault := none }
  | k :: ks, from_, s =>
    let va := r.descVa (first + BitVec.ofNat 16 k)
    if err = some k ∧ (partner s r.owner).transport = 1 then { st := s, done := from_, fault := some (k, 4, none) }
    else
      match bulkRead s r.ctx va 8 with
      | (bs, some e) => { st := s, done := from_, fault := some (k, e, some (va + bs.length, false)) }
      | (b, none) =>
        let part := (data.drop from_).take (r.bufSize * (k + 1) - from_)
        let buf := leAt b 0 8 + (from_ - r.bufSize * k)
        match bulkWrite r.ctx buf part s with
        | (m, some e, s) => { st := s, done := from_ + m, fault := some (k, e, some (buf + m, true)) }
        | (m, none, s) => rxBuffers r data first err ks (from_ + m) s

/-- Bytes 0x08 to 0x1F of descriptor `k` of `count` (R131). -/
def rxDescBytes (s : State) (r : Ring) (h : HeldFrame) (len k count : Nat) : Bytes :=
  let f := h.frame
  let flags := b2n (k == 0) + 2 * b2n (k + 1 == count) + 4 * b2n f.verified + 8 * b2n (frameFlow s f).safety
  le 2 (min r.bufSize (len - r.bufSize * k)) ++ le 2 flags ++ le 2 f.flow ++ le 1 f.ingress ++ le 1 h.frame.tc ++
    le 4 (nsOf f.stamp) ++ le 6 (secOf f.stamp) ++ le 2 count ++ le 4 len

/-- Write the descriptors of a frame. -/
def rxDescs (r : Ring) (h : HeldFrame) (len count : Nat) (first : Half) : List Nat → State → RxRun
  | [], s => { st := s, done := len, fault := none }
  | k :: ks, s =>
    let va := r.descVa (first + BitVec.ofNat 16 k) + 8
    match bulkWrite r.ctx va (rxDescBytes s r h len k count) s with
    | (m, some e, s) => { st := s, done := len, fault := some (k, e, some (va + m, true)) }
    | (_, none, s) => rxDescs r h len count first ks s

/-- A fault while a frame is written (R145). -/
def rxFault (n : Nat) (fid : Nat) (first : Half) (x : RxRun) : State := match x.fault, ringOf x.st n with
  | some (k, cause, acc), some r =>
    let s := setRing n { r with writing := some (fid, first, x.done) } x.st
    let s := match acc with
      | some (va, w) => dmmuFault 8 r.ctx cause va w s
      | none => s
    ringStop n cause (first + BitVec.ofNat 16 k) first x.done s
  | _, _ => x.st

/-- Write the frame of a ring from where it stands, and complete it (R132, R133). -/
def rxWrite (n fid : Nat) (h : HeldFrame) (first : Half) (from_ : Nat) (err : Option Nat) (s : State) : State :=
  match ringOf s n with
  | none => s
  | some r =>
    let data := rxBytes s n h
    let count := r.need data.length
    let ks := (List.range count).drop (from_ / r.bufSize)
    let x := rxBuffers r data first err ks from_ s
    if x.fault.isSome then rxFault n fid first x
    else
      let y := rxDescs r h data.length count first (List.range count) x.st
      if y.fault.isSome then rxFault n fid first y
      else
        match ringOf y.st n with
        | none => y.st
        | some r =>
          let r := { r with writing := none, done := first + BitVec.ofNat 16 count, frames := r.frames + 1 }
          ringBoundary n (ringNotify n (releaseRef fid (rxTake n fid (setRing n r y.st))))

/-- The ring the RX DMA serves (R136). -/
def rxPick (s : State) : Option (Nat × Ring) :=
  match topClass (s.host.rings.filter fun e => rxReady s e.1 e.2) with
  | none => none
  | some (c, l) =>
    match arbGrant (tget s.host.rxArb 0 c) (l.map fun e => e.1) with
    | some i => l.find? fun e => e.1 == i
    | none => none

/-- The RX DMA delivers one frame (R133, R134, R136). -/
def rxDmaDeliver (err : Option Nat) (s : State) : State :=
  if !tsclkRuns s then s
  else
    match rxPick s with
    | none => s
    | some (n, r) =>
      let s := { s with host.rxArb := tset s.host.rxArb r.tc (arbNext 128 n) }
      match r.writing with
      | some (fid, first, from_) =>
        match heldOf s fid with
        | some h => rxWrite n fid h first from_ err s
        | none => s
      | none =>
        match rxHead s n with
        | none => s
        | some (fid, h) =>
          let k := r.need (rxBytes s n h).length
          if r.most < k then rxDrop n fid h.frame.flow s
          else
            let r' := { r with head := r.head + BitVec.ofNat 16 k, writing := some (fid, r.head, 0) }
            rxWrite n fid h r.head 0 err (setRing n r' s)

/-! ### Coalescing, restart and disabling -/

/-- The coalescing time of a ring has passed (R132). -/
def ringCoalesce (n : Nat) (s : State) : State := match ringOf s n with
  | some r =>
    match r.firstUnsig with
    | some f =>
      if f + us r.coalUs ≤ s.now then raiseVec n (setRing n { r with firstUnsig := none } s) else s
    | none => s
  | none => s

/-- The descriptors a skip completes: to EOP, or to the descriptor of the fault where none is found. -/
def skipCount (s : State) (r : Ring) (first : Half) : Nat → Nat → Nat
  | 0, k => k
  | fuel + 1, k =>
    let p := first + BitVec.ofNat 16 k
    if p = r.tail then k
    else
      match bulkRead s r.ctx (r.descVa p) 32 with
      | (_, some _) => k + 1
      | (b, none) => if descEop b then k + 1 else skipCount s r first fuel (k + 1)

/-- A stopped ring resumes (R146, R147). A TX ring re-reads its descriptors from FAULT_DESC on. -/
def ringResume (n : Nat) (r : Ring) (s : State) : State :=
  let keep (f : Fetch) : Fetch := { f with descs := f.descs.take (r.faultDesc - f.desc).toNat }
  setRing n { r with st := 1, fetch := r.fetch.map keep } s

/-- A stopped ring skips the affected frame (R146). -/
def ringSkip (n : Nat) (r : Ring) (s : State) : State :=
  if r.rx then
    match r.writing with
    | some (fid, first, _) =>
      let flow := match heldOf s fid with
        | some h => h.frame.flow
        | none => 0
      rxDrop n fid flow (setRing n { r with st := 1, head := first } s)
    | none => setRing n { r with st := 1 } s
  else
    let first := match r.fetch with
      | some f => f.desc
      | none => r.head
    let count := match r.fetch with
      | some f => if wholeFrame f.descs then f.descs.length else skipCount s r first 32 0
      | none => skipCount s r first 32 0
    let s := match r.fetch with
      | some f => returnCredit (ringGport s r) f.credit s
      | none => s
    if count = 0 then setRing n { r with st := 1, fetch := none } s
    else
      let r := { r with st := 1, fetch := none, head := first + BitVec.ofNat 16 count
                        drops := satAdd 0xFFFFFFFF r.drops 1 }
      txDescDone n first count 1 none (setRing n r s)

/-- A ring is disabled at a frame boundary; a stopped one gives up its frame (R172; DEDUCED). Frames that
wait for it are dropped as R354 drops them. -/
def ringDisable (n : Nat) (r : Ring) (s : State) : State :=
  let s := match r.fetch with
    | some f => if r.st = 2 then returnCredit (ringGport s r) f.credit s else s
    | none => s
  let busy := r.st == 1 && (r.fetch.isSome || r.writing.isSome)
  let r' : Ring := if busy then { r with stopping := true } else { r with st := 0, stopping := false, fetch := none, writing := none }
  let keep := match r.writing with
    | some (fid, _, _) => if busy then some fid else none
    | none => none
  let s := setRing n r' s
  ((tget s.switch.ringIn [] n).filter fun i => some i != keep).foldl
    (fun s i => releaseRef i (bump (swCtr (ringGport s r) 0x98) (rxTake n i s))) s

/-! ### The HOSTP link (R117, R121, R174) -/

/-- PCIE_LINK (R174). -/
def pcieEvent (up : Bool) (s : State) : State :=
  raiseEvent 0x0B00 0x0104 (le 1 (b2n up) ++ le 1 s.host.width ++ le 1 s.host.speed) s

/-- The HOSTP link goes down (R121). -/
def pcieDown (s : State) : State :=
  if !s.host.linkUp then s
  else
    let mine := (s.host.rings.filter fun e => (partner s e.2.owner).transport == 1).map fun e => e.1
    let s := mine.foldl (fun s n => ringHalt n 8 s) { s with host.linkUp := false, host.width := 0, host.speed := 0 }
    pcieEvent false s

/-- The HOSTP link comes up with a width and a speed in GT/s. -/
def pcieUp (width speed : Nat) (s : State) : State :=
  if s.host.linkUp || s.host.perst || !tsclkRuns s then s
  else pcieEvent true { s with host.linkUp := true, host.width := width % 256, host.speed := speed % 256 }

/-- PCIE_PERST_N changes (R767). -/
def pciePerst (low : Bool) (s : State) : State :=
  let s := { s with host.perst := low }
  if low then pcieDown s else s

/-- A read towards the host receives no completion (R117): a ring whose fetch it was stops with HOST_ERROR
(R128); any other read only counts. -/
def pcieTimeout (ring : Option Nat) (s : State) : State :=
  if !s.host.linkUp then s
  else
    let s := { s with host.timeouts := (s.host.timeouts + 1) % 2 ^ 32 }
    match ring with
    | some n =>
      match ringOf s n with
      | some r => if (partner s r.owner).transport = 1 ∧ !r.rx ∧ r.fetch.isSome then ringHalt n 4 s else s
      | none => s
    | none => s

end Sys2Proof.Machine
end

