-- ==== Sys2Proof/Machine/BridgeOps.lean ====
section
/-!
DEFINITION. Host accesses: BAR0 (R43, R119), the window bridge (R120, R159-R166) and the octal-SPI target
(R149-R158).
-/
namespace Sys2Proof.Machine

/-! ### BAR0 (R43, R119) -/

/-- The internal offset in unit 0x0B00 of a BAR0 word, where one stands behind it (R43, R44, R125, R157). -/
def bar0Offset (o : Nat) : Option Nat :=
  if o < 0x1000 then some (0x4000 + o)
  else if o < 0x1200 then some o
  else if o = 0x1200 then some 0
  else if o = 0x1204 then some 4
  else none

/-- The word at an aligned BAR0 offset as partner `p` reads it; a reserved offset reads 0 (R43). -/
def bar0Word (s : State) (p o : Nat) : Nat := match bar0Offset o with
  | some i => (hostWord s p i ||| w1cWord s (unitBase 0x0B00 + i)) % 2 ^ 32
  | none => 0

/-- The bytes a read of BAR0 returns: those of the words that hold them (R119). -/
def bar0Read (s : State) (p o n : Nat) : Bytes :=
  (List.range n).map fun i => BitVec.ofNat 8 (bar0Word s p ((o + i) / 4 * 4) / 256 ^ ((o + i) % 4))

/-- A doorbell of BAR0: a ring's, or one of the five of a partner block (R102, R125). -/
def isDoorbell (o : Nat) : Bool :=
  (decide (o < 0x1000) && o % 0x20 == 0) || (within o 0x1000 0x11FF && [0, 8, 0x10, 0x14, 0x18].contains (o % 0x40))

/-- A whole aligned word is written to BAR0: a doorbell acts, any other write is ignored (R11, R43). -/
def bar0Write (o : Nat) (v : Word) (s : State) : State :=
  if !isDoorbell o then s
  else if o < 0x1000 then ringDoorbell (o / 0x20) v s
  else
    let p := (o - 0x1000) / 0x40
    if !(partner s p).attached then s
    else match o % 0x40 with
    | 0x00 => cmdDoorbell p v s
    | 0x08 => rplDoorbell p v s
    | 0x10 => evqOp p v (evqMark p) s
    | 0x14 => evqOp p v (evqRewind p) s
    | _ => evqOp p v (evqRelease p) s

/-- A write that is no whole aligned word is ignored; each doorbell it addresses shows the fault (R119). -/
def bar0Fault (o n : Nat) (s : State) : State :=
  let words := ((List.range (n + 3)).map fun i => (o + i) / 4 * 4).eraseDups.filter fun w => decide (w < o + n) && isDoorbell w
  words.foldl (fun s w =>
    if w < 0x1000 then ringHalt (w / 0x20) 6 s
    else
      let p := (w - 0x1000) / 0x40
      let s := setW1c 0x0B00 (evqStatusOff p) 0 p s
      if (partner s p).transport = 1 then raiseVec (130 + 8 * p) s else s) s

/-- The host reads or writes BAR0 over PCIe; the answer to a read is kept as the last answer. -/
def bar0Access (p o n : Nat) (write : Option Bytes) (s : State) : State :=
  if !tsclkRuns s || !s.host.linkUp || decide (0x10000 < o + n) then s
  else
    match write with
    | none => { s with host.answer := { status := 0, data := bar0Read s p o n } }
    | some d => if n = 4 ∧ o % 4 = 0 then bar0Write o (w32 (leAt d 0 4)) s else bar0Fault o n s

/-! ### Bridge errors (R120, R160, R163, R166, R174) -/

/-- Whether a bit of `BRIDGE_STATUS` is set. -/
def bridgeBit (s : State) (b : Nat) : Bool := w1cIs s 0x0B00 0x6000 b

/-- A bridge error of a KIND: its status bit, ERRORS, the first address it keeps, and BRIDGE_ERROR. -/
def bridgeError (kind p addr : Nat) (s : State) : State :=
  let first := if kind = 1 then !bridgeBit s 0 else !bridgeBit s 1 && !bridgeBit s 2
  let s := if !first then s
    else if kind = 1 then { s with host.lostPartner := p, host.lostAddr := addr % 2 ^ 40 }
    else if kind = 2 ∨ kind = 3 then { s with host.errAddr := addr % 2 ^ 40 }
    else s
  let s := setW1c 0x0B00 0x6000 (kind - 1) p { s with host.errors := satAdd 0xFF s.host.errors 1 }
  raiseEvent 0x0B00 0x0103 (le 1 kind ++ le 1 p ++ zeros 2 ++ le 8 (addr % 2 ^ 40)) s

/-! ### Windows (R159) -/

/-- Fields of `WINDOW_SET`. -/
def Window.size (w : Window) : Nat := 2 ^ byteAt w.raw 2
def Window.mode (w : Window) : Nat := byteAt w.raw 3
def Window.prefetched (w : Window) : Bool := byteAt w.raw 4 == 1
def Window.ctx (w : Window) : Nat := byteAt w.raw 5
def Window.offset (w : Window) : Nat := leAt w.raw 8 4
def Window.target (w : Window) : Nat := leAt w.raw 16 8

/-- The window of a transport's region that holds a whole access. -/
def windowAt (s : State) (tr o n : Nat) : Option (Nat × Window) :=
  s.host.windows.find? fun e => (partner s e.2.owner).transport == tr && decide (e.2.offset ≤ o) &&
    decide (o + n ≤ e.2.offset + e.2.size)

/-- The bridge as a master: HOSTP or HOSTS (R175). -/
def bridgeMaster (spi : Bool) : Nat := if spi then 10 else 9

/-- The statuses of a window access (R154); HOSTP answers 3 and 4 with Completer Abort. -/
def accOk : Nat := 0
def accDecode : Nat := 3
def accDenied : Nat := 4

/-- The pieces of an access, cut at 64-byte boundaries, in ascending order (R165). -/
def pieces : Nat → Nat → Nat → List (Nat × Nat)
  | 0, _, _ => []
  | fuel + 1, a, n =>
    if n = 0 then []
    else
      let k := min n (64 - a % 64)
      (a, k) :: pieces fuel (a + k) (n - k)

/-- All pieces of an access. -/
def piecesOf (a n : Nat) : List (Nat × Nat) := pieces (n / 64 + 2) a n

/-- Where one piece of a read leads: an internal address, or a status with the cause of a DMMU fault. -/
def readTarget (s : State) (ctx va : Nat) : Except (Nat × Option Nat) Nat :=
  match translate s ctx va false with
  | .error c => .error (accDenied, some c)
  | .ok x =>
    if x.host then .error (accDenied, none)
    else if !isMapped x.addr then .error (accDecode, none)
    else if !bridgeReadable x.addr then .error (accDenied, none)
    else .ok x.addr

/-- A window access that the DMMU refuses (R120, R141); of a write, `BRIDGE_ERR_ADDR` keeps the virtual
address, where it is the first (DEDUCED). -/
def windowFault (spi : Bool) (p ctx cause va : Nat) (write : Bool) (s : State) : State :=
  let s := if write && !bridgeBit s 1 && !bridgeBit s 2 then { s with host.errAddr := va % 2 ^ 40 } else s
  bridgeError 4 p va (dmmuFault (bridgeMaster spi) ctx cause va write s)

/-- Read the pieces of an access: the status and the bytes. -/
def readPieces (spi : Bool) (p ctx : Nat) : List (Nat × Nat) → State → Nat × Bytes × State
  | [], s => (accOk, [], s)
  | (va, n) :: rest, s =>
    match readTarget s ctx va with
    | .error (st, c) =>
      (st, [], match c with
        | some c => windowFault spi p ctx c va false s
        | none => s)
    | .ok a =>
      let (bs, s) := mapRead p a n none s
      let (st, more, s) := readPieces spi p ctx rest s
      (st, bs ++ more, s)

/-! ### Prefetch (R162, R163) -/

/-- Read-sensitive words of a line at or after a virtual address. -/
def lineLost (va a next : Nat) : Option Nat :=
  ((List.range 16).map fun i => (va + 4 * i, a + 4 * i)).findSome? fun e =>
    if isSensitive e.2 && decide (next ≤ e.1) then some e.2 else none

/-- A partner's prefetch buffer is discarded: read-sensitive data that did not reach the partner is lost. -/
def discardPrefetch (p : Nat) (s : State) : State := match tget? s.host.prefetch p with
  | none => s
  | some b =>
    let s := { s with host.prefetch := tdel s.host.prefetch p }
    match b.lines.findSome? (fun e => lineLost e.1 e.2.1 b.next) with
    | some a => bridgeError 1 p a s
    | none => s

/-- Read whole lines from `va` on, as far as they translate and may be read. -/
def readLines (p ctx limit : Nat) : Nat → Nat → State → Tab (Nat × Bytes) × State
  | 0, _, s => ([], s)
  | k + 1, va, s =>
    if limit < va + 64 then ([], s)
    else
      match readTarget s ctx va with
      | .error _ => ([], s)
      | .ok a =>
        let (bs, s) := mapRead p a 64 none s
        let (more, s) := readLines p ctx limit k (va + 64) s
        ((va, (a, bs)) :: more, s)

/-- A read through a prefetchable window: whole lines, from the buffer where it holds them, and up to 256
bytes ahead where accesses ascend (R162). -/
def prefetchRead (spi : Bool) (p i : Nat) (w : Window) (va n : Nat) (s : State) : Nat × Bytes × State :=
  let old := tget? s.host.prefetch p
  let follows : Bool := match old with
    | some b => b.window == i && b.next == va
    | none => false
  let s := if follows then s else discardPrefetch p s
  let held : Tab (Nat × Bytes) := if follows then (old.map fun b => b.lines).getD [] else []
  let first := va / 64 * 64
  let count := (va + n - first + 63) / 64
  let bad := ((List.range count).map fun k => first + 64 * k).findSome? fun l =>
    if thas held l then none else match readTarget s w.ctx l with
      | .error e => some (l, e)
      | .ok _ => none
  match bad with
  | some (l, st, c) =>
    (st, [], match c with
      | some c => windowFault spi p w.ctx c l false s
      | none => s)
  | none =>
    let (lines, s) := ((List.range count).map fun k => first + 64 * k).foldl
      (fun (x : Tab (Nat × Bytes) × State) l => match tget? held l with
        | some e => (tset x.1 l e, x.2)
        | none =>
          let (r, s) := readLines p w.ctx (l + 64) 1 l x.2
          match r with
          | (_, e) :: _ => (tset x.1 l e, s)
          | [] => (x.1, s)) ([], s)
    let bytes := (List.range n).map fun k => match tget? lines ((va + k) / 64 * 64) with
      | some e => e.2.getD ((va + k) % 64) 0
      | none => 0
    let next := va + n
    let ahead := (next + 63) / 64 * 64
    let kept := (held ++ lines).filter fun e => decide (next < e.1 + 64)
    let known := kept.foldl (fun m e => tset m e.1 e.2) ([] : Tab (Nat × Bytes))
    let (more, s) := if !follows then ([], s)
      else
        let from_ := (known.map fun e => e.1 + 64).foldl max ahead
        readLines p w.ctx (w.target + w.size) (4 - known.length) from_ s
    let b : Prefetch := { window := i, next := next, lines := more.foldl (fun m e => tset m e.1 e.2) known, last := s.now }
    (accOk, bytes, { s with host.prefetch := tset s.host.prefetch p b })

/-- A read through a window by partner `p` (R120, R162-R165). -/
def windowGet (spi : Bool) (p i : Nat) (w : Window) (o n : Nat) (s : State) : Nat × Bytes × State :=
  let va := w.target + (o - w.offset)
  if w.prefetched then prefetchRead spi p i w va n s
  else readPieces spi p w.ctx (piecesOf va n) (discardPrefetch p s)

/-! ### Writes (R46, R120, R160, R161) -/

/-- Perform the pieces of a write in order; the status of the first that fails ends it. A write to unit
registers is ignored silently. -/
def writePieces (spi : Bool) (p ctx : Nat) : List (Nat × Nat) → Bytes → State → Nat × State
  | [], _, s => (accOk, s)
  | (va, n) :: rest, d, s =>
    match translate s ctx va true with
    | .error c => (accDenied, windowFault spi p ctx c va true s)
    | .ok x =>
      if x.host then (accDenied, bridgeError 2 p x.addr s)
      else if isLpddr x.addr then
        writePieces spi p ctx rest (d.drop n) { s with host.internal := memWriteBytes s.host.internal x.addr (d.take n) }
      else if isUnitReg x.addr && isMapped x.addr then writePieces spi p ctx rest (d.drop n) s
      else if isMapped x.addr then (accDenied, bridgeError 2 p x.addr s)
      else (accDecode, bridgeError 3 p x.addr s)

/-- A write accepted earlier completes: any failure sets WR_ERR (R160). -/
def performWrite (x : BridgeWrite) (s : State) : Nat × State :=
  match tget? s.host.windows x.window with
  | none => (accDecode, bridgeError 3 x.partner x.va s)
  | some w =>
    let (st, s) := writePieces x.spi x.partner w.ctx (piecesOf x.va x.data.length) x.data s
    if st = accOk || bridgeBit s 1 then (st, s) else (st, setW1c 0x0B00 0x6000 1 x.partner s)

/-- A write ends the prefetch of its window (R162). -/
def writeEndsPrefetch (p i : Nat) (s : State) : State := match tget? s.host.prefetch p with
  | some b => if b.window = i then discardPrefetch p s else s
  | none => s

/-- Inbound writes of a port that the bridge holds (R167). -/
def heldWrites (s : State) (f : BridgeWrite → Bool) : Nat := (s.host.writes.filter f).length

/-- Take the first held write that meets `f`. -/
def popWrite (f : BridgeWrite → Bool) : List BridgeWrite → Option (BridgeWrite × List BridgeWrite)
  | [] => none
  | x :: xs => if f x then some (x, xs) else (popWrite f xs).map fun y => (y.1, x :: y.2)

/-- A posted write completes internally (R160). -/
def postedDone (s : State) : State := match popWrite (fun x => x.posted) s.host.writes with
  | none => s
  | some (x, rest) => (performWrite x { s with host.writes := rest }).2

/-- A non-posted write of a partner completes internally: its outcome is recorded for a HOSTS partner
(R156), and a failure ends the next read of a HOSTP partner (R160). -/
def nonpostedDone (p : Nat) (s : State) : State :=
  match popWrite (fun x => !x.posted && x.partner == p) s.host.writes with
  | none => s
  | some (x, rest) =>
    let (st, s) := performWrite x { s with host.writes := rest }
    if x.spi then { s with host.lastStatus := tset s.host.lastStatus p (st, false) }
    else if st = accOk then s
    else { s with host.abortNext := s.host.abortNext.filter (fun q => q != p) ++ [p] }

/-! ### BAR2 (R118, R120) -/

/-- The answer to a host read. -/
def answerWith (status : Nat) (data : Bytes) (s : State) : State := { s with host.answer := { status := status, data := data } }

/-- The window region ends where the MSI-X table begins (R118, R149). -/
def windowRegionEnd : Nat := 0x0FFF0000

/-- A host read of BAR2: status 0 with data, 1 for Unsupported Request, 2 for Completer Abort. -/
def bar2Read (o n : Nat) (s : State) : State :=
  if !tsclkRuns s || !s.host.linkUp then s
  else if within o windowRegionEnd (windowRegionEnd + 0xFFF) ∧ o + n ≤ windowRegionEnd + 0x1000 then
    answerWith 0 (memReadBytes s.host.msixTable (o - windowRegionEnd) n) s
  else if within o 0x0FFF8000 0x0FFF801F ∧ o + n ≤ 0x0FFF8020 then answerWith 0 (zeros n) s
  else
    match windowAt s 1 o n with
    | none => answerWith 1 [] { s with host.urCount := (s.host.urCount + 1) % 2 ^ 32 }
    | some (i, w) =>
      let p := w.owner
      let abort (s : State) : State := answerWith 2 [] { s with host.caCount := (s.host.caCount + 1) % 2 ^ 32 }
      if s.host.writes.any fun x => !x.posted && x.partner == p && !x.spi then s
      else if s.host.abortNext.contains p then abort { s with host.abortNext := s.host.abortNext.filter fun q => q != p }
      else
        let (st, d, s) := windowGet false p i w o n s
        if st = accOk then answerWith 0 d s else abort s

/-- A host write of BAR2. -/
def bar2Write (o : Nat) (d : Bytes) (s : State) : State :=
  let n := d.length
  if !tsclkRuns s || !s.host.linkUp then s
  else if within o windowRegionEnd (windowRegionEnd + 0xFFF) ∧ o + n ≤ windowRegionEnd + 0x1000 then
    { s with host.msixTable := memWriteBytes s.host.msixTable (o - windowRegionEnd) d }
  else if within o 0x0FFF8000 0x0FFF801F then s
  else
    match windowAt s 1 o n with
    | none => bridgeError 3 0 o s
    | some (i, w) =>
      let p := w.owner
      if (s.host.writes.any fun x => !x.posted && x.partner == p && !x.spi) ||
          (w.mode == 1 && decide (32 ≤ heldWrites s fun x => x.posted && !x.spi)) then s
      else
        let va := w.target + (o - w.offset)
        let x : BridgeWrite := { partner := p, window := i, va := va, data := d, posted := w.mode == 1, spi := false }
        let s := writeEndsPrefetch p i s
        if w.mode = 0 then bridgeError 2 p va s
        else { s with host.writes := s.host.writes ++ [x] }

/-! ### Octal SPI (R149-R158) -/

/-- A kept read ends without having been fetched: read-sensitive data is lost (R163). -/
def dropKept (p : Nat) (s : State) : State := match tget? s.host.kept p with
  | none => s
  | some k =>
    let s := { s with host.kept := tdel s.host.kept p }
    match k.sensitive with
    | some a => bridgeError 1 p a s
    | none => s

/-- A transaction begins: LAT takes its new value at the falling edge of OSPI_CS_N (R158). -/
def spiStart (s : State) : State := match s.host.latNext with
  | some v => { s with host.lat := v, host.latNext := none }
  | none => s

/-- A transaction ends with a status (R154, R157). -/
def spiEnd (status : Nat) (data : Bytes) (s : State) : State :=
  let s := { s with host.spiCount := (s.host.spiCount + 1) % 2 ^ 32 }
  let s := if status = 1 then { s with host.retries := (s.host.retries + 1) % 2 ^ 32 }
    else if status = 6 then { s with host.pendings := (s.host.pendings + 1) % 2 ^ 32 }
    else if status = 2 then
      setW1c 0x0B00 4 10 0 { s with host.crcErrs := satAdd 0xFF s.host.crcErrs 1 }
    else s
  answerWith status data s

/-- What every transaction is checked for first: CRC, CMD and PART, and the partner's transport (R154). -/
def spiReject (s : State) (crc cmd : Bool) (part : Nat) : Option Nat :=
  if !crc then some 2
  else if !cmd || decide (8 ≤ part) then some 5
  else if (partner s part).transport ≠ 2 then some 7
  else none

/-- A read of the command ring area: within the partner's reply-ring slots (R150). -/
def ringAreaRead (p o n : Nat) : Nat → State → Bytes × State
  | 0, s => ([], s)
  | k + 1, s =>
    let i := n - (k + 1)
    let (b, s) := match replyByte s p (o + i) with
      | some b => (b, s)
      | none => takeFree 8 s
    let (bs, s) := ringAreaRead p o n k s
    (b :: bs, s)

/-- The outcome of a READ of `n` bytes at an address (R149, R150): status, data, and the first
read-sensitive word it holds. -/
def spiGet (p a n : Nat) (s : State) : Nat × Bytes × Option Nat × State :=
  let slots := 64 * (partner s p).slots
  if a + n ≤ 0x10000 then (accOk, bar0Read s p a n, none, s)
  else if 0x20000 ≤ a ∧ a + n ≤ 0x28000 then
    if 0x24000 ≤ a ∧ a + n ≤ 0x24000 + slots then
      let (d, s) := ringAreaRead p (a - 0x24000) n n s
      (accOk, d, none, s)
    else (accDenied, [], none, s)
  else
    let o := a - 0x10000000
    match if 0x10000000 ≤ a ∧ o + n ≤ windowRegionEnd then windowAt s 2 o n else none with
    | none => (accDecode, [], none, bridgeError 3 p a s)
    | some (i, w) =>
      let va := w.target + (o - w.offset)
      let sens := (piecesOf va n).findSome? fun e => match readTarget s w.ctx e.1 with
        | .ok x => firstSensitive x e.2
        | .error _ => none
      let (st, d, s) := windowGet true p i w o n s
      (st, d, sens, s)

/-- A READ transaction; `ready` says that its data is buffered by the end of LAT (R155). -/
def spiRead (part a n : Nat) (crc cmd ready : Bool) (s : State) : State :=
  if !tsclkRuns s then s
  else
    let s := spiStart s
    match spiReject s crc cmd part with
    | some st => spiEnd st [] s
    | none =>
      let serve (s : State) : State :=
        if s.host.writes.any fun x => !x.posted && x.partner == part && x.spi then spiEnd 1 [] s
        else
          let (st, d, sens, s) := spiGet part a n s
          if st = accOk ∧ !ready then
            let k : Kept := { addr := a, len := n, data := d, till := s.now + us 10, sensitive := sens }
            spiEnd 1 [] { s with host.kept := tset s.host.kept part k }
          else spiEnd st d s
      match tget? s.host.kept part with
      | some k =>
        if k.addr = a ∧ k.len = n ∧ s.now < k.till then
          spiEnd 0 k.data { s with host.kept := tset s.host.kept part { k with sensitive := none } }
        else serve (dropKept part s)
      | none => serve s

/-- A WRITE through a window of HOSTS; `fast` says that a non-posted outcome is known within 4 µs (R154,
R156, R160). -/
def spiWindowWrite (p i : Nat) (w : Window) (va : Nat) (d : Bytes) (fast : Bool) (s : State) : State :=
  let x : BridgeWrite := { partner := p, window := i, va := va, data := d, posted := w.mode == 1, spi := true }
  let s := writeEndsPrefetch p i s
  if w.mode = 0 then spiEnd accDenied [] (bridgeError 2 p va s)
  else if s.host.writes.any fun y => y.spi && y.partner == p && y.posted == x.posted then spiEnd 1 [] s
  else if w.mode = 1 then spiEnd 0 [] { s with host.writes := s.host.writes ++ [x] }
  else if fast then
    let (st, s) := performWrite x s
    spiEnd st [] { s with host.lastStatus := tset s.host.lastStatus p (st, false) }
  else
    let last := (tget s.host.lastStatus (0, false) p).1
    spiEnd 6 [] { s with host.writes := s.host.writes ++ [x], host.lastStatus := tset s.host.lastStatus p (last, true) }

/-- A WRITE transaction (R149, R150, R153). -/
def spiWrite (part a : Nat) (d : Bytes) (crc fast : Bool) (s : State) : State :=
  if !tsclkRuns s then s
  else
    let s := spiStart s
    let n := d.length
    match spiReject s crc true part with
    | some st => spiEnd st [] s
    | none =>
      let s := dropKept part s
      if a + n ≤ 0x10000 then
        if a % 4 = 0 ∧ n % 4 = 0 then
          spiEnd 0 [] ((List.range (n / 4)).foldl (fun s k => bar0Write (a + 4 * k) (w32 (leAt d (4 * k) 4)) s) s)
        else spiEnd accDenied [] (bar0Fault a n s)
      else if 0x20000 ≤ a ∧ a + n ≤ 0x28000 then
        spiEnd (if a + n ≤ 0x20000 + 64 * (partner s part).slots then 0 else accDenied) [] s
      else
        let o := a - 0x10000000
        match if 0x10000000 ≤ a ∧ o + n ≤ windowRegionEnd then windowAt s 2 o n else none with
        | none => spiEnd accDecode [] (bridgeError 3 part a s)
        | some (i, w) => spiWindowWrite part i w (w.target + (o - w.offset)) d fast s

/-- A STATUS_READ transaction (R153, R157): `HOST_SPI_STATUS` as it stands when the transaction is served. -/
def spiStatusRead (part : Nat) (crc : Bool) (s : State) : State :=
  if !tsclkRuns s then s
  else
    let s := spiStart s
    match spiReject s crc true part with
    | some st => spiEnd st [] s
    | none =>
      let d := le 4 (bar0Word s part 0x1204)
      spiEnd 0 d (dropKept part s)

/-- OSPI_CS_N rises before the header or the data has ended (R157). -/
def spiFraming (s : State) : State :=
  if !tsclkRuns s then s
  else
    let s := spiStart s
    setW1c 0x0B00 4 11 0 { s with host.framingErrs := satAdd 0xFF s.host.framingErrs 1 }

/-- A kept read's window has ended (R155). -/
def keptExpiry (p : Nat) (s : State) : State := match tget? s.host.kept p with
  | some k => if k.till ≤ s.now then dropKept p s else s
  | none => s

/-- 2 µs have passed without an access by a partner (R162). -/
def prefetchExpiry (p : Nat) (s : State) : State := match tget? s.host.prefetch p with
  | some b => if b.last + us 2 ≤ s.now then discardPrefetch p s else s
  | none => s

end Sys2Proof.Machine
end

