-- ==== Sys2Proof/Machine/Runner.lean ====
section
/-!
DEFINITION. How Pair A runs one command: the fetch (R57, R58, R68), the ten steps (R62), sequence
numbers (R59-R61), transactions (R75-R82), asynchronous commands (R72, R73) and the reply (R55).
-/
namespace Sys2Proof.Machine

/-- Pair A runs and fetches: commands wait during a hitless activation and its LBIST slot (R71, R736), and
while it waits for the answer to a `REMOTE_READ` (R68, R711). -/
def pairARuns (s : State) : Bool :=
  tsclkRuns s && !s.safety.haltedA && s.power.activating.isNone && !lbistRuns 0 s && s.pair.remote.isNone

/-- The header of a command as R56 covers it. -/
def headerBytes (opcode : Nat) (k : Packet) : Bytes :=
  [k.version, k.flags] ++ le 2 opcode ++ le 2 k.tag.toNat ++ le 2 k.unit.toNat ++
    le 2 k.plen.toNat ++ le 2 k.txn.toNat ++ le 4 k.seq.toNat

/-- The trailer is good (R56). -/
def crcGood (opcode : Nat) (k : Packet) : Bool :=
  crc32c (headerBytes opcode k ++ padTo k.plen.toNat k.params) == k.crc

/-- Pair A can fetch this packet now (R58, R68). -/
def canFetch (p : Nat) (k : Packet) (s : State) : Bool :=
  let x := partner s p
  decide (p < 8) && pairARuns s && x.attached && x.waiting.isEmpty && decide (1 ≤ x.replyRoom) &&
    decide (packetSlots k.plen.toNat ≤ (x.reqTail - x.reqHead).toNat)

/-- An answer: status and reply parameters. -/
structure Answer where
  status : Nat
  params : Bytes := []
deriving DecidableEq, Repr

/-- The answer of a rejection outside a closing transaction (R64). -/
def Reject.answer (r : Reject) : Answer :=
  { status := r.status, params := if r.status = stBadValue then le 2 r.off ++ zeros 2 else [] }

/-- The answer of a rejection of member `m` that ends a transaction (R79). -/
def Reject.ending (r : Reject) (m : Nat) : Answer :=
  { status := r.status, params := le 2 (if r.status = stBadValue then r.off else 0) ++ le 2 m }

/-- Step 2 of R62 (R53, R54, R76): the offending header fields in their order. -/
def headerCheck (o : CmdSpec) (k : Packet) : Check :=
  let f := k.flags.toNat
  firstOf
    [ range (k.version == 1) 0x8000,
      range (bits f 7 3 == 0 && !(bit f 1 && !bit f 0) && !(bit f 0 && o.async)) 0x8001,
      range (if bit f 0 then k.txn != 0 else k.txn == 0) 0x800A ]

/-- A packet as its meaning sees it. -/
def ctxOf (o : CmdSpec) (p : Nat) (k : Packet) : Ctx :=
  { p := p, unit := k.unit.toNat, opcode := o.opcode, tag := k.tag, seq := k.seq,
    ps := padTo k.plen.toNat k.params }

/-- A held member as its meaning sees it. -/
def Member.ctx (p : Nat) (m : Member) : Ctx :=
  { p := p, unit := m.unit, opcode := m.opcode, tag := m.tag, seq := m.seq, ps := m.params }

/-- Check and apply members in order (R79): the state and the last reply, or the first failing
member with its rejection. -/
def applyMembers (look : Nat → Option CmdSpec) (p : Nat) :
    Nat → List Member → Bytes → State → Except (Nat × Reject × Ctx) (State × Bytes)
  | _, [], out, s => .ok (s, out)
  | i, m :: ms, _, s =>
    match look m.opcode with
    | none => .error (i, { status := stBadOpcode }, m.ctx p)
    | some o =>
      match o.check (m.ctx p) s with
      | some r => .error (i, r, m.ctx p)
      | none =>
        let (s', out) := o.apply (m.ctx p) s
        applyMembers look p (i + 1) ms out s'

/-- Replace the open transaction of a partner. -/
def setTxn (p : Nat) (x : Option Txn) (s : State) : State := updPartner p (fun y => { y with txn := x }) s

/-- A member of a transaction, after step 3 (R75-R82, R783). -/
def runMember (look : Nat → Option CmdSpec) (o : CmdSpec) (p : Nat) (k : Packet) (s : State) :
    State × Answer :=
  let c := ctxOf o p k
  let last := bit k.flags.toNat 1
  let probe := last && bit k.flags.toNat 2
  let id := k.txn.toNat
  let run (x : Txn) : State × Answer :=
    let x := { x with last := s.now }
    let n := x.members.length
    let me : Member := { opcode := o.opcode, unit := c.unit, tag := c.tag, seq := c.seq, params := c.ps }
    let full := decide (256 ≤ n) ||
      decide (65536 < (x.members.map fun m => m.params.length).sum + c.ps.length)
    if x.failed then (setTxn p (if last && !probe then none else some x) s, { status := stTxnAborted })
    else if last then
      let close (s : State) : State := setTxn p (if probe then some x else none) s
      if full then (close s, { status := stNoRoom, params := le 2 0 ++ le 2 n })
      else
        match applyMembers look p 0 (x.members ++ [me]) [] s with
        | .error (i, r, ci) =>
          let s := match look ci.opcode with
            | some oi => oi.onReject ci r s
            | none => s
          (close s, r.ending i)
        | .ok (s', out) =>
          if probe then (close s, { status := stDone }) else (close s', { status := stDone, params := out })
    else
      match if full then some { status := stNoRoom } else o.check c s with
      | some r => (setTxn p (some { x with failed := true }) (o.onReject c r s), r.answer)
      | none => (setTxn p (some { x with members := x.members ++ [me] }) s, { status := stStaged })
  match (partner s p).txn with
  | none =>
    if probe then
      match o.check c s with
      | some r => (o.onReject c r s, r.ending 0)
      | none => (s, { status := stDone })
    else run { id := id, failed := false, members := [], last := s.now }
  | some x =>
    if x.id = id then run x
    else
      match o.check c s with
      | some r => (o.onReject c r s, r.answer)
      | none => (s, { status := stBusy })

/-- A command outside a transaction, after step 3 (R62, R72, R73, R81, R783). -/
def runSingle (o : CmdSpec) (p : Nat) (k : Packet) (s : State) : State × Answer :=
  let c := ctxOf o p k
  match o.check c s with
  | some r => (o.onReject c r s, r.answer)
  | none =>
    if (o.change && (partner s p).txn.isSome) || (o.async && decide (16 ≤ s.kernel.asyncs.length)) then
      (s, { status := stBusy })
    else if bit k.flags.toNat 2 then (s, { status := stDone })
    else if o.async then
      let a : AsyncCmd := { partner := p, opcode := o.opcode, unit := c.unit, tag := c.tag,
                            seq := c.seq, params := c.ps, started := s.now }
      let (s', out) := o.apply c { s with kernel.asyncs := s.kernel.asyncs ++ [a] }
      (s', { status := stAccepted, params := out })
    else
      let (s', out) := o.apply c s
      (s', { status := stDone, params := out })

/-- A fetched packet: steps 1 to 10 (R57, R61-R63). -/
def runFetched (look : Nat → Option CmdSpec) (o : CmdSpec) (p : Nat) (k : Packet) (s : State) :
    State × Answer :=
  let x := partner s p
  if 4076 < k.plen.toNat then (s, { status := stBadLength })
  else if !crcGood o.opcode k then (s, { status := stCheckFail })
  else
    match headerCheck o k with
    | some r => (s, r.answer)
    | none =>
      if !x.seqAny && k.seq != x.seqNext then
        (s, { status := stBadSequence, params := le 4 x.seqNext.toNat })
      else
        let s := updPartner p (fun x => { x with seqAny := false, seqNext := k.seq + 1 }) s
        if bit k.flags.toNat 0 then runMember look o p k s else runSingle o p k s

/-- The reply to a packet (R55, R63). -/
def replyTo (o : CmdSpec) (k : Packet) (a : Answer) : Reply :=
  { version := k.version, flags := k.flags ||| 0x80, opcode := o.opcode, tag := k.tag, unit := k.unit,
    status := a.status, seq := k.seq, params := a.params
    plen := if 4076 < k.plen.toNat ∨ a.status = stCheckFail ∧ !crcGood o.opcode k then k.plen.toNat
      else a.params.length }

/-- The packet's slots are taken from partner `p`'s request ring (R58, R68). -/
def fetched (p : Nat) (k : Packet) (s : State) : State :=
  let s := updPartner p (fun x =>
    { x with reqHead := x.reqHead + BitVec.ofNat 16 (packetSlots k.plen.toNat) }) s
  { s with kernel.cmdArb := arbNext 8 p }

/-- The next command of partner `p`, fetched, executed and answered (R58, R62, R68); the reply to a `REMOTE_READ`
waits for its completion (R711). -/
def runCommandWith (look : Nat → Option CmdSpec) (o : CmdSpec) (p : Nat) (k : Packet) (s : State) : State :=
  let (s, a) := runFetched look o p k (fetched p k s)
  if o.opcode = 0x0911 then
    match s.pair.remote with
    | some r => { s with pair.remote := some { r with pkt := some k } }
    | none => writeReply p (replyTo o k a) s
  else writeReply p (replyTo o k a) { s with pair.remote := none }

end Sys2Proof.Machine
end

