-- ==== Sys2Proof/Machine/LinkRx.lean ====
section
/-!
DEFINITION. What a link does with a packet it receives (R696-R711): order and acknowledgement, frames,
remote writes and reads, relaying, completions, mirror records and heartbeats.
-/
namespace Sys2Proof.Machine

/-! ### Remote access (R706-R711) -/

/-- Answer a READ with a COMPLETION towards its sender (R697, R706, R710). -/
def lnkComplete (k : Nat) (pk : LinkPacket) (status : Nat) (data : Bytes) (s : State) : State :=
  let j := (routeOf s pk.src).getD k
  lnkSend j (mkPacket s 4 10 pk.src 31 0 (pk.arg % 2 ^ 16 + 2 ^ 16 * status) data) s

/-- The partner whose request-ring slots or doorbells a WRITE lies in: its number, and the BAR0 offset of the
doorbell (R708). -/
def writeTarget (s : State) (k a n : Nat) : Option (Option Nat) :=
  partnerIds.findSome? fun p =>
    let x := partner s p
    let ring := 0x0200040000 + 0x8000 * p
    let block := unitBase 0x0B00 + 0x1000 + 0x40 * p
    if x.transport ≠ 3 + k then none
    else if ring ≤ a ∧ a + n ≤ ring + 64 * x.slots then some none
    else if n = 4 ∧ [0, 8, 0x10, 0x14, 0x18].any (fun o => a == block + o) then some (some (a - unitBase 0x0B00))
    else none

/-- A WRITE that reaches its device (R708). -/
def serveWrite (k : Nat) (pk : LinkPacket) (s : State) : State :=
  let a := leAt pk.payload 0 8
  let d := pk.payload.drop 8
  match writeTarget s k a d.length with
  | some none => s
  | some (some o) => bar0Write o (w32 (leAt d 0 4)) s
  | none =>
    let s := setW1c (50 + k) 4 5 0 (bump (lnkCtr k 0x0140) s)
    raiseEvent (50 + k) 0x0112 (le 1 pk.src ++ le 1 pk.typ ++ zeros 2 ++ le 8 a) s

/-- A READ may reach an address (R709). -/
def remoteReadable (a n : Nat) : Bool :=
  decide (1 ≤ n) && decide (n ≤ 4096) &&
    ((isUnitReg a && isMapped a && isUnitReg (a + n - 1) && isMapped (a + n - 1)) ||
      (decide (0x0200000000 ≤ a) && decide (a + n ≤ 0x0200080000)) ||
      (decide (0x0200100000 ≤ a) && decide (a + n ≤ 0x0200180000)))

/-- A READ that reaches its device (R709); the reading device is told apart from partners. -/
def serveRead (k : Nat) (pk : LinkPacket) (s : State) : State :=
  let a := leAt pk.payload 0 8
  let n := leAt pk.payload 8 4
  if remoteReadable a n then
    let (d, s) := mapRead (16 + pk.src) a n none s
    lnkComplete k pk 0 d s
  else lnkComplete k pk 4 [] (bump (lnkCtr k 0x0140) s)

/-- The `REMOTE_READ` in progress is answered (R711). -/
def remoteFinish (r : Remote) (a : Answer) (s : State) : State :=
  let s := { s with pair.remote := none }
  match r.pkt with
  | some pkt => inbandReplies r.partner (writeReply r.partner (replyTo remoteReadSpec pkt a) s)
  | none => s

/-- A COMPLETION that reaches its device (R711). -/
def serveCompletion (pk : LinkPacket) (s : State) : State :=
  match s.pair.remote with
  | none => s
  | some r =>
    let status := pk.arg / 2 ^ 16 % 256
    if pk.arg % 2 ^ 16 ≠ r.tag then s
    else if status = 0 then remoteFinish r { status := stDone, params := padTo (leAt r.params 12 4) pk.payload } s
    else if status = 1 then
      if r.started + ms 1 ≤ s.now then remoteFinish r { status := stBusy } s
      else remoteIssue { r with retried := true } s
    else remoteFinish r { status := stDenied } s

/-- No completion has come within 1 ms (R711). -/
def remoteTimeout (s : State) : State := match s.pair.remote with
  | none => s
  | some r =>
    if s.now < r.started + ms 1 then s
    else remoteFinish r { status := if r.retried then stBusy else stPeerAbsent } s

/-! ### Relaying (R706, R710) -/

/-- READs held at a link go on as far as its credit allows. -/
def relayPump (j : Nat) (s : State) : State :=
  let x := linkOf s j
  x.relays.foldl (fun s e =>
    if lnkMaySend s j e.1 then
      let y := linkOf s j
      lnkTransmit j e.1 (setLink j { y with relays := y.relays.erase e } s)
    else s) s

/-- A packet for another device is relayed or dropped (R706, R710). -/
def lnkRelay (k : Nat) (pk : LinkPacket) (s : State) : State :=
  let drop (s : State) : State :=
    let s := bump (lnkCtr k 0x0138) s
    if pk.typ = 3 then lnkComplete k pk 3 [] s else s
  match routeOf s pk.dst with
  | none => drop s
  | some j =>
    if j = k ∨ pk.hops = 0 then drop s
    else
      let p := { pk with hops := pk.hops - 1 }
      let s := bump (lnkCtr k 0x0130) s
      if pk.typ = 3 then
        let x := linkOf s j
        if operUp s (50 + j) && x.relays.isEmpty && lnkMaySend s j p then lnkTransmit j p s
        else setLink j { x with relays := x.relays ++ [(p, s.now)] } s
      else lnkSend j p s

/-- READs that have waited 10 µs for onward credit are answered RETRY (R710). -/
def relayTimeout (j : Nat) (s : State) : State :=
  let x := linkOf s j
  let due := x.relays.filter fun e => decide (e.2 + us 10 ≤ s.now)
  let s := setLink j { x with relays := x.relays.filter fun e => !decide (e.2 + us 10 ≤ s.now) } s
  due.foldl (fun s e => lnkComplete (1 - j) e.1 1 [] (bump (lnkCtr (1 - j) 0x0148) s)) s

/-! ### Reception (R697, R698, R700, R704) -/

/-- A routed packet is served or relayed (R706). -/
def lnkRouted (k : Nat) (pk : LinkPacket) (recs : List MirrorRec) (s : State) : State :=
  if pk.dst ≠ s.pair.devId then lnkRelay k pk s
  else
    match pk.typ with
    | 2 => serveWrite k pk s
    | 3 => serveRead k pk s
    | 4 => serveCompletion pk s
    | _ => takeRecords (leAt pk.payload 0 4) recs s

/-- The frame of a FRAME packet (R704): a CAN or LIN record where `bus` gives it. -/
def lnkFrame (s : State) (k : Nat) (pk : LinkPacket) (bus : Option CanFrame) (cap : Tick) : Frame :=
  let stamp := lnkIngress s cap
  let f := Frame.arrived bus (if bus.isSome then [] else pk.payload) (50 + k) stamp
  { f with resStamp := if bit pk.pflags 0 then some (stamp - nsTick (pk.arg + (linkOf s k).delay)) else none }

/-- Credits returned by the peer (R697). -/
def lnkCredits (k : Nat) (b : Bytes) (s : State) : State :=
  let x := linkOf s k
  setLink k { x with credits := (List.range 12).foldl (fun m v => tset m v (tget x.credits 0 v + leAt b (2 * v) 2)) x.credits } s

/-- A packet accepted in order: what its type asks for. -/
def lnkServe (k : Nat) (pk : LinkPacket) (recs : List MirrorRec) (cap : Tick) (s : State) : State :=
  match pk.typ with
  | 6 => heartbeatRx k pk (lnkIngress s cap) s
  | 7 => relayPump k (lnkCredits k pk.payload s)
  | _ => if within pk.typ 2 5 then lnkRouted k pk recs s else s

/-- Count a packet accepted, and take note of LSEQ, LACK, NAK and the credit it used (R696-R700). -/
def lnkAccept (k : Nat) (pk : LinkPacket) (s : State) : State :=
  let s := bump (lnkCtr k 0x0108) s
  let x := linkOf s k
  let s := if pktReplayable pk then
      setLink k { x with rxSeq := pk.lseq, granted := tset x.granted pk.vc (tget x.granted 0 pk.vc - pktCost pk) } s
    else s
  let s := lnkAck k pk.lack s
  if pk.typ = 7 ∧ bit pk.pflags 1 then lnkReplay k s else s

/-- A packet arrives on link `k`, its timestamp point at device clock `cap` (R700). -/
def lnkReceive (k : Nat) (pk : LinkPacket) (bus : Option CanFrame) (recs : List MirrorRec) (cap : Tick) (s : State) :
    State :=
  if decide (1 < k) || !operUp s (50 + k) then s
  else if !pk.good || (pktReplayable pk && pk.lseq != ((linkOf s k).rxSeq + 1) % 65536) then
    lnkGrant k true (bump (lnkCtr k 0x0110) s)
  else if pk.typ = 1 then
    let (_, a) := ingress (lnkFrame s k pk bus cap) (50 + k) false (lnkAccept k pk s)
    if a.wait then s else lnkPump k (lnkGrant k false a.st)
  else lnkPump k (mirrorPump (lnkGrant k false (lnkServe k pk recs cap (lnkAccept k pk s))))

end Sys2Proof.Machine
end

