-- ==== Sys2Proof/Machine/HostCmds.lean ====
section
/-!
DEFINITION. The commands of rings, DMMU contexts, windows and host ports (R170-R173).
-/
namespace Sys2Proof.Machine

/-! ### Rings -/

/-- A ring owned by the issuer. -/
def ownRing (c : Ctx) (s : State) : Check := match ringOf s (c.u8 0) with
  | some r => need (r.owner == c.p) stDenied
  | none => range false 0

/-- A context owned by the issuer (R171). -/
def ownCtx (c : Ctx) (ctx : Nat) (s : State) : Check := need (ctxOwner s ctx == some c.p) stDenied

/-- `RING_CONFIG` (R122, R171). -/
def ringConfigSpec : CmdSpec :=
  { opcode := 0x0B41, change := true, units := fun u => u == 0x0B00, len := lenIs 28
    values := fun c _ => firstOf
      [ c.upto 0 1 127, c.upto 1 1 1, c.upto 2 1 7, c.btw 3 1 3 16, c.upto 4 1 63, c.zero 5 1,
        range (if c.u8 1 = 1 then within (c.u16 6) 256 16384 && c.u16 6 % 256 == 0 else c.u16 6 == 0) 6,
        range (c.u64 8 % 4096 == 0) 8, range (c.u64 16 % 64 == 0) 16, c.zero 26 2 ]
    conds := fun c s => firstOf
      [ match ringOf s (c.u8 0) with
        | some r => need (r.owner == c.p) stDenied
        | none => none,
        ownCtx c (c.u8 4) s,
        match ringOf s (c.u8 0) with
        | some r => need (r.st == 0) stBusy
        | none => none ]
    apply := quiet fun c s =>
      let r : Ring :=
        { owner := c.p, raw := c.ps, st := 0, tail := 0, head := 0, done := 0, cause := 0, faultDesc := 0
          frameDesc := 0, offset := 0, drops := 0, frames := 0, fetch := none, writing := none, firstUnsig := none
          stamps := [], stopping := false }
      setRing (c.u8 0) r s }

/-- `RING_ENABLE` (R172). -/
def ringEnableSpec : CmdSpec :=
  { opcode := 0x0B42, change := true, units := fun u => u == 0x0B00, len := lenIs 4
    values := fun c _ => firstOf [c.upto 0 1 127, c.upto 1 1 1, c.zero 2 2]
    conds := ownRing
    apply := quiet fun c s => match ringOf s (c.u8 0) with
      | none => s
      | some r =>
        if c.u8 1 = 0 then ringDisable (c.u8 0) r s
        else if r.st = 0 then setRing (c.u8 0) { r with st := 1 } s
        else setRing (c.u8 0) { r with stopping := false } s }

/-- `RING_RESTART` (R146, R147, R171). -/
def ringRestartSpec : CmdSpec :=
  { opcode := 0x0B43, change := true, units := fun u => u == 0x0B00, len := lenIs 4
    values := fun c _ => firstOf [c.upto 0 1 127, c.upto 1 1 1, c.zero 2 2]
    conds := fun c s => firstOf
      [ ownRing c s,
        match ringOf s (c.u8 0) with
        | some r => firstOf
          [ range (r.st == 2) 0,
            need (!(c.u8 1 == 0 && r.cause == 8 && (partner s r.owner).transport == 1 && !s.host.linkUp)) stBusy ]
        | none => none ]
    apply := quiet fun c s => match ringOf s (c.u8 0) with
      | none => s
      | some r => if c.u8 1 = 0 then ringResume (c.u8 0) r s else ringSkip (c.u8 0) r s }

/-- `RING_FREE` (R122, R171). -/
def ringFreeSpec : CmdSpec :=
  { opcode := 0x0B44, change := true, units := fun u => u == 0x0B00, len := lenIs 4
    values := fun c _ => firstOf [c.upto 0 1 127, c.zero 1 3]
    conds := fun c s => firstOf
      [ ownRing c s,
        match ringOf s (c.u8 0) with
        | some r => need (r.st == 0) stBusy
        | none => none ]
    apply := quiet fun c s => { s with host.rings := tdel s.host.rings (c.u8 0) } }

/-- `RING_QUERY` (R170): any partner may ask. -/
def ringQuerySpec : CmdSpec :=
  { opcode := 0x0B45, change := false, units := fun u => u == 0x0B00, len := lenIs 4
    values := fun c _ => firstOf [c.upto 0 1 127, c.zero 1 3]
    apply := answer fun c s =>
      (match ringOf s (c.u8 0) with
        | some r => r.raw
        | none => le 1 (c.u8 0) ++ zeros 27) ++
        [0, 4, 8, 12, 16, 20, 24, 28].flatMap fun o => le 4 (ringWord s (c.u8 0) o) }

/-! ### DMMU contexts (R138-R142) -/

/-- A ring or a window uses a context. -/
def ctxUsed (s : State) (x : Nat) : Bool :=
  (s.host.rings.any fun e => e.2.ctx == x) || s.host.windows.any fun e => e.2.ctx == x

/-- The translations of all contexts. -/
def pageCount (s : State) : Nat := (s.host.ctxs.map fun e => e.2.pages.length).sum

/-- `DMMU_CTX_SET` (R139, R171). -/
def dmmuCtxSetSpec : CmdSpec :=
  { opcode := 0x0B48, change := true, units := fun u => u == 0x0B00, len := lenIs 4
    values := fun c _ => firstOf [c.btw 0 1 16 63, c.upto 1 1 1, c.zero 2 2]
    conds := fun c s => firstOf
      [ need (ctxOwner s (c.u8 0) == some c.p || ctxOwner s (c.u8 0) == none) stDenied,
        need (c.u8 1 == 1 || !ctxUsed s (c.u8 0)) stBusy,
        need (c.u8 1 == 0 || decide (pageCount s < Config.pageRoom)) stNoRoom ]
    apply := quiet fun c s =>
      if c.u8 1 = 0 then { s with host.ctxs := tdel s.host.ctxs (c.u8 0) }
      else
        let x : Context := { ctxOfNum s (c.u8 0) with owner := some c.p, enabled := true }
        { s with host.ctxs := tset s.host.ctxs (c.u8 0) x } }

/-- The bytes of a page of PAGE. -/
def pageBytes (page : Nat) : Nat := if page = 1 then 2 ^ 21 else 2 ^ 12

/-- The pages a `DMMU_MAP` adds, by virtual address. -/
def mapPages (c : Ctx) : List (Nat × Page) :=
  (List.range (c.u32 20)).map fun i =>
    (c.u64 4 + i * pageBytes (c.u8 1),
      { big := c.u8 1 == 1, perm := c.u8 2, host := c.u8 3 == 1, pa := c.u64 12 + i * pageBytes (c.u8 1), pinned := false })

/-- A range of virtual addresses meets a present mapping. -/
def mapsOverlap (x : Context) (va n : Nat) : Bool :=
  x.pages.any fun e => decide (e.1 < va + n) && decide (va < e.1 + e.2.size)

/-- `DMMU_MAP` (R37, R138, R142, R171). -/
def dmmuMapSpec : CmdSpec :=
  { opcode := 0x0B49, change := true, units := fun u => u == 0x0B00, len := lenIs 24
    values := fun c _ => firstOf [c.upto 0 1 63, c.upto 1 1 1, c.upto 2 1 3, c.upto 3 1 1, c.btw 20 4 1 512]
    conds := fun c s =>
      let n := c.u32 20 * pageBytes (c.u8 1)
      firstOf
        [ range (c.u64 4 % pageBytes (c.u8 1) == 0 && decide (c.u64 4 + n ≤ 2 ^ 39)) 4,
          range (c.u64 12 % pageBytes (c.u8 1) == 0 && (c.u8 3 == 1 || decide (c.u64 12 + n ≤ 2 ^ 40))) 12,
          ownCtx c (c.u8 0) s,
          range (c.u8 3 == 1 || !(decide (c.u64 12 < lpddrBase + 2 ^ 28) && decide (lpddrBase < c.u64 12 + n))) 12,
          range (!mapsOverlap (ctxOfNum s (c.u8 0)) (c.u64 4) n) 4,
          need (decide (pageCount s + c.u32 20 ≤ Config.pageRoom)) stNoRoom ]
    apply := quiet fun c s =>
      let x := ctxOfNum s (c.u8 0)
      let y : Context := { x with pages := (mapPages c).foldl (fun m e => tset m e.1 e.2) x.pages }
      { s with host.ctxs := tset s.host.ctxs (c.u8 0) y } }

/-- `DMMU_UNMAP` (R142): every translation that begins in the range goes. -/
def dmmuUnmapSpec : CmdSpec :=
  { opcode := 0x0B4A, change := true, units := fun u => u == 0x0B00, len := lenIs 20
    values := fun c _ => firstOf
      [ c.upto 0 1 63, c.upto 1 1 1, c.zero 2 2, c.btw 12 4 1 512, c.zero 16 4 ]
    conds := fun c s => firstOf [range (c.u64 4 % pageBytes (c.u8 1) == 0) 4, ownCtx c (c.u8 0) s]
    apply := quiet fun c s =>
      let x := ctxOfNum s (c.u8 0)
      let hi := c.u64 4 + c.u32 12 * pageBytes (c.u8 1)
      let y : Context := { x with pages := (x.pages.filter fun e => !(decide (c.u64 4 ≤ e.1) && decide (e.1 < hi))) }
      { s with host.ctxs := tset s.host.ctxs (c.u8 0) y } }

/-- `DMMU_QUERY` (R170). -/
def dmmuQuerySpec : CmdSpec :=
  { opcode := 0x0B4B, change := false, units := fun u => u == 0x0B00, len := lenIs 12
    values := fun c _ => firstOf [c.upto 0 1 63, c.zero 1 3]
    conds := fun c s => firstOf
      [ownCtx c (c.u8 0) s, range (pageAt (ctxOfNum s (c.u8 0)) (c.u64 4)).isSome 4]
    apply := answer fun c s => match pageAt (ctxOfNum s (c.u8 0)) (c.u64 4) with
      | some (va, g) =>
        le 1 (c.u8 0) ++ le 1 (b2n g.big) ++ le 1 g.perm ++ le 1 (b2n g.host) ++ le 8 va ++ le 8 g.pa ++ le 4 1
      | none => [] }

/-! ### Windows (R159, R171) -/

/-- Another window of the same region overlaps a range. -/
def windowClash (s : State) (tr i o n : Nat) : Bool :=
  s.host.windows.any fun e => e.1 != i && (partner s e.2.owner).transport == tr && decide (e.2.offset < o + n) &&
    decide (o < e.2.offset + e.2.size)

/-- `WINDOW_SET`; a window that is disabled counts no other field (DEDUCED). -/
def windowSetSpec : CmdSpec :=
  { opcode := 0x0B50, change := true, units := fun u => u == 0x0B00, len := lenIs 24
    values := fun c _ =>
      let on := c.u8 1 == 1
      firstOf
        [ c.upto 0 1 31, c.upto 1 1 1, range (!on || within (c.u8 2) 12 27) 2, range (!on || decide (c.u8 3 ≤ 2)) 3,
          range (!on || decide (c.u8 4 ≤ 1)) 4, range (!on || decide (c.u8 5 ≤ 63)) 5, c.zero 6 2,
          c.zero 12 4 ]
    conds := fun c s =>
      let tr := (partner s c.p).transport
      let on := c.u8 1 == 1
      let n := 2 ^ c.u8 2
      firstOf
        [ range (!on || (c.u32 8 % n == 0 && decide (c.u32 8 + n ≤ windowRegionEnd))) 8,
          range (!on || (c.u64 16 % n == 0 && decide (c.u64 16 + n ≤ 2 ^ 39))) 16,
          need (tr == 1 || tr == 2) stDenied,
          match tget? s.host.windows (c.u8 0) with
          | some w => need (w.owner == c.p) stDenied
          | none => none,
          if c.u8 1 = 1 then ownCtx c (c.u8 5) s else none,
          range (c.u8 1 == 0 || !windowClash s tr (c.u8 0) (c.u32 8) (2 ^ c.u8 2)) 8,
          need (!(s.host.writes.any fun x => x.window == c.u8 0 && !x.posted)) stBusy ]
    apply := quiet fun c s =>
      let s := partnerIds.foldl (fun s p => writeEndsPrefetch p (c.u8 0) s) s
      if c.u8 1 = 0 then { s with host.windows := tdel s.host.windows (c.u8 0) }
      else { s with host.windows := tset s.host.windows (c.u8 0) { owner := c.p, raw := c.ps } } }

/-- `WINDOW_QUERY`. -/
def windowQuerySpec : CmdSpec :=
  { opcode := 0x0B51, change := false, units := fun u => u == 0x0B00, len := lenIs 4
    values := fun c _ => firstOf [c.upto 0 1 31, c.zero 1 3]
    apply := answer fun c s => match tget? s.host.windows (c.u8 0) with
      | some w => w.raw
      | none => le 1 (c.u8 0) ++ zeros 23 }

/-! ### Host ports (R173) -/

/-- `HOSTPORT_QUERY`. -/
def hostportQuerySpec : CmdSpec :=
  { opcode := 0x00E1, change := false, units := fun u => u == gHostp || u == gHosts, len := lenIs 0
    apply := answer fun c s =>
      let h := s.host
      if c.unit = gHostp then
        le 1 (b2n h.linkUp) ++ le 1 h.width ++ le 1 h.speed ++ zeros 1 ++ le 4 h.urCount ++ le 4 h.caCount ++
          le 4 h.timeouts
      else le 1 h.lat ++ zeros 3 ++ le 4 h.spiCount ++ le 4 h.retries ++ le 4 h.pendings }

/-- `HOSTS_CONFIG` (R158). -/
def hostsConfigSpec : CmdSpec :=
  { opcode := 0x00E2, change := true, units := fun u => u == gHosts, len := lenIs 4
    values := fun c _ => firstOf [c.btw 0 1 8 64, c.zero 1 3]
    apply := quiet fun c s => { s with host.latNext := some (c.u8 0) } }

end Sys2Proof.Machine
end

