-- ==== Sys2Proof/Machine/Specs.lean ====
section
/-!
DEFINITION. The opcodes of Sprinaz (R62, R784): every command's specification record, found by its OPCODE.
-/
namespace Sys2Proof.Machine

/-- The opcodes of unit class 0: bus ports, links as ports and host ports. -/
def portSpecs : List CmdSpec :=
  [hostportQuerySpec, hostsConfigSpec, portAdminSpec, portQuerySpec, portCountersSpec, portTsCorrSpec] ++
  [trxModeSetSpec, wakeDetectSetSpec, canConfigSpec, canBittimeSpec, canRestrictSpec, canRecoverSpec] ++
  [linConfigSpec, linScheduleSetSpec, linScheduleSelectSpec, ethConfigSpec, ethFlowctlSpec, t1sPlcaSpec] ++
  [mdioAccessSpec, lnkConfigSpec, lnkQuerySpec, lnkCountersSpec]

/-- The opcodes of unit class 1: switch fabric. -/
def switchSpecs : List CmdSpec :=
  [bufAccountSetSpec, bufFcSetSpec, bufQuerySpec, queueSetSpec, spillConfigSpec, spillQueueSpec] ++
  [cutThroughSetSpec, preemptClassesSpec, gateListSetSpec, gateEnableSpec, gateQuerySpec, replSetSpec] ++
  [replQuerySpec, frerSeqgenSetSpec, frerRecoverySetSpec, frerQuerySpec, frerResetSpec, swCountersSpec]

/-- The opcodes of unit class 2: tables. -/
def tablesSpecs : List CmdSpec :=
  [tableCommitSpec, tableDiscardSpec, tableGenQuerySpec, tableRehashSpec, sieveRuleSetSpec, sieveRuleQuerySpec] ++
  [sievePortSetSpec, flowSetSpec, flowQuerySpec, fdbAddSpec, fdbDeleteSpec, fdbSearchSpec] ++
  [fdbNextSpec, fdbFlushSpec, fdbAgeSetSpec, fdbUnlockSpec, canRouteAddSpec, canRouteDeleteSpec] ++
  [canRouteSearchSpec, canRouteNextSpec, canMaskSetSpec, lpmAddSpec, lpmDeleteSpec, lpmSearchSpec] ++
  [lpmNextSpec, maquetteSetSpec, tblCountersSpec]

/-- The opcodes of unit class 3: signal gateway. -/
def gatewaySpecs : List CmdSpec :=
  [pduDefineSpec, pduRemoveSpec, pduQuerySpec, mapAddSpec, mapRemoveSpec, mapQuerySpec] ++
  [contDefineSpec, contRemoveSpec, contQuerySpec, contFlushSpec, e2eProfileSetSpec, e2eComputeSpec] ++
  [tpChannelSetSpec, tpChannelRemoveSpec, tpSessionQuerySpec, tpAbortSpec, j1939BindSpec, j1939UnbindSpec] ++
  [j1939ClaimsSpec, j1939RewriteSetSpec, j1939OwnAddressSpec, gwCountersSpec]

/-- The opcodes of unit class 4: policing and cadence. -/
def policingSpecs : List CmdSpec :=
  [policerSetSpec, policerQuerySpec, policerResetSpec, sfSetSpec, sgateListSetSpec, sfQuerySpec] ++
  [sfResetSpec, cadenceProfileSetSpec, cadenceSetSpec, cadenceQuerySpec, cadenceRelearnSpec, sourceSetSpec] ++
  [containBudgetSetSpec, containReleaseSpec, containQuerySpec, polCountersSpec, flowCountersSpec]

/-- The opcodes of unit class 5: time. -/
def timeSpecs : List CmdSpec :=
  [timeQuerySpec, timeDomainSetSpec, timeRefSelectSpec, timeRtcSetSpec, legalSourceSetSpec, legalTimeProposeSpec] ++
  [legalTimeForceSpec, tcapSetSpec, tcapQuerySpec, tcmpSetSpec, motionInputSetSpec, motionSourceSetSpec] ++
  [motionPairSetSpec, motionQuerySpec, timeCountersSpec]

/-- The opcodes of unit class 6: Herax and ciphering. -/
def keysSpecs : List CmdSpec :=
  [lcQuerySpec, lcAdvanceSpec, lcChallengeSpec, tamperConfigSpec, kekLoadClearSpec, kekRotateSpec] ++
  [keyStageSpec, keyDeriveSpec, keyCommitSpec, keyDiscardSpec, keyRevokeSpec, keyEraseSpec] ++
  [keyQuerySpec, attestSpec, identityQuerySpec, sealReadSpec, sealAckSpec, sealCheckpointSpec] ++
  [sealConfigSpec, sealNoteSpec, heraxCountersSpec, protProfileSetSpec, protProfileQuerySpec, macsecSecySetSpec] ++
  [macsecRxscSetSpec, macsecSaSetSpec, macsecTxSwitchSpec, macsecQuerySpec, secpduFvSetSpec, cipherJobSpec] ++
  [cipherJobResumeSpec, cipherJobCancelSpec, inbandBindSpec, cipherCountersSpec]

/-- The opcodes of unit class 7: power and start-up. -/
def powerSpecs : List CmdSpec :=
  [modeRequestSpec, modeQuerySpec, breezeConfigSpec, powerBankSetSpec, fbSegmentSetSpec, comparatorSetSpec] ++
  [deviceResetSpec, imageEraseSpec, imageWriteSpec, imageVerifySpec, fwActivateSpec, cfgActivateSpec] ++
  [imageConfirmSpec, imageQuerySpec, cfgAuthoritySetSpec, pwrCountersSpec]

/-- The opcodes of unit class 8: network sleep. -/
def sleepSpecs : List CmdSpec :=
  [sleepRingSetSpec, pnSetSpec, sleepHoldSpec, wakePortSetSpec, wakeFrameSetSpec, wakeNetworkSpec] ++
  [sleepQuerySpec, consentRingQuerySpec, sleepCountersSpec]

/-- The opcodes of unit class 9: cascading and pairing. -/
def pairSpecs : List CmdSpec :=
  [cascadeSetSpec, pairConfigSpec, pairQuerySpec, pairSwitchSpec, pairHoldSpec, pairCountersSpec] ++
  [remoteReadSpec, remoteWriteSpec]

/-- The opcodes of unit class 10: functional safety. -/
def safetySpecs : List CmdSpec :=
  [safetyQuerySpec, leeConfigSpec, leeEnterSpec, leeExitSpec, ledgerReadSpec, ledgerClearSpec] ++
  [safetyCountersSpec]

/-- The opcodes of unit class 11: Sprinaz service and host attachment. -/
def kernelSpecs : List CmdSpec :=
  [echoSpec, versionQuerySpec, partnerSetSpec, partnerQuerySpec, eventSubscribeSpec, evqConfigSpec] ++
  [txnAbortSpec, evqResetSpec, ringConfigSpec, ringEnableSpec, ringRestartSpec, ringFreeSpec] ++
  [ringQuerySpec, dmmuCtxSetSpec, dmmuMapSpec, dmmuUnmapSpec, dmmuQuerySpec, windowSetSpec] ++
  [windowQuerySpec]

/-- Every opcode. -/
def allSpecs : List CmdSpec :=
  portSpecs ++ switchSpecs ++ tablesSpecs ++ gatewaySpecs ++ policingSpecs ++ timeSpecs ++ keysSpecs ++ powerSpecs ++ sleepSpecs ++ pairSpecs ++ safetySpecs ++ kernelSpecs

/-- The specification of an opcode (R84). -/
def specOf (n : Nat) : Option CmdSpec := allSpecs.find? fun o => o.opcode == n

end Sys2Proof.Machine
end

