-- ==== Sys2Proof/Machine/StartUp.lean ====
section
/-!
DEFINITION. Start-up and the resume from Zephyr (R627-R640): time, Herax, the choice of images, tables and
settings, the START record and what waits for it.
-/
namespace Sys2Proof.Machine

/-! ### Time (R485, R488, R508, R509) -/

/-- IT leaves reset, or resumes, at device clock `rst`; the Plinth has counted `n` SLOWCLK periods since it took
over legal time, and IT where it took that over. -/
def timeResumes (rst n : Nat) (s : State) : State :=
  let p := s.power
  let base := if p.asleep then s.it + n * slowFine else 0
  let floor := monoValue s mcFloor
  let kept := s.time.legal + n * (msFine * 125 / 4096)
  let doms := tmap s.time.domains fun _ x =>
    if x.state = .disabled then x else { x with state := .acquiring, good := 0, grandmaster := false }
  let time : TimeUnit := { s.time with
    legal := if p.kept then kept else floor * msFine
    legalAnchor := base
    valid := p.kept, uncertain := s.time.uncertain || !p.kept
    dayUsed := monoValue s mcDay, day := legalDay floor, domains := doms }
  let it := base + (s.clk - rst) * itStep s
  { s with it := it, time := { time with motionEnd := it / 2 ^ 33 / ms 100 * ms 100 } }

/-! ### Herax (R535, R539, R549, R557, R561, R595) -/

/-- A persistent slot as it is reloaded: the count resumes 2²⁰ above the stored one, capped at LIMIT. -/
def reloadSlot (s : State) (i : Nat) (x : KeySlot) : KeySlot :=
  let n := tget s.power.mono 0 (mcUses i) + 2 ^ 20
  let full := decide (x.limit ≠ 0) && decide (x.limit ≤ n)
  { x with
    uses := if full then x.limit else n
    state := if full && x.state == .active then .exhausted else x.state
    committed := none }

/-- Herax reloads the persistent slots into the secure bank. -/
def heraxReload (s : State) : State :=
  let bank := tmap s.herax.store fun i x => reloadSlot s i x
  { s with herax.bank := bank, herax.store := bank }

/-- Step t5 of R630. -/
def heraxStart (s : State) : State :=
  let s := match s.herax.lcIntent with
    | some (target, p, ch, _) => lcAdvance target p ch s
    | none => s
  let s := if s.herax.eraseAtStart then { eraseStore s with herax.eraseAtStart := false } else s
  let s := heraxReload (settleJournal s)
  { s with herax.sinceCp := s.herax.head - monoValue s mcSeal }

/-- TX_FV and LATEST of the PERSIST profiles resume (R595). -/
def freshResumes (s : State) : State :=
  (currentObjs s).foldl (fun s e =>
    if okind e.1 = Kind.prot.code ∧ byteAt e.2 2 = 1 ∧ bit (byteAt e.2 3) 0 then
      let i := oindex e.1
      let v := (tget s.power.mono 0 (mcTxFv i) + 2 ^ 16, tget s.power.mono 0 (mcLatest i))
      { s with cipher.fresh := tset s.cipher.fresh i v }
    else s) s

/-! ### The Fault Ledger (R632, R745) -/

/-- The ledger is restored from the journal, and a latched LBIST failure is written. -/
def ledgerStart (s : State) : State :=
  let es := s.kernel.ledger.journal.map fun e => { e with restored := true, persisted := true }
  let s := { s with kernel.ledger.entries := es }
  match s.power.lbistFail with
  | some n => ledgerAdd 0x0004 0x0A00 n 1 false (le 1 n) { s with power.lbistFail := none }
  | none => s

/-! ### The choice of images (R636-R638) -/

/-- The slots of the image of kind `b / 2`. -/
def slotPair (b : Nat) : List Nat := [b, b + 1]

/-- A slot is chosen, where it passes R636. -/
def choosePassing (un : List Nat) (i : Nat) (s : State) : Option Nat × State :=
  let bad := un.contains i || (namesExtension s i && un.contains (i + 2))
  match imageCheck s i bad with
  | none => (some i, s)
  | some r => (none, imageInvalid i r s)

/-- The other slot of a kind is chosen after a failure, with FALLBACK. -/
def chooseOther (un : List Nat) (i : Nat) (s : State) : Option Nat × State :=
  let o := i ^^^ 1
  if [4, 5, 2].contains (imageSlot s o).state then
    choosePassing un o (setImage o 4 0 (imageSlot s o).booted (setW1c 0x0700 0x0050 4 o s))
  else (none, s)

/-- A chosen slot, or the other where it fails. -/
def chooseOrOther (un : List Nat) (i : Nat) (s : State) : Option Nat × State :=
  match choosePassing un i s with
  | (some j, s) => (some j, s)
  | (none, s) => chooseOther un i s

/-- Rule 4 of R638 for WRITTEN slots: the first that passes becomes VERIFIED, is chosen and becomes ACTIVE. -/
def chooseWritten (un : List Nat) : List Nat → State → Option Nat × State
  | [], s => (none, s)
  | i :: is, s =>
    if (imageSlot s i).state ≠ 1 then chooseWritten un is s
    else
      match choosePassing un i s with
      | (some j, s) => (some j, setImage j 4 0 false (setImage j 2 0 false s))
      | (none, s) => chooseWritten un is s

/-- Rules 3 and 4 of R638. -/
def chooseActive (b : Nat) (un : List Nat) (s : State) : Option Nat × State :=
  match (slotPair b).find? fun i => (imageSlot s i).state == 4 with
  | some i => chooseOrOther un i s
  | none =>
    match (slotPair b).find? fun i => (imageSlot s i).state == 2 with
    | some i => chooseOrOther un i (setImage i 4 0 false s)
    | none => chooseWritten un (slotPair b) s

/-- The slot of a kind that starts (R638); `un`: the slots with an uncorrectable read error. -/
def chooseSlot (b : Nat) (un : List Nat) (s : State) : Option Nat × State :=
  match (slotPair b).find? fun i => (imageSlot s i).state == 3 with
  | some i =>
    if !(imageSlot s i).booted then chooseOrOther un i (setImage i 3 0 true s)
    else
      let s := imageInvalid i 5 s
      let o := i ^^^ 1
      chooseActive b un (if (imageSlot s o).state = 5 then setImage o 4 0 (imageSlot s o).booted s else s)
  | none => chooseActive b un s

/-! ### Partners, tables and settings (R50, R384, R639, R640) -/

/-- Partner 0 attached on a transport with a permission mask and 256 slots. -/
def attachDefault (transport : Nat) (perm : Word) (s : State) : State :=
  setPartner 0 { Partner.detached with transport := transport, perm := perm, ringLog := 2 } s

/-- A device setting of the configuration image: a command without a reply. -/
def applySetting (s : State) (e : Nat × Nat × Bytes) : State :=
  match specOf e.1 with
  | none => s
  | some o =>
    let c : Ctx := { p := 255, unit := e.2.1, opcode := e.1, tag := 0, seq := 0, ps := e.2.2 }
    let ok := o.change && !o.async && unitExists c.unit && unitClass o.opcode == unitClass c.unit &&
      o.units c.unit && o.len c.ps && (o.values c s).isNone && (e.1 == 0x0B03 || (o.conds c s).isNone)
    if ok then (o.apply c s).1 else s

/-- The configuration of a slot, or that of R640: generation 1, settings and partners. -/
def loadConfig (i : Option Nat) (s : State) : State :=
  match i with
  | none => attachDefault 1 0x3FFF0FFF (loadGeneration 1 [] s)
  | some i =>
    let s := { s with power.cfgSlot := i - 2, power.mCfg := imageMeasure s i }
    let s := freshResumes (loadGeneration 1 (cfgContent s i) s)
    let s := (Config.imageSettings (cfgPayload s i)).foldl applySetting s
    if partnerIds.any fun p => (partner s p).attached then s else attachDefault 1 0x3FFF0FFF s

/-! ### The end of a start-up (R629-R631) -/

/-- The START record (R564). -/
def startRecord (s : State) : State :=
  let p := s.power
  sealWrite 0x0001
    (le 4 s.herax.bootCount ++ le 1 p.resetCause ++ le 1 s.herax.lc ++ le 1 (if p.recovery then 0xFF else p.fwSlot) ++
      le 1 (if p.recovery then 0xFF else p.cfgSlot) ++ le 2 p.fwSvn ++ le 1 s.herax.tamperWaiting) s

/-- The START record, and what Calm or Zephyr left waiting: tampers and comparator events. -/
def startEnds (s : State) : State :=
  let s := startRecord s
  let s := if s.herax.tamperWaiting = 0 then s
    else tamperAct s.herax.tamperWaiting { s with herax.tamperWaiting := 0 }
  let s := (s.power.comparators.filter fun e => e.2.waiting).foldl (fun s e =>
    comparatorEvent e.1 e.2 (setComparator e.1 { e.2 with waiting := false } s)) s
  { s with kernel.summaryValid := true, power.kept := true, power.asleep := false, safety.kicked := s.now
           ports.latched := false, safety.rotStart := s.now }

/-- The cause of this start-up is reported, and none is latched any more (R629). -/
def takeCause (s : State) : State :=
  { s with power.resetCause := s.power.nextCause, power.nextCause := 0, mainUp := true, mode := .gale
           herax.bootCount := s.herax.bootCount + 1, tables.epochStart := some s.now, tables.maqStart := s.now }

/-- The recovery service (R639); `pcie`: the PCIe link was up within 200 ms. -/
def enterRecovery (pcie : Bool) (s : State) : State :=
  let s := attachDefault (if pcie then 1 else 2) 0x18C008C0 (loadGeneration 1 [] s)
  startEnds { s with mode := .atelier, power.recovery := true, power.fwSlot := 0xFF, power.cfgSlot := 0xFF }

/-- LPDDR5 after training; R744 gives the entry of a failure no CODE, which is a free value (R37). -/
def lpddrStart (trained : Bool) (s : State) : State :=
  let s := { s with power.trained := trained, lpddrUp := trained }
  if trained then s
  else
    let (code, s) := takeFree 16 s
    ledgerAdd code.toNat 0x0700 0 1 false [] s

/-- The wakes that a sleep left waiting are raised with their own stamps (R685). -/
def raiseWakes (s : State) : State :=
  s.sleep.wakeEvents.foldl (fun s e =>
    releasePort e.1 (sleepWake e.1 false 0xFFFF e.2.2 (raiseFull e.1 0x0104 (le 1 e.2.1) e.2.2 false false s)))
    { s with sleep.wakeEvents := [] }

/-- WAKE_TARGET, or Gale, is reached from Calm or Zephyr (R630, R469), and MODE_CHANGE is raised. -/
def reachTarget (old : Mode) (x : Transition) (s : State) : State :=
  let s := if x.target = .breeze then enterBreeze s else s
  let s := raiseWakes (relearnAll (modeChange old x x.cause s))
  if x.cause = 3 ∨ x.cause = 4 then bump (slpCtr 0x0100) s else s

/-- The steps t5 to t9 of R630. -/
def bootSteps (rd : List Nat) (trained pcie : Bool) (wake : Option Transition) (s : State) : State :=
  let s := ledgerStart (heraxStart (takeCause s))
  match chooseSlot 0 rd s with
  | (none, s) => enterRecovery pcie s
  | (some f, s) =>
    let s := lpddrStart trained (runFirmware f s)
    let (c, s) := chooseSlot 2 rd s
    let c := c.filter fun i => trained || !namesExtension s i
    let s := startEnds (loadConfig c s)
    let x : Transition := match wake with
      | some w => w
      | none => { target := .gale, cause := 9, source := 0xFF, started := s.clk, partner := 0 }
    pairStart (reachTarget .calm x s)

/-- The main domain may start: no reset pin is low, its supplies are good and nothing holds it (R611, R612,
R632). -/
def mayStart (s : State) : Bool :=
  !s.power.porst && !s.power.sysRst && s.power.mainEn && s.power.pwrGood && !s.power.held && !s.mainUp

/-- The mode in which a wake ends: WAKE_TARGET; any other start-up ends in Gale (R630). -/
def startMode : Option Transition → Mode
  | some x => if x.target = .breeze then .breeze else .gale
  | none => .gale

/-- A start-up other than a resume from Zephyr runs to forwarding (R630-R632, R638-R640). -/
def startUp (rst n : Nat) (lbist : Option Nat) (rd : List Nat) (trained pcie : Bool) (s : State) : State :=
  let s := performReset s
  if !mayStart s || s.mode != .calm then s
  else
    match lbist with
    | some k => { s with power.held := true, power.lbistFail := some k }
    | none =>
      let wake := if s.power.nextCause = 2 then s.power.transition else none
      let s := timeResumes rst n { s with power.transition := none }
      let y := bootSteps rd trained pcie wake s
      { holdBase s y with mainUp := true, mode := if y.power.recovery then .atelier else startMode wake }

/-- A wake in Zephyr restores the main domain, or starts it anew where the hash of the TCMs differs
(R627, R629). -/
def zephyrResume (rst n : Nat) (h : Bytes) (lbist : Option Nat) (s : State) : State :=
  match s.power.transition with
  | none => s
  | some x =>
    if !mayStart s || s.mode != .zephyr then s
    else
      match lbist with
      | some k => { s with power.held := true, power.lbistFail := some k }
      | none =>
        if h ≠ s.power.tcmHash then { clearMain s with power.nextCause := 9 }
        else
          let s0 := timeResumes rst n { s with power.transition := none }
          let s := ledgerStart (takeCause (heraxReload s0))
          let s := (currentObjs s).foldl (fun s e =>
            if okind e.1 = Kind.pdu.code then pduCommitted (oindex e.1) none (some e.2) s else s) s
          let s := setSegments s.power.segMask (freshResumes { s with lpddrUp := s.power.trained })
          let s := reachTarget .zephyr x (startEnds s)
          let s := if s.sleep.st = .asleep then startJoining s else s
          { holdBase s0 (pairStart s) with mainUp := true, mode := startMode (some x) }

end Sys2Proof.Machine
end

