-- ==== Sys2Proof/Machine/Events.lean ====
section
/-!
DEFINITION. What the meanings of events share: the instant, the clock they need, and the smaller effects that no
unit's own file gives.
-/
namespace Sys2Proof.Machine

/-- An event in any mode at device clock `t`. -/
def whenAny (t : Tick) (f : State → State) (s : State) : State :=
  let s := atTime t s
  holdBase s (f s)

/-- An event of the main domain at device clock `t`: without TSCLK it does not occur (R31, R485). -/
def whenRuns (t : Tick) (f : State → State) (s : State) : State :=
  let s := atTime t s
  if tsclkRuns s then holdBase s (f s) else s

/-- An event that may make a reset of the main domain due, which is then performed (R733). -/
def thenReset (t : Tick) (f : State → State) (s : State) : State :=
  let s := atTime t s
  performReset (holdBase s (f s))

/-- An event of the power unit: it may change the mode and the main domain's state, and never IT, RATE_ADJ or the
queue. -/
def whenModes (t : Tick) (f : State → State) (s : State) : State :=
  let s := atTime t s
  if tsclkRuns s then
    let y := f s
    { holdBase s y with mode := y.mode, mainUp := y.mainUp }
  else s

/-- A service of Pair B, which pauses while Pair B is halted, in its LBIST slot and during a hitless activation
(R647, R736). -/
def whenPairB (t : Tick) (f : State → State) (s : State) : State :=
  let s := atTime t s
  if pairBRuns s && s.power.activating.isNone then holdBase s (f s) else s

/-- A value of RATE_ADJ in its range (R486). -/
def rateRange (v : Int) : Int := max (-2147483) (min 2147483 v)

/-- The servo of Pair B, which alone writes RATE_ADJ (R486). -/
def whenServo (t : Tick) (f : State → State) (s : State) : State :=
  let s := atTime t s
  if pairBRuns s && s.power.activating.isNone then
    let y := f s
    { holdBase s y with rateAdj := rateRange y.rateAdj }
  else s

/-- A service of Pair A (R71, R647, R736). -/
def whenPairA (t : Tick) (f : State → State) (s : State) : State :=
  let s := atTime t s
  if pairARuns s then holdBase s (f s) else s

/-- An effect under a condition. -/
def only (b : Bool) (f : State → State) (s : State) : State := if b then f s else s

/-- The word a read returns is the last answer. -/
def answered (r : Nat × State) : State := answerWith 0 (le 4 r.1) r.2

/-- Writes of the host to its own memory. -/
def hostWrites (wr : List (Nat × Bytes)) (s : State) : State :=
  { s with host.mem := wr.foldl (fun m w => memWriteBytes m w.1 w.2) s.host.mem }

/-- A write of `RING_DB` by the owner's host (R123). -/
def ringDb (ring : Nat) (v : Word) (s : State) : State := match ringOf s ring with
  | some r => if tsclkRuns s && ringServed s r then ringDoorbell ring v s else s
  | none => s

/-- The pause windows of a port that have ended are over, and what they held counts (R212, R215). -/
def pauseWindowEnd (g : Nat) (s : State) : State :=
  let x := ethOf s g
  let live (w : Tick × Tick) : Bool := decide (s.now < w.2)
  let y := { x with pause := x.pause.filter live, pfc := tfilter x.pfc fun _ w => live w }
  heldTicks g (x.heldSince.isSome && (y.pause.isSome || !y.pfc.isEmpty)) (setEth g y s)

/-- A port selects its next frame (R327). -/
def egressSelect (g cap : Nat) (lane4 : Bool) (s : State) : State :=
  if isCan g then canSelect g s
  else if isLin g then linSelect g s
  else if isEth g then ethSelect g (egressStamp s g cap lane4) s
  else if isLnk g then lnkSelect (g - 50) cap s
  else if g = gHostp ∨ g = gHosts then hostSelect g s
  else if g = gCpup then cpuSelect s
  else s

/-- Pair B sends Sync and Follow_Up of an enabled domain on its ports (R491). -/
def syncTx (d : Nat) (frames : List (Nat × Bytes)) (s : State) : State :=
  let x := domain s d
  if x.state = .disabled then s
  else
    frames.foldl (fun s e =>
      only (isEth e.1 && bit x.ports e.1) (cpuEmit e.1 (Config.firmwareTc 0) none e.2) s) s

/-- The lanes of a link gain or lose lock or alignment (R695). -/
def laneChange (k : Nat) (l0 l1 al : Bool) (s : State) : State :=
  only (decide (k < 2)) (withLink k 2 fun x => { x with lane0 := l0, lane1 := l1, aligned := al }) s

end Sys2Proof.Machine
end

