-- ==== Sys2Proof/Machine/CipherEventMeanings.lean ====
section
/-!
DEFINITION. The meanings of the events of ciphering and in-band frames.
-/
namespace Sys2Proof.Machine

/-- CIPHER_DISPATCH (R576). -/
def execCipherDispatch (t : Nat) (s : State) : Host.Outcome State Fault Refusal :=
  .next (whenRuns t (fun s => cipherDispatch s) s)

/-- CIPHER_MESSAGE_DONE (R580). -/
def execCipherMessageDone (t n : Nat) (s : State) : Host.Outcome State Fault Refusal :=
  .next (whenRuns t (fun s => cipherMessageDone n s) s)

/-- CIPHER_ABORT (R596). -/
def execCipherAbort (t : Nat) (job : Bool) (x y off : Nat) (s : State) : Host.Outcome State Fault Refusal :=
  .next (whenRuns t (fun s => (if job then cipherAbortJob x y off else cipherAbortSend x off) s) s)

/-- JOB_FAULT (R600). -/
def execJobFault (t n upto : Nat) (s : State) : Host.Outcome State Fault Refusal :=
  .next (whenRuns t (fun s => jobFault n upto s) s)

/-- CIPHER_JOB_COMPLETE (R598). -/
def execCipherJobComplete (t p tag : Nat) (s : State) : Host.Outcome State Fault Refusal :=
  .next (whenRuns t (fun s => jobComplete p tag s) s)

/-- ZEROING_COMPLETE (R599). -/
def execZeroingComplete (t p tag : Nat) (s : State) : Host.Outcome State Fault Refusal :=
  .next (whenRuns t (fun s => jobZeroed p tag s) s)

/-- INBAND_FRAME (R604). -/
def execInbandFrame (t : Nat) (s : State) : Host.Outcome State Fault Refusal :=
  .next (whenPairA t (fun s => inbandFrame s) s)

end Sys2Proof.Machine
end

