-- ==== Sys2Proof/Machine/Commands.lean ====
section
/-!
DEFINITION. A command of a partner, run with every opcode known, and the in-band reply it may make due.
-/
namespace Sys2Proof.Machine

/-- The next command of partner `p` (R62, R68), and the frames that carry an in-band partner's replies
(R602). Where Pair A cannot fetch it, it waits where it is. -/
def runCommand (o : CmdSpec) (t p : Nat) (k : Packet) (s : State) : State :=
  let s := atTime t s
  if canFetch p k s then holdBase s (inbandReplies p (runCommandWith specOf o p k s)) else s

end Sys2Proof.Machine
end

