-- ==== Sys2Proof/Machine/GatewayCommandMeanings.lean ====
section
/-!
DEFINITION. The meanings of the commands of unit class 3: signal gateway.
-/
namespace Sys2Proof.Machine

/-- PDU_DEFINE (R249). -/
def execPduDefine (t p : Nat) (k : Packet) (s : State) : Host.Outcome State Fault Refusal :=
  .next (runCommand pduDefineSpec t p k s)

/-- PDU_REMOVE (R323). -/
def execPduRemove (t p : Nat) (k : Packet) (s : State) : Host.Outcome State Fault Refusal :=
  .next (runCommand pduRemoveSpec t p k s)

/-- PDU_QUERY (R322). -/
def execPduQuery (t p : Nat) (k : Packet) (s : State) : Host.Outcome State Fault Refusal :=
  .next (runCommand pduQuerySpec t p k s)

/-- MAP_ADD (R256). -/
def execMapAdd (t p : Nat) (k : Packet) (s : State) : Host.Outcome State Fault Refusal :=
  .next (runCommand mapAddSpec t p k s)

/-- MAP_REMOVE (R316). -/
def execMapRemove (t p : Nat) (k : Packet) (s : State) : Host.Outcome State Fault Refusal :=
  .next (runCommand mapRemoveSpec t p k s)

/-- MAP_QUERY (R322). -/
def execMapQuery (t p : Nat) (k : Packet) (s : State) : Host.Outcome State Fault Refusal :=
  .next (runCommand mapQuerySpec t p k s)

/-- CONT_DEFINE (R268). -/
def execContDefine (t p : Nat) (k : Packet) (s : State) : Host.Outcome State Fault Refusal :=
  .next (runCommand contDefineSpec t p k s)

/-- CONT_REMOVE (R323). -/
def execContRemove (t p : Nat) (k : Packet) (s : State) : Host.Outcome State Fault Refusal :=
  .next (runCommand contRemoveSpec t p k s)

/-- CONT_QUERY (R322). -/
def execContQuery (t p : Nat) (k : Packet) (s : State) : Host.Outcome State Fault Refusal :=
  .next (runCommand contQuerySpec t p k s)

/-- CONT_FLUSH (R276). -/
def execContFlush (t p : Nat) (k : Packet) (s : State) : Host.Outcome State Fault Refusal :=
  .next (runCommand contFlushSpec t p k s)

/-- E2E_PROFILE_SET (R307). -/
def execE2eProfileSet (t p : Nat) (k : Packet) (s : State) : Host.Outcome State Fault Refusal :=
  .next (runCommand e2eProfileSetSpec t p k s)

/-- E2E_COMPUTE (R315). -/
def execE2eCompute (t p : Nat) (k : Packet) (s : State) : Host.Outcome State Fault Refusal :=
  .next (runCommand e2eComputeSpec t p k s)

/-- TP_CHANNEL_SET (R295). -/
def execTpChannelSet (t p : Nat) (k : Packet) (s : State) : Host.Outcome State Fault Refusal :=
  .next (runCommand tpChannelSetSpec t p k s)

/-- TP_CHANNEL_REMOVE (R323). -/
def execTpChannelRemove (t p : Nat) (k : Packet) (s : State) : Host.Outcome State Fault Refusal :=
  .next (runCommand tpChannelRemoveSpec t p k s)

/-- TP_SESSION_QUERY (R322). -/
def execTpSessionQuery (t p : Nat) (k : Packet) (s : State) : Host.Outcome State Fault Refusal :=
  .next (runCommand tpSessionQuerySpec t p k s)

/-- TP_ABORT (R306). -/
def execTpAbort (t p : Nat) (k : Packet) (s : State) : Host.Outcome State Fault Refusal :=
  .next (runCommand tpAbortSpec t p k s)

/-- J1939_BIND (R288). -/
def execJ1939Bind (t p : Nat) (k : Packet) (s : State) : Host.Outcome State Fault Refusal :=
  .next (runCommand j1939BindSpec t p k s)

/-- J1939_UNBIND (R323). -/
def execJ1939Unbind (t p : Nat) (k : Packet) (s : State) : Host.Outcome State Fault Refusal :=
  .next (runCommand j1939UnbindSpec t p k s)

/-- J1939_CLAIMS (R287). -/
def execJ1939Claims (t p : Nat) (k : Packet) (s : State) : Host.Outcome State Fault Refusal :=
  .next (runCommand j1939ClaimsSpec t p k s)

/-- J1939_REWRITE_SET (R292). -/
def execJ1939RewriteSet (t p : Nat) (k : Packet) (s : State) : Host.Outcome State Fault Refusal :=
  .next (runCommand j1939RewriteSetSpec t p k s)

/-- J1939_OWN_ADDRESS (R291). -/
def execJ1939OwnAddress (t p : Nat) (k : Packet) (s : State) : Host.Outcome State Fault Refusal :=
  .next (runCommand j1939OwnAddressSpec t p k s)

/-- GW_COUNTERS (R321). -/
def execGwCounters (t p : Nat) (k : Packet) (s : State) : Host.Outcome State Fault Refusal :=
  .next (runCommand gwCountersSpec t p k s)

end Sys2Proof.Machine
end

