-- ==== Sys2Proof/Machine/GatewayEventMeanings.lean ====
section
/-!
DEFINITION. The meanings of the events of the signal gateway.
-/
namespace Sys2Proof.Machine

/-- GW_TAKE_FRAME (R347). -/
def execGwTakeFrame (t : Nat) (s : State) : Host.Outcome State Fault Refusal :=
  .next (whenRuns t (fun s => gwTakeFrame s) s)

/-- CONTAINER_RELEASE (R271). -/
def execContainerRelease (t c : Nat) (s : State) : Host.Outcome State Fault Refusal :=
  .next (whenRuns t (fun s => contDue c s) s)

/-- CYCLIC_DUE (R264). -/
def execCyclicDue (t n : Nat) (s : State) : Host.Outcome State Fault Refusal :=
  .next (whenRuns t (fun s => cyclicDue n s) s)

/-- MIN_GAP_END (R265). -/
def execMinGapEnd (t n : Nat) (s : State) : Host.Outcome State Fault Refusal :=
  .next (whenRuns t (fun s => minGapEnd n s) s)

/-- PDU_TIMEOUT (R260). -/
def execPduTimeout (t n : Nat) (s : State) : Host.Outcome State Fault Refusal :=
  .next (whenRuns t (fun s => sourceTimeout n s) s)

/-- TP_TIMER_EXPIRY (R298). -/
def execTpTimerExpiry (t n : Nat) (s : State) : Host.Outcome State Fault Refusal :=
  .next (whenRuns t (fun s => tpTimer n s) s)

/-- TP_SEGMENT_RELEASE (R303). -/
def execTpSegmentRelease (t n : Nat) (s : State) : Host.Outcome State Fault Refusal :=
  .next (whenRuns t (fun s => tpRelease n s) s)

/-- J1939_CLAIM_RX (R287). -/
def execJ1939ClaimRx (t g sa name stamp : Nat) (s : State) : Host.Outcome State Fault Refusal :=
  .next (whenRuns t (fun s => j1939ClaimRx g sa name stamp s) s)

/-- J1939_BINDING_COMMIT (R290). -/
def execJ1939BindingCommit (t : Nat) (s : State) : Host.Outcome State Fault Refusal :=
  .next (whenRuns t (fun s => bindingCommit s) s)

/-- GW_E2E_CTRL (R320). -/
def execGwE2eCtrl (t u : Nat) (v : Word) (s : State) : Host.Outcome State Fault Refusal :=
  .next (whenRuns t (fun s => e2eCtrl u v s) s)

/-- GW_E2E_FEED (R315). -/
def execGwE2eFeed (t u size : Nat) (v : Word) (s : State) : Host.Outcome State Fault Refusal :=
  .next (whenRuns t (fun s => e2eFeed u size v s) s)

end Sys2Proof.Machine
end

