-- ==== Sys2Proof/Machine/HostEventMeanings.lean ====
section
/-!
DEFINITION. The meanings of the events of host rings, PCIe, the window bridge and the octal-SPI target.
-/
namespace Sys2Proof.Machine

/-- RING_DB (R123). -/
def execRingDb (t ring : Nat) (v : Word) (wr : List (Nat × Bytes)) (s : State) : Host.Outcome State Fault Refusal :=
  .next (whenAny t (fun s => ringDb ring v (hostWrites wr s)) s)

/-- TX_DMA_FETCH (R135). -/
def execTxDmaFetch (t n : Nat) (err : Bool) (s : State) : Host.Outcome State Fault Refusal :=
  .next (whenRuns t (fun s => txDmaFetch n err s) s)

/-- RX_DMA_DELIVER (R133). -/
def execRxDmaDeliver (t : Nat) (err : Option Nat) (s : State) : Host.Outcome State Fault Refusal :=
  .next (whenRuns t (fun s => rxDmaDeliver err s) s)

/-- RING_COALESCE_EXPIRY (R132). -/
def execRingCoalesceExpiry (t n : Nat) (s : State) : Host.Outcome State Fault Refusal :=
  .next (whenRuns t (fun s => ringCoalesce n s) s)

/-- PCIE_LINK_DOWN (R121). -/
def execPcieLinkDown (t : Nat) (s : State) : Host.Outcome State Fault Refusal :=
  .next (whenRuns t (fun s => pcieDown s) s)

/-- PCIE_LINK_UP (R174). -/
def execPcieLinkUp (t width speed : Nat) (s : State) : Host.Outcome State Fault Refusal :=
  .next (whenRuns t (fun s => pcieUp width speed s) s)

/-- PCIE_PERST (R767). -/
def execPciePerst (t : Nat) (low : Bool) (s : State) : Host.Outcome State Fault Refusal :=
  .next (whenAny t (fun s => pciePerst low s) s)

/-- PCIE_COMPLETION_TIMEOUT (R117). -/
def execPcieCompletionTimeout (t : Nat) (ring : Option Nat) (s : State) : Host.Outcome State Fault Refusal :=
  .next (whenRuns t (fun s => pcieTimeout ring s) s)

/-- BAR0_ACCESS (R119). -/
def execBar0Access (t p off len : Nat) (write : Option Bytes) (s : State) : Host.Outcome State Fault Refusal :=
  .next (whenRuns t (fun s => bar0Access p off len write s) s)

/-- WINDOW_READ (R162). -/
def execWindowRead (t off len : Nat) (s : State) : Host.Outcome State Fault Refusal :=
  .next (whenRuns t (fun s => bar2Read off len s) s)

/-- WINDOW_WRITE (R160). -/
def execWindowWrite (t off : Nat) (data : Bytes) (s : State) : Host.Outcome State Fault Refusal :=
  .next (whenRuns t (fun s => bar2Write off data s) s)

/-- PREFETCH_DISCARD (R162). -/
def execPrefetchDiscard (t p : Nat) (s : State) : Host.Outcome State Fault Refusal :=
  .next (whenRuns t (fun s => prefetchExpiry p s) s)

/-- NONPOSTED_WRITE_DONE (R156). -/
def execNonpostedWriteDone (t p : Nat) (s : State) : Host.Outcome State Fault Refusal :=
  .next (whenRuns t (fun s => nonpostedDone p s) s)

/-- OSPI_READ (R155). -/
def execOspiRead (t part addr len : Nat) (crc cmd ready : Bool) (s : State) : Host.Outcome State Fault Refusal :=
  .next (whenRuns t (fun s => spiRead part addr len crc cmd ready s) s)

/-- OSPI_WRITE (R153). -/
def execOspiWrite (t part addr : Nat) (data : Bytes) (crc fast : Bool) (s : State) : Host.Outcome State Fault Refusal :=
  .next (whenRuns t (fun s => spiWrite part addr data crc fast s) s)

/-- OSPI_STATUS_READ (R153). -/
def execOspiStatusRead (t part : Nat) (crc : Bool) (s : State) : Host.Outcome State Fault Refusal :=
  .next (whenRuns t (fun s => spiStatusRead part crc s) s)

/-- OSPI_FRAMING_ERROR (R157). -/
def execOspiFramingError (t : Nat) (s : State) : Host.Outcome State Fault Refusal :=
  .next (whenRuns t (fun s => spiFraming s) s)

/-- KEPT_READ_EXPIRY (R155). -/
def execKeptReadExpiry (t p : Nat) (s : State) : Host.Outcome State Fault Refusal :=
  .next (whenRuns t (fun s => keptExpiry p s) s)

/-- POSTED_WRITE_DONE (R160). -/
def execPostedWriteDone (t : Nat) (s : State) : Host.Outcome State Fault Refusal :=
  .next (whenRuns t (fun s => postedDone s) s)

end Sys2Proof.Machine
end

