-- ==== Sys2Proof/Machine/KernelCommandMeanings.lean ====
section
/-!
DEFINITION. The meanings of the commands of unit class 11: Sprinaz service and host attachment.
-/
namespace Sys2Proof.Machine

/-- ECHO (R112). -/
def execEcho (t p : Nat) (k : Packet) (s : State) : Host.Outcome State Fault Refusal :=
  .next (runCommand echoSpec t p k s)

/-- VERSION_QUERY (R112). -/
def execVersionQuery (t p : Nat) (k : Packet) (s : State) : Host.Outcome State Fault Refusal :=
  .next (runCommand versionQuerySpec t p k s)

/-- PARTNER_SET (R114). -/
def execPartnerSet (t p : Nat) (k : Packet) (s : State) : Host.Outcome State Fault Refusal :=
  .next (runCommand partnerSetSpec t p k s)

/-- PARTNER_QUERY (R112). -/
def execPartnerQuery (t p : Nat) (k : Packet) (s : State) : Host.Outcome State Fault Refusal :=
  .next (runCommand partnerQuerySpec t p k s)

/-- EVENT_SUBSCRIBE (R90). -/
def execEventSubscribe (t p : Nat) (k : Packet) (s : State) : Host.Outcome State Fault Refusal :=
  .next (runCommand eventSubscribeSpec t p k s)

/-- EVQ_CONFIG (R115). -/
def execEvqConfig (t p : Nat) (k : Packet) (s : State) : Host.Outcome State Fault Refusal :=
  .next (runCommand evqConfigSpec t p k s)

/-- TXN_ABORT (R116). -/
def execTxnAbort (t p : Nat) (k : Packet) (s : State) : Host.Outcome State Fault Refusal :=
  .next (runCommand txnAbortSpec t p k s)

/-- EVQ_RESET (R101). -/
def execEvqReset (t p : Nat) (k : Packet) (s : State) : Host.Outcome State Fault Refusal :=
  .next (runCommand evqResetSpec t p k s)

/-- RING_CONFIG (R170). -/
def execRingConfig (t p : Nat) (k : Packet) (s : State) : Host.Outcome State Fault Refusal :=
  .next (runCommand ringConfigSpec t p k s)

/-- RING_ENABLE (R172). -/
def execRingEnable (t p : Nat) (k : Packet) (s : State) : Host.Outcome State Fault Refusal :=
  .next (runCommand ringEnableSpec t p k s)

/-- RING_RESTART (R146). -/
def execRingRestart (t p : Nat) (k : Packet) (s : State) : Host.Outcome State Fault Refusal :=
  .next (runCommand ringRestartSpec t p k s)

/-- RING_FREE (R171). -/
def execRingFree (t p : Nat) (k : Packet) (s : State) : Host.Outcome State Fault Refusal :=
  .next (runCommand ringFreeSpec t p k s)

/-- RING_QUERY (R170). -/
def execRingQuery (t p : Nat) (k : Packet) (s : State) : Host.Outcome State Fault Refusal :=
  .next (runCommand ringQuerySpec t p k s)

/-- DMMU_CTX_SET (R171). -/
def execDmmuCtxSet (t p : Nat) (k : Packet) (s : State) : Host.Outcome State Fault Refusal :=
  .next (runCommand dmmuCtxSetSpec t p k s)

/-- DMMU_MAP (R142). -/
def execDmmuMap (t p : Nat) (k : Packet) (s : State) : Host.Outcome State Fault Refusal :=
  .next (runCommand dmmuMapSpec t p k s)

/-- DMMU_UNMAP (R142). -/
def execDmmuUnmap (t p : Nat) (k : Packet) (s : State) : Host.Outcome State Fault Refusal :=
  .next (runCommand dmmuUnmapSpec t p k s)

/-- DMMU_QUERY (R170). -/
def execDmmuQuery (t p : Nat) (k : Packet) (s : State) : Host.Outcome State Fault Refusal :=
  .next (runCommand dmmuQuerySpec t p k s)

/-- WINDOW_SET (R159). -/
def execWindowSet (t p : Nat) (k : Packet) (s : State) : Host.Outcome State Fault Refusal :=
  .next (runCommand windowSetSpec t p k s)

/-- WINDOW_QUERY (R170). -/
def execWindowQuery (t p : Nat) (k : Packet) (s : State) : Host.Outcome State Fault Refusal :=
  .next (runCommand windowQuerySpec t p k s)

end Sys2Proof.Machine
end

