-- ==== Sys2Proof/Machine/KernelEventMeanings.lean ====
section
/-!
DEFINITION. The meanings of the events of the host attachment of partners: doorbells, the event window and register writes.
-/
namespace Sys2Proof.Machine

/-- HOST_CMD_DB (R101). -/
def execHostCmdDb (t p : Nat) (v : Word) (s : State) : Host.Outcome State Fault Refusal :=
  .next (whenRuns t (fun s => only (partner s p).attached (cmdDoorbell p v) s) s)

/-- HOST_RPL_DB (R101). -/
def execHostRplDb (t p : Nat) (v : Word) (s : State) : Host.Outcome State Fault Refusal :=
  .next (whenRuns t (fun s => only (partner s p).attached (rplDoorbell p v) s) s)

/-- HOST_EVQ_MARK_DB (R98). -/
def execHostEvqMarkDb (t p : Nat) (v : Word) (s : State) : Host.Outcome State Fault Refusal :=
  .next (whenRuns t (fun s => only (partner s p).attached (evqOp p v (evqMark p)) s) s)

/-- HOST_EVQ_REWIND_DB (R98). -/
def execHostEvqRewindDb (t p : Nat) (v : Word) (s : State) : Host.Outcome State Fault Refusal :=
  .next (whenRuns t (fun s => only (partner s p).attached (evqOp p v (evqRewind p)) s) s)

/-- HOST_EVQ_RELEASE_DB (R98). -/
def execHostEvqReleaseDb (t p : Nat) (v : Word) (s : State) : Host.Outcome State Fault Refusal :=
  .next (whenRuns t (fun s => only (partner s p).attached (evqOp p v (evqRelease p)) s) s)

/-- EVENT_WINDOW_READ (R97). -/
def execEventWindowRead (t p off : Nat) (s : State) : Host.Outcome State Fault Refusal :=
  .next (whenRuns t (fun s => only ((partner s p).attached && decide (off < 0x20)) (fun s => answered (windowRead p off s)) s) s)

/-- TXN_TIMEOUT (R82). -/
def execTxnTimeout (t p : Nat) (s : State) : Host.Outcome State Fault Refusal :=
  .next (whenRuns t (fun s => txnTimeout p s) s)

/-- EVQ_COALESCE_EXPIRY (R95). -/
def execEvqCoalesceExpiry (t p : Nat) (s : State) : Host.Outcome State Fault Refusal :=
  .next (whenRuns t (fun s => evqCoalesce p s) s)

/-- REGISTER_WRITE (R11). -/
def execRegisterWrite (t : Nat) (fw : Bool) (addr : Nat) (v : Word) (s : State) : Host.Outcome State Fault Refusal :=
  .next (whenRuns t (fun s => registerWrite fw addr v s) s)

end Sys2Proof.Machine
end

