-- ==== Sys2Proof/Machine/KeysCommandMeanings.lean ====
section
/-!
DEFINITION. The meanings of the commands of unit class 6: Herax and ciphering.
-/
namespace Sys2Proof.Machine

/-- LC_QUERY (R568). -/
def execLcQuery (t p : Nat) (k : Packet) (s : State) : Host.Outcome State Fault Refusal :=
  .next (runCommand lcQuerySpec t p k s)

/-- LC_ADVANCE (R535). -/
def execLcAdvance (t p : Nat) (k : Packet) (s : State) : Host.Outcome State Fault Refusal :=
  .next (runCommand lcAdvanceSpec t p k s)

/-- LC_CHALLENGE (R534). -/
def execLcChallenge (t p : Nat) (k : Packet) (s : State) : Host.Outcome State Fault Refusal :=
  .next (runCommand lcChallengeSpec t p k s)

/-- TAMPER_CONFIG (R569). -/
def execTamperConfig (t p : Nat) (k : Packet) (s : State) : Host.Outcome State Fault Refusal :=
  .next (runCommand tamperConfigSpec t p k s)

/-- KEK_LOAD_CLEAR (R544). -/
def execKekLoadClear (t p : Nat) (k : Packet) (s : State) : Host.Outcome State Fault Refusal :=
  .next (runCommand kekLoadClearSpec t p k s)

/-- KEK_ROTATE (R544). -/
def execKekRotate (t p : Nat) (k : Packet) (s : State) : Host.Outcome State Fault Refusal :=
  .next (runCommand kekRotateSpec t p k s)

/-- KEY_STAGE (R545). -/
def execKeyStage (t p : Nat) (k : Packet) (s : State) : Host.Outcome State Fault Refusal :=
  .next (runCommand keyStageSpec t p k s)

/-- KEY_DERIVE (R547). -/
def execKeyDerive (t p : Nat) (k : Packet) (s : State) : Host.Outcome State Fault Refusal :=
  .next (runCommand keyDeriveSpec t p k s)

/-- KEY_COMMIT (R548). -/
def execKeyCommit (t p : Nat) (k : Packet) (s : State) : Host.Outcome State Fault Refusal :=
  .next (runCommand keyCommitSpec t p k s)

/-- KEY_DISCARD (R568). -/
def execKeyDiscard (t p : Nat) (k : Packet) (s : State) : Host.Outcome State Fault Refusal :=
  .next (runCommand keyDiscardSpec t p k s)

/-- KEY_REVOKE (R552). -/
def execKeyRevoke (t p : Nat) (k : Packet) (s : State) : Host.Outcome State Fault Refusal :=
  .next (runCommand keyRevokeSpec t p k s)

/-- KEY_ERASE (R552). -/
def execKeyErase (t p : Nat) (k : Packet) (s : State) : Host.Outcome State Fault Refusal :=
  .next (runCommand keyEraseSpec t p k s)

/-- KEY_QUERY (R568). -/
def execKeyQuery (t p : Nat) (k : Packet) (s : State) : Host.Outcome State Fault Refusal :=
  .next (runCommand keyQuerySpec t p k s)

/-- ATTEST (R558). -/
def execAttest (t p : Nat) (k : Packet) (s : State) : Host.Outcome State Fault Refusal :=
  .next (runCommand attestSpec t p k s)

/-- IDENTITY_QUERY (R568). -/
def execIdentityQuery (t p : Nat) (k : Packet) (s : State) : Host.Outcome State Fault Refusal :=
  .next (runCommand identityQuerySpec t p k s)

/-- SEAL_READ (R568). -/
def execSealRead (t p : Nat) (k : Packet) (s : State) : Host.Outcome State Fault Refusal :=
  .next (runCommand sealReadSpec t p k s)

/-- SEAL_ACK (R565). -/
def execSealAck (t p : Nat) (k : Packet) (s : State) : Host.Outcome State Fault Refusal :=
  .next (runCommand sealAckSpec t p k s)

/-- SEAL_CHECKPOINT (R563). -/
def execSealCheckpoint (t p : Nat) (k : Packet) (s : State) : Host.Outcome State Fault Refusal :=
  .next (runCommand sealCheckpointSpec t p k s)

/-- SEAL_CONFIG (R563). -/
def execSealConfig (t p : Nat) (k : Packet) (s : State) : Host.Outcome State Fault Refusal :=
  .next (runCommand sealConfigSpec t p k s)

/-- SEAL_NOTE (R564). -/
def execSealNote (t p : Nat) (k : Packet) (s : State) : Host.Outcome State Fault Refusal :=
  .next (runCommand sealNoteSpec t p k s)

/-- HERAX_COUNTERS (R567). -/
def execHeraxCounters (t p : Nat) (k : Packet) (s : State) : Host.Outcome State Fault Refusal :=
  .next (runCommand heraxCountersSpec t p k s)

/-- PROT_PROFILE_SET (R586). -/
def execProtProfileSet (t p : Nat) (k : Packet) (s : State) : Host.Outcome State Fault Refusal :=
  .next (runCommand protProfileSetSpec t p k s)

/-- PROT_PROFILE_QUERY (R607). -/
def execProtProfileQuery (t p : Nat) (k : Packet) (s : State) : Host.Outcome State Fault Refusal :=
  .next (runCommand protProfileQuerySpec t p k s)

/-- MACSEC_SECY_SET (R583). -/
def execMacsecSecySet (t p : Nat) (k : Packet) (s : State) : Host.Outcome State Fault Refusal :=
  .next (runCommand macsecSecySetSpec t p k s)

/-- MACSEC_RXSC_SET (R582). -/
def execMacsecRxscSet (t p : Nat) (k : Packet) (s : State) : Host.Outcome State Fault Refusal :=
  .next (runCommand macsecRxscSetSpec t p k s)

/-- MACSEC_SA_SET (R608). -/
def execMacsecSaSet (t p : Nat) (k : Packet) (s : State) : Host.Outcome State Fault Refusal :=
  .next (runCommand macsecSaSetSpec t p k s)

/-- MACSEC_TX_SWITCH (R585). -/
def execMacsecTxSwitch (t p : Nat) (k : Packet) (s : State) : Host.Outcome State Fault Refusal :=
  .next (runCommand macsecTxSwitchSpec t p k s)

/-- MACSEC_QUERY (R607). -/
def execMacsecQuery (t p : Nat) (k : Packet) (s : State) : Host.Outcome State Fault Refusal :=
  .next (runCommand macsecQuerySpec t p k s)

/-- SECPDU_FV_SET (R588). -/
def execSecpduFvSet (t p : Nat) (k : Packet) (s : State) : Host.Outcome State Fault Refusal :=
  .next (runCommand secpduFvSetSpec t p k s)

/-- CIPHER_JOB (R598). -/
def execCipherJob (t p : Nat) (k : Packet) (s : State) : Host.Outcome State Fault Refusal :=
  .next (runCommand cipherJobSpec t p k s)

/-- CIPHER_JOB_RESUME (R601). -/
def execCipherJobResume (t p : Nat) (k : Packet) (s : State) : Host.Outcome State Fault Refusal :=
  .next (runCommand cipherJobResumeSpec t p k s)

/-- CIPHER_JOB_CANCEL (R601). -/
def execCipherJobCancel (t p : Nat) (k : Packet) (s : State) : Host.Outcome State Fault Refusal :=
  .next (runCommand cipherJobCancelSpec t p k s)

/-- INBAND_BIND (R602). -/
def execInbandBind (t p : Nat) (k : Packet) (s : State) : Host.Outcome State Fault Refusal :=
  .next (runCommand inbandBindSpec t p k s)

/-- CIPHER_COUNTERS (R606). -/
def execCipherCounters (t p : Nat) (k : Packet) (s : State) : Host.Outcome State Fault Refusal :=
  .next (runCommand cipherCountersSpec t p k s)

end Sys2Proof.Machine
end

