-- ==== Sys2Proof/Machine/KeysEventMeanings.lean ====
section
/-!
DEFINITION. The meanings of the events of Herax.
-/
namespace Sys2Proof.Machine

/-- HERAX_SEAL_HEAD_LO (R566). -/
def execHeraxSealHeadLo (t : Nat) (s : State) : Host.Outcome State Fault Refusal :=
  .next (whenRuns t (fun s => answered (readSealHead s)) s)

/-- HERAX_SEAL_ACK_LO (R566). -/
def execHeraxSealAckLo (t : Nat) (s : State) : Host.Outcome State Fault Refusal :=
  .next (whenRuns t (fun s => answered (readSealAck s)) s)

/-- TAMPER_DETECT (R539). -/
def execTamperDetect (t n : Nat) (s : State) : Host.Outcome State Fault Refusal :=
  .next (whenAny t (fun s => tamperDetect n s) s)

/-- WIPE_COMPLETE (R540). -/
def execWipeComplete (t : Nat) (s : State) : Host.Outcome State Fault Refusal :=
  .next (whenRuns t (fun s => wipeComplete s) s)

/-- SEAL_RECORD_WRITE (R562). -/
def execSealRecordWrite (t : Nat) (s : State) : Host.Outcome State Fault Refusal :=
  .next (whenRuns t (fun s => sealRecordWrite s) s)

/-- CHECKPOINT (R563). -/
def execCheckpoint (t : Nat) (s : State) : Host.Outcome State Fault Refusal :=
  .next (whenRuns t (fun s => checkpointStep s) s)

end Sys2Proof.Machine
end

