-- ==== Sys2Proof/Machine/PairCommandMeanings.lean ====
section
/-!
DEFINITION. The meanings of the commands of unit class 9: cascading and pairing.
-/
namespace Sys2Proof.Machine

/-- CASCADE_SET (R705). -/
def execCascadeSet (t p : Nat) (k : Packet) (s : State) : Host.Outcome State Fault Refusal :=
  .next (runCommand cascadeSetSpec t p k s)

/-- PAIR_CONFIG (R715). -/
def execPairConfig (t p : Nat) (k : Packet) (s : State) : Host.Outcome State Fault Refusal :=
  .next (runCommand pairConfigSpec t p k s)

/-- PAIR_QUERY (R752). -/
def execPairQuery (t p : Nat) (k : Packet) (s : State) : Host.Outcome State Fault Refusal :=
  .next (runCommand pairQuerySpec t p k s)

/-- PAIR_SWITCH (R728). -/
def execPairSwitch (t p : Nat) (k : Packet) (s : State) : Host.Outcome State Fault Refusal :=
  .next (runCommand pairSwitchSpec t p k s)

/-- PAIR_HOLD (R728). -/
def execPairHold (t p : Nat) (k : Packet) (s : State) : Host.Outcome State Fault Refusal :=
  .next (runCommand pairHoldSpec t p k s)

/-- PAIR_COUNTERS (R751). -/
def execPairCounters (t p : Nat) (k : Packet) (s : State) : Host.Outcome State Fault Refusal :=
  .next (runCommand pairCountersSpec t p k s)

/-- REMOTE_READ (R711). -/
def execRemoteRead (t p : Nat) (k : Packet) (s : State) : Host.Outcome State Fault Refusal :=
  .next (runCommand remoteReadSpec t p k s)

/-- REMOTE_WRITE (R711). -/
def execRemoteWrite (t p : Nat) (k : Packet) (s : State) : Host.Outcome State Fault Refusal :=
  .next (runCommand remoteWriteSpec t p k s)

end Sys2Proof.Machine
end

