-- ==== Sys2Proof/Machine/PairEventMeanings.lean ====
section
/-!
DEFINITION. The meanings of the events of links and pairing.
-/
namespace Sys2Proof.Machine

/-- REMOTE_READ_TIMEOUT (R711). -/
def execRemoteReadTimeout (t : Nat) (s : State) : Host.Outcome State Fault Refusal :=
  .next (whenRuns t (fun s => remoteTimeout s) s)

/-- LNK_PACKET_RX (R700). -/
def execLnkPacketRx (t k : Nat) (pk : LinkPacket) (bus : Option CanFrame) (recs : List MirrorRec) (cap : Nat) (s : State) : Host.Outcome State Fault Refusal :=
  .next (whenRuns t (fun s => lnkReceive k pk bus recs cap s) s)

/-- LNK_REPLAY_TIMEOUT (R700). -/
def execLnkReplayTimeout (t k : Nat) (s : State) : Host.Outcome State Fault Refusal :=
  .next (whenRuns t (fun s => lnkReplayTimeout k s) s)

/-- LNK_LANE_CHANGE (R695). -/
def execLnkLaneChange (t k : Nat) (l0 l1 al : Bool) (s : State) : Host.Outcome State Fault Refusal :=
  .next (whenRuns t (fun s => laneChange k l0 l1 al s) s)

/-- RELAY_CREDIT_TIMEOUT (R710). -/
def execRelayCreditTimeout (t k : Nat) (s : State) : Host.Outcome State Fault Refusal :=
  .next (whenRuns t (fun s => relayTimeout k s) s)

/-- HEARTBEAT_TX (R712). -/
def execHeartbeatTx (t : Nat) (s : State) : Host.Outcome State Fault Refusal :=
  .next (whenRuns t (fun s => heartbeatTx s) s)

/-- PAIR_HB_OUT_TOGGLE (R713). -/
def execPairHbOutToggle (t : Nat) (s : State) : Host.Outcome State Fault Refusal :=
  .next (whenRuns t (fun s => hbOutToggle s) s)

/-- PAIR_HB_IN_EDGE (R713). -/
def execPairHbInEdge (t : Nat) (s : State) : Host.Outcome State Fault Refusal :=
  .next (whenRuns t (fun s => { s with pair.pinLast := some s.now }) s)

/-- HEARTBEAT_LOST (R714). -/
def execHeartbeatLost (t : Nat) (s : State) : Host.Outcome State Fault Refusal :=
  .next (whenRuns t (fun s => heartbeatLost s) s)

/-- START_WAIT_EXPIRY (R717). -/
def execStartWaitExpiry (t : Nat) (s : State) : Host.Outcome State Fault Refusal :=
  .next (whenRuns t (fun s => startWaitExpiry s) s)

/-- MIRROR_STALL (R720). -/
def execMirrorStall (t : Nat) (s : State) : Host.Outcome State Fault Refusal :=
  .next (whenRuns t (fun s => mirrorStall s) s)

/-- SYNC_COMPLETE (R722). -/
def execSyncComplete (t : Nat) (agree : Bool) (s : State) : Host.Outcome State Fault Refusal :=
  .next (whenRuns t (fun s => syncComplete agree s) s)

/-- HOLD_OFF_EXPIRY (R727). -/
def execHoldOffExpiry (t : Nat) (s : State) : Host.Outcome State Fault Refusal :=
  .next (whenRuns t (fun s => holdOffExpiry s) s)

end Sys2Proof.Machine
end

