-- ==== Sys2Proof/Machine/PolicingCommandMeanings.lean ====
section
/-!
DEFINITION. The meanings of the commands of unit class 4: policing and cadence.
-/
namespace Sys2Proof.Machine

/-- POLICER_SET (R447). -/
def execPolicerSet (t p : Nat) (k : Packet) (s : State) : Host.Outcome State Fault Refusal :=
  .next (runCommand policerSetSpec t p k s)

/-- POLICER_QUERY (R472). -/
def execPolicerQuery (t p : Nat) (k : Packet) (s : State) : Host.Outcome State Fault Refusal :=
  .next (runCommand policerQuerySpec t p k s)

/-- POLICER_RESET (R447). -/
def execPolicerReset (t p : Nat) (k : Packet) (s : State) : Host.Outcome State Fault Refusal :=
  .next (runCommand policerResetSpec t p k s)

/-- SF_SET (R449). -/
def execSfSet (t p : Nat) (k : Packet) (s : State) : Host.Outcome State Fault Refusal :=
  .next (runCommand sfSetSpec t p k s)

/-- SGATE_LIST_SET (R450). -/
def execSgateListSet (t p : Nat) (k : Packet) (s : State) : Host.Outcome State Fault Refusal :=
  .next (runCommand sgateListSetSpec t p k s)

/-- SF_QUERY (R472). -/
def execSfQuery (t p : Nat) (k : Packet) (s : State) : Host.Outcome State Fault Refusal :=
  .next (runCommand sfQuerySpec t p k s)

/-- SF_RESET (R449). -/
def execSfReset (t p : Nat) (k : Packet) (s : State) : Host.Outcome State Fault Refusal :=
  .next (runCommand sfResetSpec t p k s)

/-- CADENCE_PROFILE_SET (R469). -/
def execCadenceProfileSet (t p : Nat) (k : Packet) (s : State) : Host.Outcome State Fault Refusal :=
  .next (runCommand cadenceProfileSetSpec t p k s)

/-- CADENCE_SET (R478). -/
def execCadenceSet (t p : Nat) (k : Packet) (s : State) : Host.Outcome State Fault Refusal :=
  .next (runCommand cadenceSetSpec t p k s)

/-- CADENCE_QUERY (R472). -/
def execCadenceQuery (t p : Nat) (k : Packet) (s : State) : Host.Outcome State Fault Refusal :=
  .next (runCommand cadenceQuerySpec t p k s)

/-- CADENCE_RELEARN (R469). -/
def execCadenceRelearn (t p : Nat) (k : Packet) (s : State) : Host.Outcome State Fault Refusal :=
  .next (runCommand cadenceRelearnSpec t p k s)

/-- SOURCE_SET (R474). -/
def execSourceSet (t p : Nat) (k : Packet) (s : State) : Host.Outcome State Fault Refusal :=
  .next (runCommand sourceSetSpec t p k s)

/-- CONTAIN_BUDGET_SET (R477). -/
def execContainBudgetSet (t p : Nat) (k : Packet) (s : State) : Host.Outcome State Fault Refusal :=
  .next (runCommand containBudgetSetSpec t p k s)

/-- CONTAIN_RELEASE (R463). -/
def execContainRelease (t p : Nat) (k : Packet) (s : State) : Host.Outcome State Fault Refusal :=
  .next (runCommand containReleaseSpec t p k s)

/-- CONTAIN_QUERY (R472). -/
def execContainQuery (t p : Nat) (k : Packet) (s : State) : Host.Outcome State Fault Refusal :=
  .next (runCommand containQuerySpec t p k s)

/-- POL_COUNTERS (R471). -/
def execPolCounters (t p : Nat) (k : Packet) (s : State) : Host.Outcome State Fault Refusal :=
  .next (runCommand polCountersSpec t p k s)

/-- FLOW_COUNTERS (R442). -/
def execFlowCounters (t p : Nat) (k : Packet) (s : State) : Host.Outcome State Fault Refusal :=
  .next (runCommand flowCountersSpec t p k s)

end Sys2Proof.Machine
end

