-- ==== Sys2Proof/Machine/PolicingEventMeanings.lean ====
section
/-!
DEFINITION. The meanings of the events of policing and cadence.
-/
namespace Sys2Proof.Machine

/-- CADENCE_MISS (R458). -/
def execCadenceMiss (t f : Nat) (s : State) : Host.Outcome State Fault Refusal :=
  .next (whenRuns t (fun s => cadenceMissed f s) s)

/-- CONTAIN_HOLD_END (R463). -/
def execContainHoldEnd (t kind target : Nat) (s : State) : Host.Outcome State Fault Refusal :=
  .next (whenRuns t (fun s => containHoldEnd kind target s) s)

end Sys2Proof.Machine
end

