-- ==== Sys2Proof/Machine/PortCommandMeanings.lean ====
section
/-!
DEFINITION. The meanings of the commands of unit class 0: bus ports, links as ports and host ports.
-/
namespace Sys2Proof.Machine

/-- HOSTPORT_QUERY (R173). -/
def execHostportQuery (t p : Nat) (k : Packet) (s : State) : Host.Outcome State Fault Refusal :=
  .next (runCommand hostportQuerySpec t p k s)

/-- HOSTS_CONFIG (R158). -/
def execHostsConfig (t p : Nat) (k : Packet) (s : State) : Host.Outcome State Fault Refusal :=
  .next (runCommand hostsConfigSpec t p k s)

/-- PORT_ADMIN (R178). -/
def execPortAdmin (t p : Nat) (k : Packet) (s : State) : Host.Outcome State Fault Refusal :=
  .next (runCommand portAdminSpec t p k s)

/-- PORT_QUERY (R238). -/
def execPortQuery (t p : Nat) (k : Packet) (s : State) : Host.Outcome State Fault Refusal :=
  .next (runCommand portQuerySpec t p k s)

/-- PORT_COUNTERS (R181). -/
def execPortCounters (t p : Nat) (k : Packet) (s : State) : Host.Outcome State Fault Refusal :=
  .next (runCommand portCountersSpec t p k s)

/-- PORT_TS_CORR (R226). -/
def execPortTsCorr (t p : Nat) (k : Packet) (s : State) : Host.Outcome State Fault Refusal :=
  .next (runCommand portTsCorrSpec t p k s)

/-- TRX_MODE_SET (R231). -/
def execTrxModeSet (t p : Nat) (k : Packet) (s : State) : Host.Outcome State Fault Refusal :=
  .next (runCommand trxModeSetSpec t p k s)

/-- WAKE_DETECT_SET (R235). -/
def execWakeDetectSet (t p : Nat) (k : Packet) (s : State) : Host.Outcome State Fault Refusal :=
  .next (runCommand wakeDetectSetSpec t p k s)

/-- CAN_CONFIG (R187). -/
def execCanConfig (t p : Nat) (k : Packet) (s : State) : Host.Outcome State Fault Refusal :=
  .next (runCommand canConfigSpec t p k s)

/-- CAN_BITTIME (R187). -/
def execCanBittime (t p : Nat) (k : Packet) (s : State) : Host.Outcome State Fault Refusal :=
  .next (runCommand canBittimeSpec t p k s)

/-- CAN_RESTRICT (R194). -/
def execCanRestrict (t p : Nat) (k : Packet) (s : State) : Host.Outcome State Fault Refusal :=
  .next (runCommand canRestrictSpec t p k s)

/-- CAN_RECOVER (R190). -/
def execCanRecover (t p : Nat) (k : Packet) (s : State) : Host.Outcome State Fault Refusal :=
  .next (runCommand canRecoverSpec t p k s)

/-- LIN_CONFIG (R200). -/
def execLinConfig (t p : Nat) (k : Packet) (s : State) : Host.Outcome State Fault Refusal :=
  .next (runCommand linConfigSpec t p k s)

/-- LIN_SCHEDULE_SET (R201). -/
def execLinScheduleSet (t p : Nat) (k : Packet) (s : State) : Host.Outcome State Fault Refusal :=
  .next (runCommand linScheduleSetSpec t p k s)

/-- LIN_SCHEDULE_SELECT (R203). -/
def execLinScheduleSelect (t p : Nat) (k : Packet) (s : State) : Host.Outcome State Fault Refusal :=
  .next (runCommand linScheduleSelectSpec t p k s)

/-- ETH_CONFIG (R233). -/
def execEthConfig (t p : Nat) (k : Packet) (s : State) : Host.Outcome State Fault Refusal :=
  .next (runCommand ethConfigSpec t p k s)

/-- ETH_FLOWCTL (R239). -/
def execEthFlowctl (t p : Nat) (k : Packet) (s : State) : Host.Outcome State Fault Refusal :=
  .next (runCommand ethFlowctlSpec t p k s)

/-- T1S_PLCA (R210). -/
def execT1sPlca (t p : Nat) (k : Packet) (s : State) : Host.Outcome State Fault Refusal :=
  .next (runCommand t1sPlcaSpec t p k s)

/-- MDIO_ACCESS (R234). -/
def execMdioAccess (t p : Nat) (k : Packet) (s : State) : Host.Outcome State Fault Refusal :=
  .next (runCommand mdioAccessSpec t p k s)

/-- LNK_CONFIG (R695). -/
def execLnkConfig (t p : Nat) (k : Packet) (s : State) : Host.Outcome State Fault Refusal :=
  .next (runCommand lnkConfigSpec t p k s)

/-- LNK_QUERY (R752). -/
def execLnkQuery (t p : Nat) (k : Packet) (s : State) : Host.Outcome State Fault Refusal :=
  .next (runCommand lnkQuerySpec t p k s)

/-- LNK_COUNTERS (R751). -/
def execLnkCounters (t p : Nat) (k : Packet) (s : State) : Host.Outcome State Fault Refusal :=
  .next (runCommand lnkCountersSpec t p k s)

end Sys2Proof.Machine
end

