-- ==== Sys2Proof/Machine/PortEventMeanings.lean ====
section
/-!
DEFINITION. The meanings of the events of the wired ports.
-/
namespace Sys2Proof.Machine

/-- CAN_INTEGRATED (R177). -/
def execCanIntegrated (t g : Nat) (s : State) : Host.Outcome State Fault Refusal :=
  .next (whenRuns t (fun s => only (isCan g) (canIntegrate g) s) s)

/-- CAN_RX_FRAME (R199). -/
def execCanRxFrame (t g : Nat) (c : CanFrame) (shown cap sofDelta rxErr : Nat) (s : State) : Host.Outcome State Fault Refusal :=
  .next (whenRuns t (fun s => only (isCan g) (canRx g c shown cap sofDelta rxErr) s) s)

/-- CAN_TX_ATTEMPT_END (R191). -/
def execCanTxAttemptEnd (t g res cap tdc : Nat) (s : State) : Host.Outcome State Fault Refusal :=
  .next (whenRuns t (fun s => only (isCan g) (canTxEnd g res cap tdc) s) s)

/-- BUS_OFF_RECOVERED (R190). -/
def execBusOffRecovered (t g : Nat) (s : State) : Host.Outcome State Fault Refusal :=
  .next (whenRuns t (fun s => only (isCan g) (busOffRecovered g) s) s)

/-- TRAILER_PRESENCE_EXPIRY (R196). -/
def execTrailerPresenceExpiry (t g : Nat) (s : State) : Host.Outcome State Fault Refusal :=
  .next (whenRuns t (fun s => only (isCan g) (trailerExpiry g) s) s)

/-- GTS_HOLD_END (R230). -/
def execGtsHoldEnd (t g : Nat) (s : State) : Host.Outcome State Fault Refusal :=
  .next (whenRuns t (fun s => only (isCan g) (gtsHoldEnd g) s) s)

/-- LIN_SLOT_START (R201). -/
def execLinSlotStart (t g : Nat) (ok : Bool) (cap : Nat) (s : State) : Host.Outcome State Fault Refusal :=
  .next (whenRuns t (fun s => only (isLin g) (linSlot g ok cap) s) s)

/-- LIN_RX_FRAME (R206). -/
def execLinRxFrame (t g : Nat) (hdr : Bool) (id err baud : Nat) (ok : Bool) (data : Bytes) (cap sofDelta : Nat) (s : State) : Host.Outcome State Fault Refusal :=
  .next (whenRuns t (fun s => only (isLin g) (if hdr then linHeader g id err baud ok cap else linResponse g data err cap sofDelta) s) s)

/-- LIN_RESPONSE_TIMEOUT (R200). -/
def execLinResponseTimeout (t g : Nat) (s : State) : Host.Outcome State Fault Refusal :=
  .next (whenRuns t (fun s => only (isLin g) (linTimeout g) s) s)

/-- ETH_RX_FRAME (R212). -/
def execEthRxFrame (t g : Nat) (data : Bytes) (shown cap : Nat) (lane4 head : Bool) (s : State) : Host.Outcome State Fault Refusal :=
  .next (whenRuns t (fun s => only (isEth g) (if head then ethHead g data cap lane4 else ethRx g data shown cap lane4) s) s)

/-- PAUSE_WINDOW_END (R215). -/
def execPauseWindowEnd (t g : Nat) (s : State) : Host.Outcome State Fault Refusal :=
  .next (whenRuns t (fun s => only (isEth g) (pauseWindowEnd g) s) s)

/-- PCS_LOCK_CHANGE (R177). -/
def execPcsLockChange (t g : Nat) (ok : Bool) (s : State) : Host.Outcome State Fault Refusal :=
  .next (whenRuns t (fun s => only (isEth g) (pcsLock g ok) s) s)

/-- PLCA_STATUS (R177). -/
def execPlcaStatus (t g : Nat) (ok : Bool) (s : State) : Host.Outcome State Fault Refusal :=
  .next (whenRuns t (fun s => only (isT1s g) (plcaStatus g ok) s) s)

/-- PREEMPT_VERIFY (R211). -/
def execPreemptVerify (t g : Nat) (ok : Bool) (s : State) : Host.Outcome State Fault Refusal :=
  .next (whenRuns t (fun s => only (isEth g) (preemptVerify g ok) s) s)

/-- PHY_RESET_RELEASE (R233). -/
def execPhyResetRelease (t g : Nat) (s : State) : Host.Outcome State Fault Refusal :=
  .next (whenRuns t (fun s => only (isEth g) (phyResetRelease g) s) s)

/-- WAKE_DETECT (R235). -/
def execWakeDetect (t g src n k : Nat) (s : State) : Host.Outcome State Fault Refusal :=
  .next (whenAny t (fun s => wakeDetect g src n k s) s)

/-- WAKE_PATTERN_TIMEOUT (R235). -/
def execWakePatternTimeout (t _g : Nat) (s : State) : Host.Outcome State Fault Refusal :=
  .next (atTime t s)

/-- BUS_IDLE (R786). -/
def execBusIdle (t g ovl : Nat) (s : State) : Host.Outcome State Fault Refusal :=
  .next (whenRuns t (fun s => only (isCan g || isLin g) (busIdle g ovl) s) s)

end Sys2Proof.Machine
end

