-- ==== Sys2Proof/Machine/PowerCommandMeanings.lean ====
section
/-!
DEFINITION. The meanings of the commands of unit class 7: power and start-up.
-/
namespace Sys2Proof.Machine

/-- MODE_REQUEST (R622). -/
def execModeRequest (t p : Nat) (k : Packet) (s : State) : Host.Outcome State Fault Refusal :=
  .next (runCommand modeRequestSpec t p k s)

/-- MODE_QUERY (R657). -/
def execModeQuery (t p : Nat) (k : Packet) (s : State) : Host.Outcome State Fault Refusal :=
  .next (runCommand modeQuerySpec t p k s)

/-- BREEZE_CONFIG (R657). -/
def execBreezeConfig (t p : Nat) (k : Packet) (s : State) : Host.Outcome State Fault Refusal :=
  .next (runCommand breezeConfigSpec t p k s)

/-- POWER_BANK_SET (R649). -/
def execPowerBankSet (t p : Nat) (k : Packet) (s : State) : Host.Outcome State Fault Refusal :=
  .next (runCommand powerBankSetSpec t p k s)

/-- FB_SEGMENT_SET (R650). -/
def execFbSegmentSet (t p : Nat) (k : Packet) (s : State) : Host.Outcome State Fault Refusal :=
  .next (runCommand fbSegmentSetSpec t p k s)

/-- COMPARATOR_SET (R614). -/
def execComparatorSet (t p : Nat) (k : Packet) (s : State) : Host.Outcome State Fault Refusal :=
  .next (runCommand comparatorSetSpec t p k s)

/-- DEVICE_RESET (R657). -/
def execDeviceReset (t p : Nat) (k : Packet) (s : State) : Host.Outcome State Fault Refusal :=
  .next (runCommand deviceResetSpec t p k s)

/-- IMAGE_ERASE (R642). -/
def execImageErase (t p : Nat) (k : Packet) (s : State) : Host.Outcome State Fault Refusal :=
  .next (runCommand imageEraseSpec t p k s)

/-- IMAGE_WRITE (R642). -/
def execImageWrite (t p : Nat) (k : Packet) (s : State) : Host.Outcome State Fault Refusal :=
  .next (runCommand imageWriteSpec t p k s)

/-- IMAGE_VERIFY (R642). -/
def execImageVerify (t p : Nat) (k : Packet) (s : State) : Host.Outcome State Fault Refusal :=
  .next (runCommand imageVerifySpec t p k s)

/-- FW_ACTIVATE (R645). -/
def execFwActivate (t p : Nat) (k : Packet) (s : State) : Host.Outcome State Fault Refusal :=
  .next (runCommand fwActivateSpec t p k s)

/-- CFG_ACTIVATE (R644). -/
def execCfgActivate (t p : Nat) (k : Packet) (s : State) : Host.Outcome State Fault Refusal :=
  .next (runCommand cfgActivateSpec t p k s)

/-- IMAGE_CONFIRM (R642). -/
def execImageConfirm (t p : Nat) (k : Packet) (s : State) : Host.Outcome State Fault Refusal :=
  .next (runCommand imageConfirmSpec t p k s)

/-- IMAGE_QUERY (R657). -/
def execImageQuery (t p : Nat) (k : Packet) (s : State) : Host.Outcome State Fault Refusal :=
  .next (runCommand imageQuerySpec t p k s)

/-- CFG_AUTHORITY_SET (R635). -/
def execCfgAuthoritySet (t p : Nat) (k : Packet) (s : State) : Host.Outcome State Fault Refusal :=
  .next (runCommand cfgAuthoritySetSpec t p k s)

/-- PWR_COUNTERS (R656). -/
def execPwrCounters (t p : Nat) (k : Packet) (s : State) : Host.Outcome State Fault Refusal :=
  .next (runCommand pwrCountersSpec t p k s)

end Sys2Proof.Machine
end

