-- ==== Sys2Proof/Machine/PowerEventMeanings.lean ====
section
/-!
DEFINITION. The meanings of the events of power and start-up.
-/
namespace Sys2Proof.Machine

/-- SEGMENT_OFF (R333). -/
def execSegmentOff (t k : Nat) (s : State) : Host.Outcome State Fault Refusal :=
  .next (whenRuns t (fun s => segmentOff k s) s)

/-- IMAGE_ERASE_COMPLETE (R642). -/
def execImageEraseComplete (t slot : Nat) (ok : Bool) (s : State) : Host.Outcome State Fault Refusal :=
  .next (whenRuns t (fun s => eraseDone slot ok s) s)

/-- IMAGE_VERIFY_COMPLETE (R636). -/
def execImageVerifyComplete (t slot : Nat) (readErr : Bool) (s : State) : Host.Outcome State Fault Refusal :=
  .next (whenRuns t (fun s => verifyDone slot readErr s) s)

/-- HITLESS_COMPLETE (R646). -/
def execHitlessComplete (t : Nat) (ok : Bool) (s : State) : Host.Outcome State Fault Refusal :=
  .next (whenRuns t (fun s => hitlessDone ok s) s)

/-- COMPARATOR_DETECT (R615). -/
def execComparatorDetect (t c : Nat) (on : Bool) (s : State) : Host.Outcome State Fault Refusal :=
  .next (whenAny t (fun s => comparatorDetect c on s) s)

/-- PORST (R612). -/
def execPorst (t : Nat) (low : Bool) (s : State) : Host.Outcome State Fault Refusal :=
  .next ((fun s => porstPin low s) (atTime t s))

/-- SYS_RST (R768). -/
def execSysRst (t : Nat) (low : Bool) (s : State) : Host.Outcome State Fault Refusal :=
  .next ((fun s => sysRstPin low s) (atTime t s))

/-- PWR_GOOD_FALL (R613). -/
def execPwrGoodFall (t : Nat) (s : State) : Host.Outcome State Fault Refusal :=
  .next ((fun s => pwrGoodFall s) (atTime t s))

/-- PWR_GOOD_RISE (R611). -/
def execPwrGoodRise (t : Nat) (s : State) : Host.Outcome State Fault Refusal :=
  .next (whenAny t (fun s => pwrGoodRise s) s)

/-- PWR_GOOD_TIMEOUT (R611). -/
def execPwrGoodTimeout (t : Nat) (s : State) : Host.Outcome State Fault Refusal :=
  .next ((fun s => pwrGoodTimeout s) (atTime t s))

/-- SLOWCLK_STABLE (R766). -/
def execSlowclkStable (t : Nat) (s : State) : Host.Outcome State Fault Refusal :=
  .next (whenAny t (fun s => slowclkStable s) s)

/-- START_UP (R630). -/
def execStartUp (t rst n : Nat) (lbist : Option Nat) (unread : List Nat) (trained pcie : Bool) (s : State) : Host.Outcome State Fault Refusal :=
  .next ((fun s => startUp rst n lbist unread trained pcie s) (atTime t s))

/-- SLEEP_ENTRY (R625). -/
def execSleepEntry (t : Nat) (s : State) : Host.Outcome State Fault Refusal :=
  .next (whenModes t (fun s => sleepEntry s) s)

/-- ZEPHYR_RESUME (R627). -/
def execZephyrResume (t rst n : Nat) (h : Bytes) (lbist : Option Nat) (s : State) : Host.Outcome State Fault Refusal :=
  .next ((fun s => zephyrResume rst n h lbist s) (atTime t s))

/-- CALM_AFTER_EXPIRY (R622). -/
def execCalmAfterExpiry (t : Nat) (s : State) : Host.Outcome State Fault Refusal :=
  .next ((fun s => calmAfterExpiry s) (atTime t s))

/-- ATELIER_EXPIRY (R628). -/
def execAtelierExpiry (t : Nat) (s : State) : Host.Outcome State Fault Refusal :=
  .next (whenRuns t (fun s => atelierExpiry s) s)

/-- MODE_TRANSITION_DONE (R622). -/
def execModeTransitionDone (t : Nat) (s : State) : Host.Outcome State Fault Refusal :=
  .next (whenModes t (fun s => transitionDone s) s)

/-- LEDGER_PERSIST (R745). -/
def execLedgerPersist (t : Nat) (s : State) : Host.Outcome State Fault Refusal :=
  .next (whenRuns t (fun s => ledgerPersist s) s)

/-- VSTBY_1V8_DROP (R765). -/
def execVstby1v8Drop (t : Nat) (s : State) : Host.Outcome State Fault Refusal :=
  .next ((fun s => standbyDrop s) (atTime t s))

/-- MONOTONIC_COUNTER_WRITE (R653). -/
def execMonotonicCounterWrite (t id : Nat) (s : State) : Host.Outcome State Fault Refusal :=
  .next (whenRuns t (fun s => monoStep id s) s)

end Sys2Proof.Machine
end

