-- ==== Sys2Proof/Machine/SafetyCommandMeanings.lean ====
section
/-!
DEFINITION. The meanings of the commands of unit class 10: functional safety.
-/
namespace Sys2Proof.Machine

/-- SAFETY_QUERY (R752). -/
def execSafetyQuery (t p : Nat) (k : Packet) (s : State) : Host.Outcome State Fault Refusal :=
  .next (runCommand safetyQuerySpec t p k s)

/-- LEE_CONFIG (R737). -/
def execLeeConfig (t p : Nat) (k : Packet) (s : State) : Host.Outcome State Fault Refusal :=
  .next (runCommand leeConfigSpec t p k s)

/-- LEE_ENTER (R737). -/
def execLeeEnter (t p : Nat) (k : Packet) (s : State) : Host.Outcome State Fault Refusal :=
  .next (runCommand leeEnterSpec t p k s)

/-- LEE_EXIT (R738). -/
def execLeeExit (t p : Nat) (k : Packet) (s : State) : Host.Outcome State Fault Refusal :=
  .next (runCommand leeExitSpec t p k s)

/-- LEDGER_READ (R742). -/
def execLedgerRead (t p : Nat) (k : Packet) (s : State) : Host.Outcome State Fault Refusal :=
  .next (runCommand ledgerReadSpec t p k s)

/-- LEDGER_CLEAR (R746). -/
def execLedgerClear (t p : Nat) (k : Packet) (s : State) : Host.Outcome State Fault Refusal :=
  .next (runCommand ledgerClearSpec t p k s)

/-- SAFETY_COUNTERS (R751). -/
def execSafetyCounters (t p : Nat) (k : Packet) (s : State) : Host.Outcome State Fault Refusal :=
  .next (runCommand safetyCountersSpec t p k s)

end Sys2Proof.Machine
end

