-- ==== Sys2Proof/Machine/SafetyEventMeanings.lean ====
section
/-!
DEFINITION. The meanings of the events of functional safety.
-/
namespace Sys2Proof.Machine

/-- WATCHDOG_EXPIRY (R735). -/
def execWatchdogExpiry (t : Nat) (s : State) : Host.Outcome State Fault Refusal :=
  .next (thenReset t (fun s => only (tsclkRuns s) watchdogExpiry s) s)

/-- LBIST_SLOT (R736). -/
def execLbistSlot (t len : Nat) (pass : Bool) (s : State) : Host.Outcome State Fault Refusal :=
  .next (whenRuns t (fun s => lbistSlot len pass s) s)

/-- FORWARDING_MONITOR (R734). -/
def execForwardingMonitor (t : Nat) (s : State) : Host.Outcome State Fault Refusal :=
  .next (whenRuns t (fun s => forwardingMonitor s) s)

/-- CLOCK_MONITOR (R33). -/
def execClockMonitor (t n : Nat) (ok : Bool) (s : State) : Host.Outcome State Fault Refusal :=
  .next (thenReset t (fun s => clockMonitor n ok s) s)

/-- LOCKSTEP_MISMATCH (R734). -/
def execLockstepMismatch (t n : Nat) (s : State) : Host.Outcome State Fault Refusal :=
  .next (thenReset t (fun s => only (tsclkRuns s) (lockstepMismatch n) s) s)

/-- SUPPLY_MONITOR (R734). -/
def execSupplyMonitor (t which : Nat) (out : Bool) (s : State) : Host.Outcome State Fault Refusal :=
  .next (whenRuns t (fun s => supplyMonitor which out s) s)

/-- STATE_COMPARE (R739). -/
def execStateCompare (t : Nat) (diff : List (Nat × Nat × Nat × Nat)) (started : List (Nat × Nat)) (s : State) : Host.Outcome State Fault Refusal :=
  .next (whenRuns t (fun s => stateCompare diff started s) s)

end Sys2Proof.Machine
end

