-- ==== Sys2Proof/Machine/SleepCommandMeanings.lean ====
section
/-!
DEFINITION. The meanings of the commands of unit class 8: network sleep.
-/
namespace Sys2Proof.Machine

/-- SLEEP_RING_SET (R692). -/
def execSleepRingSet (t p : Nat) (k : Packet) (s : State) : Host.Outcome State Fault Refusal :=
  .next (runCommand sleepRingSetSpec t p k s)

/-- PN_SET (R679). -/
def execPnSet (t p : Nat) (k : Packet) (s : State) : Host.Outcome State Fault Refusal :=
  .next (runCommand pnSetSpec t p k s)

/-- SLEEP_HOLD (R670). -/
def execSleepHold (t p : Nat) (k : Packet) (s : State) : Host.Outcome State Fault Refusal :=
  .next (runCommand sleepHoldSpec t p k s)

/-- WAKE_PORT_SET (R684). -/
def execWakePortSet (t p : Nat) (k : Packet) (s : State) : Host.Outcome State Fault Refusal :=
  .next (runCommand wakePortSetSpec t p k s)

/-- WAKE_FRAME_SET (R683). -/
def execWakeFrameSet (t p : Nat) (k : Packet) (s : State) : Host.Outcome State Fault Refusal :=
  .next (runCommand wakeFrameSetSpec t p k s)

/-- WAKE_NETWORK (R683). -/
def execWakeNetwork (t p : Nat) (k : Packet) (s : State) : Host.Outcome State Fault Refusal :=
  .next (runCommand wakeNetworkSpec t p k s)

/-- SLEEP_QUERY (R691). -/
def execSleepQuery (t p : Nat) (k : Packet) (s : State) : Host.Outcome State Fault Refusal :=
  .next (runCommand sleepQuerySpec t p k s)

/-- CONSENT_RING_QUERY (R691). -/
def execConsentRingQuery (t p : Nat) (k : Packet) (s : State) : Host.Outcome State Fault Refusal :=
  .next (runCommand consentRingQuerySpec t p k s)

/-- SLEEP_COUNTERS (R690). -/
def execSleepCounters (t p : Nat) (k : Packet) (s : State) : Host.Outcome State Fault Refusal :=
  .next (runCommand sleepCountersSpec t p k s)

end Sys2Proof.Machine
end

