-- ==== Sys2Proof/Machine/SleepEventMeanings.lean ====
section
/-!
DEFINITION. The meanings of the events of network sleep.
-/
namespace Sys2Proof.Machine

/-- RING_MESSAGE_RX (R664). -/
def execRingMessageRx (t g : Nat) (m : Bytes) (stamp : Nat) (s : State) : Host.Outcome State Fault Refusal :=
  .next (whenRuns t (fun s => ringRx g m stamp s) s)

/-- TOKEN_PASS (R668). -/
def execTokenPass (t : Nat) (s : State) : Host.Outcome State Fault Refusal :=
  .next (whenRuns t (fun s => tokenPass s) s)

/-- JOIN_TIMEOUT (R667). -/
def execJoinTimeout (t : Nat) (s : State) : Host.Outcome State Fault Refusal :=
  .next (whenRuns t (fun s => joinTimeout s) s)

/-- TOKEN_TIMEOUT (R669). -/
def execTokenTimeout (t : Nat) (s : State) : Host.Outcome State Fault Refusal :=
  .next (whenRuns t (fun s => tokenTimeoutEnd s) s)

/-- TOKEN_LOST (R669). -/
def execTokenLost (t : Nat) (s : State) : Host.Outcome State Fault Refusal :=
  .next (whenRuns t (fun s => tokenLost s) s)

/-- OBJECTION_WINDOW_END (R673). -/
def execObjectionWindowEnd (t : Nat) (s : State) : Host.Outcome State Fault Refusal :=
  .next (whenRuns t (fun s => objectionEnd s) s)

/-- AWAKE_WINDOW_END (R688). -/
def execAwakeWindowEnd (t : Nat) (s : State) : Host.Outcome State Fault Refusal :=
  .next (whenRuns t (fun s => awakeEnd s) s)

/-- FALSE_WAKE_WINDOW_END (R686). -/
def execFalseWakeWindowEnd (t g : Nat) (s : State) : Host.Outcome State Fault Refusal :=
  .next (whenRuns t (fun s => falseWakeEnd g s) s)

/-- TC10_POLL (R684). -/
def execTc10Poll (t g stat : Nat) (s : State) : Host.Outcome State Fault Refusal :=
  .next (whenRuns t (fun s => tc10Poll g stat s) s)

/-- TC10_WINDOW_END (R684). -/
def execTc10WindowEnd (t g : Nat) (s : State) : Host.Outcome State Fault Refusal :=
  .next (whenRuns t (fun s => tc10End g s) s)

end Sys2Proof.Machine
end

