-- ==== Sys2Proof/Machine/SwitchCommandMeanings.lean ====
section
/-!
DEFINITION. The meanings of the commands of unit class 1: switch fabric.
-/
namespace Sys2Proof.Machine

/-- BUF_ACCOUNT_SET (R341). -/
def execBufAccountSet (t p : Nat) (k : Packet) (s : State) : Host.Outcome State Fault Refusal :=
  .next (runCommand bufAccountSetSpec t p k s)

/-- BUF_FC_SET (R381). -/
def execBufFcSet (t p : Nat) (k : Packet) (s : State) : Host.Outcome State Fault Refusal :=
  .next (runCommand bufFcSetSpec t p k s)

/-- BUF_QUERY (R380). -/
def execBufQuery (t p : Nat) (k : Packet) (s : State) : Host.Outcome State Fault Refusal :=
  .next (runCommand bufQuerySpec t p k s)

/-- QUEUE_SET (R350). -/
def execQueueSet (t p : Nat) (k : Packet) (s : State) : Host.Outcome State Fault Refusal :=
  .next (runCommand queueSetSpec t p k s)

/-- SPILL_CONFIG (R334). -/
def execSpillConfig (t p : Nat) (k : Packet) (s : State) : Host.Outcome State Fault Refusal :=
  .next (runCommand spillConfigSpec t p k s)

/-- SPILL_QUEUE (R334). -/
def execSpillQueue (t p : Nat) (k : Packet) (s : State) : Host.Outcome State Fault Refusal :=
  .next (runCommand spillQueueSpec t p k s)

/-- CUT_THROUGH_SET (R359). -/
def execCutThroughSet (t p : Nat) (k : Packet) (s : State) : Host.Outcome State Fault Refusal :=
  .next (runCommand cutThroughSetSpec t p k s)

/-- PREEMPT_CLASSES (R369). -/
def execPreemptClasses (t p : Nat) (k : Packet) (s : State) : Host.Outcome State Fault Refusal :=
  .next (runCommand preemptClassesSpec t p k s)

/-- GATE_LIST_SET (R363). -/
def execGateListSet (t p : Nat) (k : Packet) (s : State) : Host.Outcome State Fault Refusal :=
  .next (runCommand gateListSetSpec t p k s)

/-- GATE_ENABLE (R362). -/
def execGateEnable (t p : Nat) (k : Packet) (s : State) : Host.Outcome State Fault Refusal :=
  .next (runCommand gateEnableSpec t p k s)

/-- GATE_QUERY (R363). -/
def execGateQuery (t p : Nat) (k : Packet) (s : State) : Host.Outcome State Fault Refusal :=
  .next (runCommand gateQuerySpec t p k s)

/-- REPL_SET (R358). -/
def execReplSet (t p : Nat) (k : Packet) (s : State) : Host.Outcome State Fault Refusal :=
  .next (runCommand replSetSpec t p k s)

/-- REPL_QUERY (R380). -/
def execReplQuery (t p : Nat) (k : Packet) (s : State) : Host.Outcome State Fault Refusal :=
  .next (runCommand replQuerySpec t p k s)

/-- FRER_SEQGEN_SET (R374). -/
def execFrerSeqgenSet (t p : Nat) (k : Packet) (s : State) : Host.Outcome State Fault Refusal :=
  .next (runCommand frerSeqgenSetSpec t p k s)

/-- FRER_RECOVERY_SET (R375). -/
def execFrerRecoverySet (t p : Nat) (k : Packet) (s : State) : Host.Outcome State Fault Refusal :=
  .next (runCommand frerRecoverySetSpec t p k s)

/-- FRER_QUERY (R380). -/
def execFrerQuery (t p : Nat) (k : Packet) (s : State) : Host.Outcome State Fault Refusal :=
  .next (runCommand frerQuerySpec t p k s)

/-- FRER_RESET (R375). -/
def execFrerReset (t p : Nat) (k : Packet) (s : State) : Host.Outcome State Fault Refusal :=
  .next (runCommand frerResetSpec t p k s)

/-- SW_COUNTERS (R379). -/
def execSwCounters (t p : Nat) (k : Packet) (s : State) : Host.Outcome State Fault Refusal :=
  .next (runCommand swCountersSpec t p k s)

end Sys2Proof.Machine
end

