-- ==== Sys2Proof/Machine/SwitchEventMeanings.lean ====
section
/-!
DEFINITION. The meanings of the events of the switch fabric.
-/
namespace Sys2Proof.Machine

/-- PFC_REFRESH (R342). -/
def execPfcRefresh (t g c : Nat) (s : State) : Host.Outcome State Fault Refusal :=
  .next (whenRuns t (fun s => pfcRefresh g c s) s)

/-- FRER_RESET_TIMER (R375). -/
def execFrerResetTimer (t f : Nat) (s : State) : Host.Outcome State Fault Refusal :=
  .next (whenRuns t (fun s => frerTimer f s) s)

/-- EGRESS_SELECT (R327). -/
def execEgressSelect (t g cap : Nat) (lane4 : Bool) (s : State) : Host.Outcome State Fault Refusal :=
  .next (whenRuns t (fun s => egressSelect g cap lane4 s) s)

/-- TX_COMPLETE (R357). -/
def execTxComplete (t g coll : Nat) (s : State) : Host.Outcome State Fault Refusal :=
  .next (whenRuns t (fun s => txComplete g (only (isT1s g) (bumpBy (portCtr g 0x0198) coll) s)) s)

/-- GATE_WITHDRAW (R366). -/
def execGateWithdraw (t g : Nat) (s : State) : Host.Outcome State Fault Refusal :=
  .next (whenRuns t (fun s => only (isCan g) (gateWithdraw g) s) s)

/-- GATE_CYCLE_START (R499). -/
def execGateCycleStart (t : Nat) (stream : Bool) (n : Nat) (s : State) : Host.Outcome State Fault Refusal :=
  .next (whenRuns t (fun s => gateCycleStart stream n s) s)

/-- GATE_APPLIED (R363). -/
def execGateApplied (t : Nat) (stream : Bool) (n : Nat) (s : State) : Host.Outcome State Fault Refusal :=
  .next (whenRuns t (fun s => gateApplied stream n s) s)

/-- GATE_ENTRY_CHANGE (R361). -/
def execGateEntryChange (t : Nat) (stream : Bool) (n : Nat) (s : State) : Host.Outcome State Fault Refusal :=
  .next (whenRuns t (fun s => gateEntryChange stream n s) s)

/-- PREEMPT_FRAGMENT (R368). -/
def execPreemptFragment (t g n : Nat) (s : State) : Host.Outcome State Fault Refusal :=
  .next (whenRuns t (fun s => only (isEth g) (preemptFragment g n) s) s)

/-- RESIDENCE_SWEEP (R351). -/
def execResidenceSweep (t g : Nat) (s : State) : Host.Outcome State Fault Refusal :=
  .next (whenRuns t (fun s => residenceSweep g s) s)

/-- SPILL_OUT (R335). -/
def execSpillOut (t g c : Nat) (s : State) : Host.Outcome State Fault Refusal :=
  .next (whenRuns t (fun s => spillOut g c s) s)

/-- SPILL_IN (R335). -/
def execSpillIn (t g c : Nat) (bad : Bool) (s : State) : Host.Outcome State Fault Refusal :=
  .next (whenRuns t (fun s => spillIn g c bad s) s)

/-- LPDDR5_UNAVAILABLE (R337). -/
def execLpddr5Unavailable (t : Nat) (s : State) : Host.Outcome State Fault Refusal :=
  .next (whenRuns t (fun s => lpddrLost s) s)

/-- ECC_SCRUB (R332). -/
def execEccScrub (t cell kind : Nat) (fid : Option Nat) (unsent : Bool) (s : State) : Host.Outcome State Fault Refusal :=
  .next (whenRuns t (fun s => eccScrub cell kind fid unsent s) s)

/-- PAUSE_RESPONSE_WINDOW_END (R344). -/
def execPauseResponseWindowEnd (t g : Nat) (s : State) : Host.Outcome State Fault Refusal :=
  .next (whenRuns t (fun s => pauseWindowOver g s) s)

end Sys2Proof.Machine
end

