-- ==== Sys2Proof/Machine/TablesCommandMeanings.lean ====
section
/-!
DEFINITION. The meanings of the commands of unit class 2: tables.
-/
namespace Sys2Proof.Machine

/-- TABLE_COMMIT (R387). -/
def execTableCommit (t p : Nat) (k : Packet) (s : State) : Host.Outcome State Fault Refusal :=
  .next (runCommand tableCommitSpec t p k s)

/-- TABLE_DISCARD (R394). -/
def execTableDiscard (t p : Nat) (k : Packet) (s : State) : Host.Outcome State Fault Refusal :=
  .next (runCommand tableDiscardSpec t p k s)

/-- TABLE_GEN_QUERY (R436). -/
def execTableGenQuery (t p : Nat) (k : Packet) (s : State) : Host.Outcome State Fault Refusal :=
  .next (runCommand tableGenQuerySpec t p k s)

/-- TABLE_REHASH (R421). -/
def execTableRehash (t p : Nat) (k : Packet) (s : State) : Host.Outcome State Fault Refusal :=
  .next (runCommand tableRehashSpec t p k s)

/-- SIEVE_RULE_SET (R397). -/
def execSieveRuleSet (t p : Nat) (k : Packet) (s : State) : Host.Outcome State Fault Refusal :=
  .next (runCommand sieveRuleSetSpec t p k s)

/-- SIEVE_RULE_QUERY (R436). -/
def execSieveRuleQuery (t p : Nat) (k : Packet) (s : State) : Host.Outcome State Fault Refusal :=
  .next (runCommand sieveRuleQuerySpec t p k s)

/-- SIEVE_PORT_SET (R403). -/
def execSievePortSet (t p : Nat) (k : Packet) (s : State) : Host.Outcome State Fault Refusal :=
  .next (runCommand sievePortSetSpec t p k s)

/-- FLOW_SET (R402). -/
def execFlowSet (t p : Nat) (k : Packet) (s : State) : Host.Outcome State Fault Refusal :=
  .next (runCommand flowSetSpec t p k s)

/-- FLOW_QUERY (R403). -/
def execFlowQuery (t p : Nat) (k : Packet) (s : State) : Host.Outcome State Fault Refusal :=
  .next (runCommand flowQuerySpec t p k s)

/-- FDB_ADD (R408). -/
def execFdbAdd (t p : Nat) (k : Packet) (s : State) : Host.Outcome State Fault Refusal :=
  .next (runCommand fdbAddSpec t p k s)

/-- FDB_DELETE (R436). -/
def execFdbDelete (t p : Nat) (k : Packet) (s : State) : Host.Outcome State Fault Refusal :=
  .next (runCommand fdbDeleteSpec t p k s)

/-- FDB_SEARCH (R436). -/
def execFdbSearch (t p : Nat) (k : Packet) (s : State) : Host.Outcome State Fault Refusal :=
  .next (runCommand fdbSearchSpec t p k s)

/-- FDB_NEXT (R437). -/
def execFdbNext (t p : Nat) (k : Packet) (s : State) : Host.Outcome State Fault Refusal :=
  .next (runCommand fdbNextSpec t p k s)

/-- FDB_FLUSH (R420). -/
def execFdbFlush (t p : Nat) (k : Packet) (s : State) : Host.Outcome State Fault Refusal :=
  .next (runCommand fdbFlushSpec t p k s)

/-- FDB_AGE_SET (R416). -/
def execFdbAgeSet (t p : Nat) (k : Packet) (s : State) : Host.Outcome State Fault Refusal :=
  .next (runCommand fdbAgeSetSpec t p k s)

/-- FDB_UNLOCK (R415). -/
def execFdbUnlock (t p : Nat) (k : Packet) (s : State) : Host.Outcome State Fault Refusal :=
  .next (runCommand fdbUnlockSpec t p k s)

/-- CAN_ROUTE_ADD (R423). -/
def execCanRouteAdd (t p : Nat) (k : Packet) (s : State) : Host.Outcome State Fault Refusal :=
  .next (runCommand canRouteAddSpec t p k s)

/-- CAN_ROUTE_DELETE (R436). -/
def execCanRouteDelete (t p : Nat) (k : Packet) (s : State) : Host.Outcome State Fault Refusal :=
  .next (runCommand canRouteDeleteSpec t p k s)

/-- CAN_ROUTE_SEARCH (R436). -/
def execCanRouteSearch (t p : Nat) (k : Packet) (s : State) : Host.Outcome State Fault Refusal :=
  .next (runCommand canRouteSearchSpec t p k s)

/-- CAN_ROUTE_NEXT (R437). -/
def execCanRouteNext (t p : Nat) (k : Packet) (s : State) : Host.Outcome State Fault Refusal :=
  .next (runCommand canRouteNextSpec t p k s)

/-- CAN_MASK_SET (R426). -/
def execCanMaskSet (t p : Nat) (k : Packet) (s : State) : Host.Outcome State Fault Refusal :=
  .next (runCommand canMaskSetSpec t p k s)

/-- LPM_ADD (R428). -/
def execLpmAdd (t p : Nat) (k : Packet) (s : State) : Host.Outcome State Fault Refusal :=
  .next (runCommand lpmAddSpec t p k s)

/-- LPM_DELETE (R436). -/
def execLpmDelete (t p : Nat) (k : Packet) (s : State) : Host.Outcome State Fault Refusal :=
  .next (runCommand lpmDeleteSpec t p k s)

/-- LPM_SEARCH (R436). -/
def execLpmSearch (t p : Nat) (k : Packet) (s : State) : Host.Outcome State Fault Refusal :=
  .next (runCommand lpmSearchSpec t p k s)

/-- LPM_NEXT (R436). -/
def execLpmNext (t p : Nat) (k : Packet) (s : State) : Host.Outcome State Fault Refusal :=
  .next (runCommand lpmNextSpec t p k s)

/-- MAQUETTE_SET (R431). -/
def execMaquetteSet (t p : Nat) (k : Packet) (s : State) : Host.Outcome State Fault Refusal :=
  .next (runCommand maquetteSetSpec t p k s)

/-- TBL_COUNTERS (R435). -/
def execTblCounters (t p : Nat) (k : Packet) (s : State) : Host.Outcome State Fault Refusal :=
  .next (runCommand tblCountersSpec t p k s)

end Sys2Proof.Machine
end

