-- ==== Sys2Proof/Machine/TablesEventMeanings.lean ====
section
/-!
DEFINITION. The meanings of the events of the tables.
-/
namespace Sys2Proof.Machine

/-- FDB_LEARN (R410). -/
def execFdbLearn (t : Nat) (s : State) : Host.Outcome State Fault Refusal :=
  .next (whenRuns t (fun s => fdbLearn s) s)

/-- PATINA_EPOCH (R416). -/
def execPatinaEpoch (t : Nat) (s : State) : Host.Outcome State Fault Refusal :=
  .next (whenRuns t (fun s => patinaEpoch s) s)

/-- FDB_AGE_VISIT (R417). -/
def execFdbAgeVisit (t pos : Nat) (s : State) : Host.Outcome State Fault Refusal :=
  .next (whenRuns t (fun s => fdbAgeVisit pos s) s)

/-- REHASH_COMPLETE (R422). -/
def execRehashComplete (t : Nat) (s : State) : Host.Outcome State Fault Refusal :=
  .next (whenRuns t (fun s => rehashDone s) s)

/-- GENERATION_RETIRE (R390). -/
def execGenerationRetire (t n : Nat) (s : State) : Host.Outcome State Fault Refusal :=
  .next (whenRuns t (fun s => generationRetire n s) s)

/-- FDB_FLUSH_COMPLETE (R420). -/
def execFdbFlushComplete (t : Nat) (s : State) : Host.Outcome State Fault Refusal :=
  .next (whenRuns t (fun s => fdbFlushDone s) s)

/-- MAQUETTE_SCAN (R431). -/
def execMaquetteScan (t : Nat) (s : State) : Host.Outcome State Fault Refusal :=
  .next (whenRuns t (fun s => maquetteScan s) s)

end Sys2Proof.Machine
end

