-- ==== Sys2Proof/Machine/TimeCommandMeanings.lean ====
section
/-!
DEFINITION. The meanings of the commands of unit class 5: time.
-/
namespace Sys2Proof.Machine

/-- TIME_QUERY (R529). -/
def execTimeQuery (t p : Nat) (k : Packet) (s : State) : Host.Outcome State Fault Refusal :=
  .next (runCommand timeQuerySpec t p k s)

/-- TIME_DOMAIN_SET (R530). -/
def execTimeDomainSet (t p : Nat) (k : Packet) (s : State) : Host.Outcome State Fault Refusal :=
  .next (runCommand timeDomainSetSpec t p k s)

/-- TIME_REF_SELECT (R496). -/
def execTimeRefSelect (t p : Nat) (k : Packet) (s : State) : Host.Outcome State Fault Refusal :=
  .next (runCommand timeRefSelectSpec t p k s)

/-- TIME_RTC_SET (R502). -/
def execTimeRtcSet (t p : Nat) (k : Packet) (s : State) : Host.Outcome State Fault Refusal :=
  .next (runCommand timeRtcSetSpec t p k s)

/-- LEGAL_SOURCE_SET (R511). -/
def execLegalSourceSet (t p : Nat) (k : Packet) (s : State) : Host.Outcome State Fault Refusal :=
  .next (runCommand legalSourceSetSpec t p k s)

/-- LEGAL_TIME_PROPOSE (R511). -/
def execLegalTimePropose (t p : Nat) (k : Packet) (s : State) : Host.Outcome State Fault Refusal :=
  .next (runCommand legalTimeProposeSpec t p k s)

/-- LEGAL_TIME_FORCE (R516). -/
def execLegalTimeForce (t p : Nat) (k : Packet) (s : State) : Host.Outcome State Fault Refusal :=
  .next (runCommand legalTimeForceSpec t p k s)

/-- TCAP_SET (R517). -/
def execTcapSet (t p : Nat) (k : Packet) (s : State) : Host.Outcome State Fault Refusal :=
  .next (runCommand tcapSetSpec t p k s)

/-- TCAP_QUERY (R529). -/
def execTcapQuery (t p : Nat) (k : Packet) (s : State) : Host.Outcome State Fault Refusal :=
  .next (runCommand tcapQuerySpec t p k s)

/-- TCMP_SET (R521). -/
def execTcmpSet (t p : Nat) (k : Packet) (s : State) : Host.Outcome State Fault Refusal :=
  .next (runCommand tcmpSetSpec t p k s)

/-- MOTION_INPUT_SET (R523). -/
def execMotionInputSet (t p : Nat) (k : Packet) (s : State) : Host.Outcome State Fault Refusal :=
  .next (runCommand motionInputSetSpec t p k s)

/-- MOTION_SOURCE_SET (R524). -/
def execMotionSourceSet (t p : Nat) (k : Packet) (s : State) : Host.Outcome State Fault Refusal :=
  .next (runCommand motionSourceSetSpec t p k s)

/-- MOTION_PAIR_SET (R525). -/
def execMotionPairSet (t p : Nat) (k : Packet) (s : State) : Host.Outcome State Fault Refusal :=
  .next (runCommand motionPairSetSpec t p k s)

/-- MOTION_QUERY (R529). -/
def execMotionQuery (t p : Nat) (k : Packet) (s : State) : Host.Outcome State Fault Refusal :=
  .next (runCommand motionQuerySpec t p k s)

/-- TIME_COUNTERS (R528). -/
def execTimeCounters (t p : Nat) (k : Packet) (s : State) : Host.Outcome State Fault Refusal :=
  .next (runCommand timeCountersSpec t p k s)

end Sys2Proof.Machine
end

