-- ==== Sys2Proof/Machine/TimeEventMeanings.lean ====
section
/-!
DEFINITION. The meanings of the events of time.
-/
namespace Sys2Proof.Machine

/-- TIME_IT_NS (R490). -/
def execTimeItNs (t reader : Nat) (s : State) : Host.Outcome State Fault Refusal :=
  .next (whenRuns t (fun s => answered (readItNs reader s)) s)

/-- TIME_LEGAL_LO (R490). -/
def execTimeLegalLo (t reader : Nat) (s : State) : Host.Outcome State Fault Refusal :=
  .next (whenRuns t (fun s => answered (readLegalLo reader s)) s)

/-- GPTP_SYNC_RX (R494). -/
def execGptpSyncRx (t d stamp : Nat) (master rr adj : Int) (utc : Option Int) (leap : Int) (s : State) : Host.Outcome State Fault Refusal :=
  .next (whenServo t (fun s => syncRx d stamp master rr adj utc leap s) s)

/-- SYNC_TIMEOUT (R493). -/
def execSyncTimeout (t d : Nat) (s : State) : Host.Outcome State Fault Refusal :=
  .next (whenRuns t (fun s => syncTimeout d s) s)

/-- GPTP_SYNC_TX (R491). -/
def execGptpSyncTx (t d : Nat) (frames : List (Nat × Bytes)) (s : State) : Host.Outcome State Fault Refusal :=
  .next (whenPairB t (fun s => syncTx d frames s) s)

/-- LEGAL_CHECK (R510). -/
def execLegalCheck (t : Nat) (s : State) : Host.Outcome State Fault Refusal :=
  .next (whenPairB t (fun s => legalCheck s) s)

/-- LEGAL_FLOOR_WRITE (R509). -/
def execLegalFloorWrite (t : Nat) (s : State) : Host.Outcome State Fault Refusal :=
  .next (whenRuns t (fun s => legalFloorWrite s) s)

/-- LEAP_SECOND (R515). -/
def execLeapSecond (t : Nat) (s : State) : Host.Outcome State Fault Refusal :=
  .next (whenRuns t (fun s => leapSecond s) s)

/-- TCAP_EDGE (R517). -/
def execTcapEdge (t n edge : Nat) (s : State) : Host.Outcome State Fault Refusal :=
  .next (whenRuns t (fun s => tcapEdge n edge s) s)

/-- TCMP_EDGE (R520). -/
def execTcmpEdge (t n : Nat) (s : State) : Host.Outcome State Fault Refusal :=
  .next (whenRuns t (fun s => tcmpEdge n s) s)

/-- MPUL_EDGE (R523). -/
def execMpulEdge (t n edge : Nat) (s : State) : Host.Outcome State Fault Refusal :=
  .next (whenRuns t (fun s => mpulEdge n edge s) s)

/-- MOTION_WINDOW (R525). -/
def execMotionWindow (t : Nat) (s : State) : Host.Outcome State Fault Refusal :=
  .next (whenRuns t (fun s => motionWindow s) s)

/-- GRANDMASTER_ELECTED (R493). -/
def execGrandmasterElected (t d : Nat) (self : Bool) (s : State) : Host.Outcome State Fault Refusal :=
  .next (whenPairB t (fun s => grandmasterElected d self s) s)

/-- PATH_DELAY_MEASURE (R491). -/
def execPathDelayMeasure (t g ns : Nat) (s : State) : Host.Outcome State Fault Refusal :=
  .next (whenPairB t (fun s => pathDelayMeasured g ns s) s)

/-- SLEW_ABSORBED (R514). -/
def execSlewAbsorbed (t : Nat) (s : State) : Host.Outcome State Fault Refusal :=
  .next (whenRuns t (fun s => slewAbsorbed s) s)

end Sys2Proof.Machine
end

