-- ==== Sys2Proof/Machine/Dispatch.lean ====
section
/-!
DEFINITION. The dispatcher: one arm per command, each the direct call of its meaning.
-/
namespace Sys2Proof.Machine

def exec (i : Instr) (s : State) : Host.Outcome State Fault Refusal :=
  match i with
  | .echo t p k => Sys2Proof.Machine.execEcho t p k s
  | .versionQuery t p k => Sys2Proof.Machine.execVersionQuery t p k s
  | .partnerSet t p k => Sys2Proof.Machine.execPartnerSet t p k s
  | .partnerQuery t p k => Sys2Proof.Machine.execPartnerQuery t p k s
  | .eventSubscribe t p k => Sys2Proof.Machine.execEventSubscribe t p k s
  | .evqConfig t p k => Sys2Proof.Machine.execEvqConfig t p k s
  | .txnAbort t p k => Sys2Proof.Machine.execTxnAbort t p k s
  | .evqReset t p k => Sys2Proof.Machine.execEvqReset t p k s
  | .hostCmdDb t p v => Sys2Proof.Machine.execHostCmdDb t p v s
  | .hostRplDb t p v => Sys2Proof.Machine.execHostRplDb t p v s
  | .hostEvqMarkDb t p v => Sys2Proof.Machine.execHostEvqMarkDb t p v s
  | .hostEvqRewindDb t p v => Sys2Proof.Machine.execHostEvqRewindDb t p v s
  | .hostEvqReleaseDb t p v => Sys2Proof.Machine.execHostEvqReleaseDb t p v s
  | .eventWindowRead t p off => Sys2Proof.Machine.execEventWindowRead t p off s
  | .txnTimeout t p => Sys2Proof.Machine.execTxnTimeout t p s
  | .evqCoalesceExpiry t p => Sys2Proof.Machine.execEvqCoalesceExpiry t p s
  | .ringConfig t p k => Sys2Proof.Machine.execRingConfig t p k s
  | .ringEnable t p k => Sys2Proof.Machine.execRingEnable t p k s
  | .ringRestart t p k => Sys2Proof.Machine.execRingRestart t p k s
  | .ringFree t p k => Sys2Proof.Machine.execRingFree t p k s
  | .ringQuery t p k => Sys2Proof.Machine.execRingQuery t p k s
  | .dmmuCtxSet t p k => Sys2Proof.Machine.execDmmuCtxSet t p k s
  | .dmmuMap t p k => Sys2Proof.Machine.execDmmuMap t p k s
  | .dmmuUnmap t p k => Sys2Proof.Machine.execDmmuUnmap t p k s
  | .dmmuQuery t p k => Sys2Proof.Machine.execDmmuQuery t p k s
  | .windowSet t p k => Sys2Proof.Machine.execWindowSet t p k s
  | .windowQuery t p k => Sys2Proof.Machine.execWindowQuery t p k s
  | .hostportQuery t p k => Sys2Proof.Machine.execHostportQuery t p k s
  | .hostsConfig t p k => Sys2Proof.Machine.execHostsConfig t p k s
  | .ringDb t ring v wr => Sys2Proof.Machine.execRingDb t ring v wr s
  | .txDmaFetch t n err => Sys2Proof.Machine.execTxDmaFetch t n err s
  | .rxDmaDeliver t err => Sys2Proof.Machine.execRxDmaDeliver t err s
  | .ringCoalesceExpiry t n => Sys2Proof.Machine.execRingCoalesceExpiry t n s
  | .pcieLinkDown t => Sys2Proof.Machine.execPcieLinkDown t s
  | .pcieLinkUp t width speed => Sys2Proof.Machine.execPcieLinkUp t width speed s
  | .pciePerst t low => Sys2Proof.Machine.execPciePerst t low s
  | .pcieCompletionTimeout t ring => Sys2Proof.Machine.execPcieCompletionTimeout t ring s
  | .bar0Access t p off len write => Sys2Proof.Machine.execBar0Access t p off len write s
  | .windowRead t off len => Sys2Proof.Machine.execWindowRead t off len s
  | .windowWrite t off data => Sys2Proof.Machine.execWindowWrite t off data s
  | .prefetchDiscard t p => Sys2Proof.Machine.execPrefetchDiscard t p s
  | .nonpostedWriteDone t p => Sys2Proof.Machine.execNonpostedWriteDone t p s
  | .ospiRead t part addr len crc cmd ready => Sys2Proof.Machine.execOspiRead t part addr len crc cmd ready s
  | .ospiWrite t part addr data crc fast => Sys2Proof.Machine.execOspiWrite t part addr data crc fast s
  | .ospiStatusRead t part crc => Sys2Proof.Machine.execOspiStatusRead t part crc s
  | .ospiFramingError t => Sys2Proof.Machine.execOspiFramingError t s
  | .keptReadExpiry t p => Sys2Proof.Machine.execKeptReadExpiry t p s
  | .portAdmin t p k => Sys2Proof.Machine.execPortAdmin t p k s
  | .portQuery t p k => Sys2Proof.Machine.execPortQuery t p k s
  | .portCounters t p k => Sys2Proof.Machine.execPortCounters t p k s
  | .portTsCorr t p k => Sys2Proof.Machine.execPortTsCorr t p k s
  | .trxModeSet t p k => Sys2Proof.Machine.execTrxModeSet t p k s
  | .wakeDetectSet t p k => Sys2Proof.Machine.execWakeDetectSet t p k s
  | .canConfig t p k => Sys2Proof.Machine.execCanConfig t p k s
  | .canBittime t p k => Sys2Proof.Machine.execCanBittime t p k s
  | .canRestrict t p k => Sys2Proof.Machine.execCanRestrict t p k s
  | .canRecover t p k => Sys2Proof.Machine.execCanRecover t p k s
  | .linConfig t p k => Sys2Proof.Machine.execLinConfig t p k s
  | .linScheduleSet t p k => Sys2Proof.Machine.execLinScheduleSet t p k s
  | .linScheduleSelect t p k => Sys2Proof.Machine.execLinScheduleSelect t p k s
  | .ethConfig t p k => Sys2Proof.Machine.execEthConfig t p k s
  | .ethFlowctl t p k => Sys2Proof.Machine.execEthFlowctl t p k s
  | .t1sPlca t p k => Sys2Proof.Machine.execT1sPlca t p k s
  | .mdioAccess t p k => Sys2Proof.Machine.execMdioAccess t p k s
  | .canIntegrated t g => Sys2Proof.Machine.execCanIntegrated t g s
  | .canRxFrame t g c shown cap sofDelta rxErr => Sys2Proof.Machine.execCanRxFrame t g c shown cap sofDelta rxErr s
  | .canTxAttemptEnd t g res cap tdc => Sys2Proof.Machine.execCanTxAttemptEnd t g res cap tdc s
  | .busOffRecovered t g => Sys2Proof.Machine.execBusOffRecovered t g s
  | .trailerPresenceExpiry t g => Sys2Proof.Machine.execTrailerPresenceExpiry t g s
  | .gtsHoldEnd t g => Sys2Proof.Machine.execGtsHoldEnd t g s
  | .linSlotStart t g ok cap => Sys2Proof.Machine.execLinSlotStart t g ok cap s
  | .linRxFrame t g hdr id err baud ok data cap sofDelta => Sys2Proof.Machine.execLinRxFrame t g hdr id err baud ok data cap sofDelta s
  | .linResponseTimeout t g => Sys2Proof.Machine.execLinResponseTimeout t g s
  | .ethRxFrame t g data shown cap lane4 head => Sys2Proof.Machine.execEthRxFrame t g data shown cap lane4 head s
  | .pauseWindowEnd t g => Sys2Proof.Machine.execPauseWindowEnd t g s
  | .pcsLockChange t g ok => Sys2Proof.Machine.execPcsLockChange t g ok s
  | .plcaStatus t g ok => Sys2Proof.Machine.execPlcaStatus t g ok s
  | .preemptVerify t g ok => Sys2Proof.Machine.execPreemptVerify t g ok s
  | .phyResetRelease t g => Sys2Proof.Machine.execPhyResetRelease t g s
  | .wakeDetect t g src n k => Sys2Proof.Machine.execWakeDetect t g src n k s
  | .wakePatternTimeout t g => Sys2Proof.Machine.execWakePatternTimeout t g s
  | .cadenceMiss t f => Sys2Proof.Machine.execCadenceMiss t f s
  | .containHoldEnd t kind target => Sys2Proof.Machine.execContainHoldEnd t kind target s
  | .pfcRefresh t g c => Sys2Proof.Machine.execPfcRefresh t g c s
  | .frerResetTimer t f => Sys2Proof.Machine.execFrerResetTimer t f s
  | .fdbLearn t => Sys2Proof.Machine.execFdbLearn t s
  | .patinaEpoch t => Sys2Proof.Machine.execPatinaEpoch t s
  | .fdbAgeVisit t pos => Sys2Proof.Machine.execFdbAgeVisit t pos s
  | .egressSelect t g cap lane4 => Sys2Proof.Machine.execEgressSelect t g cap lane4 s
  | .txComplete t g coll => Sys2Proof.Machine.execTxComplete t g coll s
  | .gateWithdraw t g => Sys2Proof.Machine.execGateWithdraw t g s
  | .gateCycleStart t stream n => Sys2Proof.Machine.execGateCycleStart t stream n s
  | .gateApplied t stream n => Sys2Proof.Machine.execGateApplied t stream n s
  | .gateEntryChange t stream n => Sys2Proof.Machine.execGateEntryChange t stream n s
  | .preemptFragment t g n => Sys2Proof.Machine.execPreemptFragment t g n s
  | .residenceSweep t g => Sys2Proof.Machine.execResidenceSweep t g s
  | .spillOut t g c => Sys2Proof.Machine.execSpillOut t g c s
  | .spillIn t g c bad => Sys2Proof.Machine.execSpillIn t g c bad s
  | .lpddr5Unavailable t => Sys2Proof.Machine.execLpddr5Unavailable t s
  | .eccScrub t cell kind fid unsent => Sys2Proof.Machine.execEccScrub t cell kind fid unsent s
  | .pauseResponseWindowEnd t g => Sys2Proof.Machine.execPauseResponseWindowEnd t g s
  | .bufAccountSet t p k => Sys2Proof.Machine.execBufAccountSet t p k s
  | .bufFcSet t p k => Sys2Proof.Machine.execBufFcSet t p k s
  | .bufQuery t p k => Sys2Proof.Machine.execBufQuery t p k s
  | .queueSet t p k => Sys2Proof.Machine.execQueueSet t p k s
  | .spillConfig t p k => Sys2Proof.Machine.execSpillConfig t p k s
  | .spillQueue t p k => Sys2Proof.Machine.execSpillQueue t p k s
  | .cutThroughSet t p k => Sys2Proof.Machine.execCutThroughSet t p k s
  | .preemptClasses t p k => Sys2Proof.Machine.execPreemptClasses t p k s
  | .gateListSet t p k => Sys2Proof.Machine.execGateListSet t p k s
  | .gateEnable t p k => Sys2Proof.Machine.execGateEnable t p k s
  | .gateQuery t p k => Sys2Proof.Machine.execGateQuery t p k s
  | .replSet t p k => Sys2Proof.Machine.execReplSet t p k s
  | .replQuery t p k => Sys2Proof.Machine.execReplQuery t p k s
  | .frerSeqgenSet t p k => Sys2Proof.Machine.execFrerSeqgenSet t p k s
  | .frerRecoverySet t p k => Sys2Proof.Machine.execFrerRecoverySet t p k s
  | .frerQuery t p k => Sys2Proof.Machine.execFrerQuery t p k s
  | .frerReset t p k => Sys2Proof.Machine.execFrerReset t p k s
  | .swCounters t p k => Sys2Proof.Machine.execSwCounters t p k s
  | .gwTakeFrame t => Sys2Proof.Machine.execGwTakeFrame t s
  | .containerRelease t c => Sys2Proof.Machine.execContainerRelease t c s
  | .cyclicDue t n => Sys2Proof.Machine.execCyclicDue t n s
  | .minGapEnd t n => Sys2Proof.Machine.execMinGapEnd t n s
  | .pduTimeout t n => Sys2Proof.Machine.execPduTimeout t n s
  | .tpTimerExpiry t n => Sys2Proof.Machine.execTpTimerExpiry t n s
  | .tpSegmentRelease t n => Sys2Proof.Machine.execTpSegmentRelease t n s
  | .j1939ClaimRx t g sa name stamp => Sys2Proof.Machine.execJ1939ClaimRx t g sa name stamp s
  | .j1939BindingCommit t => Sys2Proof.Machine.execJ1939BindingCommit t s
  | .pduDefine t p k => Sys2Proof.Machine.execPduDefine t p k s
  | .pduRemove t p k => Sys2Proof.Machine.execPduRemove t p k s
  | .pduQuery t p k => Sys2Proof.Machine.execPduQuery t p k s
  | .mapAdd t p k => Sys2Proof.Machine.execMapAdd t p k s
  | .mapRemove t p k => Sys2Proof.Machine.execMapRemove t p k s
  | .mapQuery t p k => Sys2Proof.Machine.execMapQuery t p k s
  | .contDefine t p k => Sys2Proof.Machine.execContDefine t p k s
  | .contRemove t p k => Sys2Proof.Machine.execContRemove t p k s
  | .contQuery t p k => Sys2Proof.Machine.execContQuery t p k s
  | .contFlush t p k => Sys2Proof.Machine.execContFlush t p k s
  | .e2eProfileSet t p k => Sys2Proof.Machine.execE2eProfileSet t p k s
  | .e2eCompute t p k => Sys2Proof.Machine.execE2eCompute t p k s
  | .tpChannelSet t p k => Sys2Proof.Machine.execTpChannelSet t p k s
  | .tpChannelRemove t p k => Sys2Proof.Machine.execTpChannelRemove t p k s
  | .tpSessionQuery t p k => Sys2Proof.Machine.execTpSessionQuery t p k s
  | .tpAbort t p k => Sys2Proof.Machine.execTpAbort t p k s
  | .j1939Bind t p k => Sys2Proof.Machine.execJ1939Bind t p k s
  | .j1939Unbind t p k => Sys2Proof.Machine.execJ1939Unbind t p k s
  | .j1939Claims t p k => Sys2Proof.Machine.execJ1939Claims t p k s
  | .j1939RewriteSet t p k => Sys2Proof.Machine.execJ1939RewriteSet t p k s
  | .j1939OwnAddress t p k => Sys2Proof.Machine.execJ1939OwnAddress t p k s
  | .gwCounters t p k => Sys2Proof.Machine.execGwCounters t p k s
  | .gwE2eCtrl t u v => Sys2Proof.Machine.execGwE2eCtrl t u v s
  | .gwE2eFeed t u size v => Sys2Proof.Machine.execGwE2eFeed t u size v s
  | .tableCommit t p k => Sys2Proof.Machine.execTableCommit t p k s
  | .tableDiscard t p k => Sys2Proof.Machine.execTableDiscard t p k s
  | .tableGenQuery t p k => Sys2Proof.Machine.execTableGenQuery t p k s
  | .tableRehash t p k => Sys2Proof.Machine.execTableRehash t p k s
  | .rehashComplete t => Sys2Proof.Machine.execRehashComplete t s
  | .generationRetire t n => Sys2Proof.Machine.execGenerationRetire t n s
  | .sieveRuleSet t p k => Sys2Proof.Machine.execSieveRuleSet t p k s
  | .sieveRuleQuery t p k => Sys2Proof.Machine.execSieveRuleQuery t p k s
  | .sievePortSet t p k => Sys2Proof.Machine.execSievePortSet t p k s
  | .flowSet t p k => Sys2Proof.Machine.execFlowSet t p k s
  | .flowQuery t p k => Sys2Proof.Machine.execFlowQuery t p k s
  | .fdbAdd t p k => Sys2Proof.Machine.execFdbAdd t p k s
  | .fdbDelete t p k => Sys2Proof.Machine.execFdbDelete t p k s
  | .fdbSearch t p k => Sys2Proof.Machine.execFdbSearch t p k s
  | .fdbNext t p k => Sys2Proof.Machine.execFdbNext t p k s
  | .fdbFlush t p k => Sys2Proof.Machine.execFdbFlush t p k s
  | .fdbFlushComplete t => Sys2Proof.Machine.execFdbFlushComplete t s
  | .fdbAgeSet t p k => Sys2Proof.Machine.execFdbAgeSet t p k s
  | .fdbUnlock t p k => Sys2Proof.Machine.execFdbUnlock t p k s
  | .canRouteAdd t p k => Sys2Proof.Machine.execCanRouteAdd t p k s
  | .canRouteDelete t p k => Sys2Proof.Machine.execCanRouteDelete t p k s
  | .canRouteSearch t p k => Sys2Proof.Machine.execCanRouteSearch t p k s
  | .canRouteNext t p k => Sys2Proof.Machine.execCanRouteNext t p k s
  | .canMaskSet t p k => Sys2Proof.Machine.execCanMaskSet t p k s
  | .lpmAdd t p k => Sys2Proof.Machine.execLpmAdd t p k s
  | .lpmDelete t p k => Sys2Proof.Machine.execLpmDelete t p k s
  | .lpmSearch t p k => Sys2Proof.Machine.execLpmSearch t p k s
  | .lpmNext t p k => Sys2Proof.Machine.execLpmNext t p k s
  | .maquetteSet t p k => Sys2Proof.Machine.execMaquetteSet t p k s
  | .maquetteScan t => Sys2Proof.Machine.execMaquetteScan t s
  | .tblCounters t p k => Sys2Proof.Machine.execTblCounters t p k s
  | .policerSet t p k => Sys2Proof.Machine.execPolicerSet t p k s
  | .policerQuery t p k => Sys2Proof.Machine.execPolicerQuery t p k s
  | .policerReset t p k => Sys2Proof.Machine.execPolicerReset t p k s
  | .sfSet t p k => Sys2Proof.Machine.execSfSet t p k s
  | .sgateListSet t p k => Sys2Proof.Machine.execSgateListSet t p k s
  | .sfQuery t p k => Sys2Proof.Machine.execSfQuery t p k s
  | .sfReset t p k => Sys2Proof.Machine.execSfReset t p k s
  | .cadenceProfileSet t p k => Sys2Proof.Machine.execCadenceProfileSet t p k s
  | .cadenceSet t p k => Sys2Proof.Machine.execCadenceSet t p k s
  | .cadenceQuery t p k => Sys2Proof.Machine.execCadenceQuery t p k s
  | .cadenceRelearn t p k => Sys2Proof.Machine.execCadenceRelearn t p k s
  | .sourceSet t p k => Sys2Proof.Machine.execSourceSet t p k s
  | .containBudgetSet t p k => Sys2Proof.Machine.execContainBudgetSet t p k s
  | .containRelease t p k => Sys2Proof.Machine.execContainRelease t p k s
  | .containQuery t p k => Sys2Proof.Machine.execContainQuery t p k s
  | .polCounters t p k => Sys2Proof.Machine.execPolCounters t p k s
  | .flowCounters t p k => Sys2Proof.Machine.execFlowCounters t p k s
  | .timeQuery t p k => Sys2Proof.Machine.execTimeQuery t p k s
  | .timeDomainSet t p k => Sys2Proof.Machine.execTimeDomainSet t p k s
  | .timeRefSelect t p k => Sys2Proof.Machine.execTimeRefSelect t p k s
  | .timeRtcSet t p k => Sys2Proof.Machine.execTimeRtcSet t p k s
  | .legalSourceSet t p k => Sys2Proof.Machine.execLegalSourceSet t p k s
  | .legalTimePropose t p k => Sys2Proof.Machine.execLegalTimePropose t p k s
  | .legalTimeForce t p k => Sys2Proof.Machine.execLegalTimeForce t p k s
  | .tcapSet t p k => Sys2Proof.Machine.execTcapSet t p k s
  | .tcapQuery t p k => Sys2Proof.Machine.execTcapQuery t p k s
  | .tcmpSet t p k => Sys2Proof.Machine.execTcmpSet t p k s
  | .motionInputSet t p k => Sys2Proof.Machine.execMotionInputSet t p k s
  | .motionSourceSet t p k => Sys2Proof.Machine.execMotionSourceSet t p k s
  | .motionPairSet t p k => Sys2Proof.Machine.execMotionPairSet t p k s
  | .motionQuery t p k => Sys2Proof.Machine.execMotionQuery t p k s
  | .timeCounters t p k => Sys2Proof.Machine.execTimeCounters t p k s
  | .timeItNs t reader => Sys2Proof.Machine.execTimeItNs t reader s
  | .timeLegalLo t reader => Sys2Proof.Machine.execTimeLegalLo t reader s
  | .gptpSyncRx t d stamp master rr adj utc leap => Sys2Proof.Machine.execGptpSyncRx t d stamp master rr adj utc leap s
  | .syncTimeout t d => Sys2Proof.Machine.execSyncTimeout t d s
  | .gptpSyncTx t d frames => Sys2Proof.Machine.execGptpSyncTx t d frames s
  | .legalCheck t => Sys2Proof.Machine.execLegalCheck t s
  | .legalFloorWrite t => Sys2Proof.Machine.execLegalFloorWrite t s
  | .leapSecond t => Sys2Proof.Machine.execLeapSecond t s
  | .tcapEdge t n edge => Sys2Proof.Machine.execTcapEdge t n edge s
  | .tcmpEdge t n => Sys2Proof.Machine.execTcmpEdge t n s
  | .mpulEdge t n edge => Sys2Proof.Machine.execMpulEdge t n edge s
  | .motionWindow t => Sys2Proof.Machine.execMotionWindow t s
  | .lcQuery t p k => Sys2Proof.Machine.execLcQuery t p k s
  | .lcAdvance t p k => Sys2Proof.Machine.execLcAdvance t p k s
  | .lcChallenge t p k => Sys2Proof.Machine.execLcChallenge t p k s
  | .tamperConfig t p k => Sys2Proof.Machine.execTamperConfig t p k s
  | .kekLoadClear t p k => Sys2Proof.Machine.execKekLoadClear t p k s
  | .kekRotate t p k => Sys2Proof.Machine.execKekRotate t p k s
  | .keyStage t p k => Sys2Proof.Machine.execKeyStage t p k s
  | .keyDerive t p k => Sys2Proof.Machine.execKeyDerive t p k s
  | .keyCommit t p k => Sys2Proof.Machine.execKeyCommit t p k s
  | .keyDiscard t p k => Sys2Proof.Machine.execKeyDiscard t p k s
  | .keyRevoke t p k => Sys2Proof.Machine.execKeyRevoke t p k s
  | .keyErase t p k => Sys2Proof.Machine.execKeyErase t p k s
  | .keyQuery t p k => Sys2Proof.Machine.execKeyQuery t p k s
  | .attest t p k => Sys2Proof.Machine.execAttest t p k s
  | .identityQuery t p k => Sys2Proof.Machine.execIdentityQuery t p k s
  | .sealRead t p k => Sys2Proof.Machine.execSealRead t p k s
  | .sealAck t p k => Sys2Proof.Machine.execSealAck t p k s
  | .sealCheckpoint t p k => Sys2Proof.Machine.execSealCheckpoint t p k s
  | .sealConfig t p k => Sys2Proof.Machine.execSealConfig t p k s
  | .sealNote t p k => Sys2Proof.Machine.execSealNote t p k s
  | .heraxCounters t p k => Sys2Proof.Machine.execHeraxCounters t p k s
  | .heraxSealHeadLo t => Sys2Proof.Machine.execHeraxSealHeadLo t s
  | .heraxSealAckLo t => Sys2Proof.Machine.execHeraxSealAckLo t s
  | .tamperDetect t n => Sys2Proof.Machine.execTamperDetect t n s
  | .wipeComplete t => Sys2Proof.Machine.execWipeComplete t s
  | .sealRecordWrite t => Sys2Proof.Machine.execSealRecordWrite t s
  | .checkpoint t => Sys2Proof.Machine.execCheckpoint t s
  | .protProfileSet t p k => Sys2Proof.Machine.execProtProfileSet t p k s
  | .protProfileQuery t p k => Sys2Proof.Machine.execProtProfileQuery t p k s
  | .macsecSecySet t p k => Sys2Proof.Machine.execMacsecSecySet t p k s
  | .macsecRxscSet t p k => Sys2Proof.Machine.execMacsecRxscSet t p k s
  | .macsecSaSet t p k => Sys2Proof.Machine.execMacsecSaSet t p k s
  | .macsecTxSwitch t p k => Sys2Proof.Machine.execMacsecTxSwitch t p k s
  | .macsecQuery t p k => Sys2Proof.Machine.execMacsecQuery t p k s
  | .secpduFvSet t p k => Sys2Proof.Machine.execSecpduFvSet t p k s
  | .cipherJob t p k => Sys2Proof.Machine.execCipherJob t p k s
  | .cipherJobResume t p k => Sys2Proof.Machine.execCipherJobResume t p k s
  | .cipherJobCancel t p k => Sys2Proof.Machine.execCipherJobCancel t p k s
  | .inbandBind t p k => Sys2Proof.Machine.execInbandBind t p k s
  | .cipherCounters t p k => Sys2Proof.Machine.execCipherCounters t p k s
  | .cipherDispatch t => Sys2Proof.Machine.execCipherDispatch t s
  | .cipherMessageDone t n => Sys2Proof.Machine.execCipherMessageDone t n s
  | .cipherAbort t job x y off => Sys2Proof.Machine.execCipherAbort t job x y off s
  | .jobFault t n upto => Sys2Proof.Machine.execJobFault t n upto s
  | .cipherJobComplete t p tag => Sys2Proof.Machine.execCipherJobComplete t p tag s
  | .zeroingComplete t p tag => Sys2Proof.Machine.execZeroingComplete t p tag s
  | .inbandFrame t => Sys2Proof.Machine.execInbandFrame t s
  | .modeRequest t p k => Sys2Proof.Machine.execModeRequest t p k s
  | .modeQuery t p k => Sys2Proof.Machine.execModeQuery t p k s
  | .breezeConfig t p k => Sys2Proof.Machine.execBreezeConfig t p k s
  | .powerBankSet t p k => Sys2Proof.Machine.execPowerBankSet t p k s
  | .fbSegmentSet t p k => Sys2Proof.Machine.execFbSegmentSet t p k s
  | .segmentOff t k => Sys2Proof.Machine.execSegmentOff t k s
  | .comparatorSet t p k => Sys2Proof.Machine.execComparatorSet t p k s
  | .deviceReset t p k => Sys2Proof.Machine.execDeviceReset t p k s
  | .imageErase t p k => Sys2Proof.Machine.execImageErase t p k s
  | .imageEraseComplete t slot ok => Sys2Proof.Machine.execImageEraseComplete t slot ok s
  | .imageWrite t p k => Sys2Proof.Machine.execImageWrite t p k s
  | .imageVerify t p k => Sys2Proof.Machine.execImageVerify t p k s
  | .imageVerifyComplete t slot readErr => Sys2Proof.Machine.execImageVerifyComplete t slot readErr s
  | .fwActivate t p k => Sys2Proof.Machine.execFwActivate t p k s
  | .hitlessComplete t ok => Sys2Proof.Machine.execHitlessComplete t ok s
  | .cfgActivate t p k => Sys2Proof.Machine.execCfgActivate t p k s
  | .imageConfirm t p k => Sys2Proof.Machine.execImageConfirm t p k s
  | .imageQuery t p k => Sys2Proof.Machine.execImageQuery t p k s
  | .cfgAuthoritySet t p k => Sys2Proof.Machine.execCfgAuthoritySet t p k s
  | .pwrCounters t p k => Sys2Proof.Machine.execPwrCounters t p k s
  | .comparatorDetect t c on => Sys2Proof.Machine.execComparatorDetect t c on s
  | .porst t low => Sys2Proof.Machine.execPorst t low s
  | .sysRst t low => Sys2Proof.Machine.execSysRst t low s
  | .pwrGoodFall t => Sys2Proof.Machine.execPwrGoodFall t s
  | .pwrGoodRise t => Sys2Proof.Machine.execPwrGoodRise t s
  | .pwrGoodTimeout t => Sys2Proof.Machine.execPwrGoodTimeout t s
  | .slowclkStable t => Sys2Proof.Machine.execSlowclkStable t s
  | .startUp t rst n lbist unread trained pcie => Sys2Proof.Machine.execStartUp t rst n lbist unread trained pcie s
  | .sleepEntry t => Sys2Proof.Machine.execSleepEntry t s
  | .zephyrResume t rst n h lbist => Sys2Proof.Machine.execZephyrResume t rst n h lbist s
  | .calmAfterExpiry t => Sys2Proof.Machine.execCalmAfterExpiry t s
  | .atelierExpiry t => Sys2Proof.Machine.execAtelierExpiry t s
  | .modeTransitionDone t => Sys2Proof.Machine.execModeTransitionDone t s
  | .ledgerPersist t => Sys2Proof.Machine.execLedgerPersist t s
  | .sleepRingSet t p k => Sys2Proof.Machine.execSleepRingSet t p k s
  | .pnSet t p k => Sys2Proof.Machine.execPnSet t p k s
  | .sleepHold t p k => Sys2Proof.Machine.execSleepHold t p k s
  | .wakePortSet t p k => Sys2Proof.Machine.execWakePortSet t p k s
  | .wakeFrameSet t p k => Sys2Proof.Machine.execWakeFrameSet t p k s
  | .wakeNetwork t p k => Sys2Proof.Machine.execWakeNetwork t p k s
  | .sleepQuery t p k => Sys2Proof.Machine.execSleepQuery t p k s
  | .consentRingQuery t p k => Sys2Proof.Machine.execConsentRingQuery t p k s
  | .sleepCounters t p k => Sys2Proof.Machine.execSleepCounters t p k s
  | .ringMessageRx t g m stamp => Sys2Proof.Machine.execRingMessageRx t g m stamp s
  | .tokenPass t => Sys2Proof.Machine.execTokenPass t s
  | .joinTimeout t => Sys2Proof.Machine.execJoinTimeout t s
  | .tokenTimeout t => Sys2Proof.Machine.execTokenTimeout t s
  | .tokenLost t => Sys2Proof.Machine.execTokenLost t s
  | .objectionWindowEnd t => Sys2Proof.Machine.execObjectionWindowEnd t s
  | .falseWakeWindowEnd t g => Sys2Proof.Machine.execFalseWakeWindowEnd t g s
  | .awakeWindowEnd t => Sys2Proof.Machine.execAwakeWindowEnd t s
  | .tc10Poll t g stat => Sys2Proof.Machine.execTc10Poll t g stat s
  | .tc10WindowEnd t g => Sys2Proof.Machine.execTc10WindowEnd t g s
  | .lnkConfig t p k => Sys2Proof.Machine.execLnkConfig t p k s
  | .lnkQuery t p k => Sys2Proof.Machine.execLnkQuery t p k s
  | .lnkCounters t p k => Sys2Proof.Machine.execLnkCounters t p k s
  | .cascadeSet t p k => Sys2Proof.Machine.execCascadeSet t p k s
  | .pairConfig t p k => Sys2Proof.Machine.execPairConfig t p k s
  | .pairQuery t p k => Sys2Proof.Machine.execPairQuery t p k s
  | .pairSwitch t p k => Sys2Proof.Machine.execPairSwitch t p k s
  | .pairHold t p k => Sys2Proof.Machine.execPairHold t p k s
  | .pairCounters t p k => Sys2Proof.Machine.execPairCounters t p k s
  | .remoteRead t p k => Sys2Proof.Machine.execRemoteRead t p k s
  | .remoteWrite t p k => Sys2Proof.Machine.execRemoteWrite t p k s
  | .remoteReadTimeout t => Sys2Proof.Machine.execRemoteReadTimeout t s
  | .safetyQuery t p k => Sys2Proof.Machine.execSafetyQuery t p k s
  | .leeConfig t p k => Sys2Proof.Machine.execLeeConfig t p k s
  | .leeEnter t p k => Sys2Proof.Machine.execLeeEnter t p k s
  | .leeExit t p k => Sys2Proof.Machine.execLeeExit t p k s
  | .ledgerRead t p k => Sys2Proof.Machine.execLedgerRead t p k s
  | .ledgerClear t p k => Sys2Proof.Machine.execLedgerClear t p k s
  | .safetyCounters t p k => Sys2Proof.Machine.execSafetyCounters t p k s
  | .lnkPacketRx t k pk bus recs cap => Sys2Proof.Machine.execLnkPacketRx t k pk bus recs cap s
  | .lnkReplayTimeout t k => Sys2Proof.Machine.execLnkReplayTimeout t k s
  | .lnkLaneChange t k l0 l1 al => Sys2Proof.Machine.execLnkLaneChange t k l0 l1 al s
  | .relayCreditTimeout t k => Sys2Proof.Machine.execRelayCreditTimeout t k s
  | .heartbeatTx t => Sys2Proof.Machine.execHeartbeatTx t s
  | .pairHbOutToggle t => Sys2Proof.Machine.execPairHbOutToggle t s
  | .pairHbInEdge t => Sys2Proof.Machine.execPairHbInEdge t s
  | .heartbeatLost t => Sys2Proof.Machine.execHeartbeatLost t s
  | .startWaitExpiry t => Sys2Proof.Machine.execStartWaitExpiry t s
  | .mirrorStall t => Sys2Proof.Machine.execMirrorStall t s
  | .syncComplete t agree => Sys2Proof.Machine.execSyncComplete t agree s
  | .holdOffExpiry t => Sys2Proof.Machine.execHoldOffExpiry t s
  | .watchdogExpiry t => Sys2Proof.Machine.execWatchdogExpiry t s
  | .lbistSlot t len pass => Sys2Proof.Machine.execLbistSlot t len pass s
  | .forwardingMonitor t => Sys2Proof.Machine.execForwardingMonitor t s
  | .clockMonitor t n ok => Sys2Proof.Machine.execClockMonitor t n ok s
  | .lockstepMismatch t n => Sys2Proof.Machine.execLockstepMismatch t n s
  | .supplyMonitor t which out => Sys2Proof.Machine.execSupplyMonitor t which out s
  | .stateCompare t diff started => Sys2Proof.Machine.execStateCompare t diff started s
  | .registerWrite t fw addr v => Sys2Proof.Machine.execRegisterWrite t fw addr v s
  | .busIdle t g ovl => Sys2Proof.Machine.execBusIdle t g ovl s
  | .postedWriteDone t => Sys2Proof.Machine.execPostedWriteDone t s
  | .grandmasterElected t d self => Sys2Proof.Machine.execGrandmasterElected t d self s
  | .pathDelayMeasure t g ns => Sys2Proof.Machine.execPathDelayMeasure t g ns s
  | .slewAbsorbed t => Sys2Proof.Machine.execSlewAbsorbed t s
  | .vstby1v8Drop t => Sys2Proof.Machine.execVstby1v8Drop t s
  | .monotonicCounterWrite t id => Sys2Proof.Machine.execMonotonicCounterWrite t id s

end Sys2Proof.Machine
end

