-- ==== Sys2Proof/Safety.lean ====
section
/-!
DEFINITION. The terms in which statements about runs are made: what every step keeps, which changes of mode are
possible, and what a command of a partner meets and leaves.
-/
namespace Sys2Proof.Machine

/-- RATE_ADJ stays within 250 ppm (R486). -/
def rateOk (s : State) : Prop := -2147483 ≤ s.rateAdj ∧ s.rateAdj ≤ 2147483

/-- The main domain is out of reset exactly in the modes in which TSCLK runs (R31, R611, R617). -/
def modeOk (s : State) : Prop := s.mainUp = (s.mode != .calm && s.mode != .zephyr)

/-- What every step keeps. -/
def StateInv (s : State) : Prop := rateOk s ∧ modeOk s

/-- The changes of mode that one step can make: the transitions of R622, a start-up (R630), and a reset of the
main domain, which leaves no mode running until it starts again. -/
def mayChange (old new : Mode) : Bool :=
  old == new || mayTurn old new || new == .calm ||
    ((old == .gale || old == .breeze) && new == .zephyr) ||
    ((old == .calm || old == .zephyr) && (new == .gale || new == .breeze)) || (old == .calm && new == .atelier)

/-! ### Commands -/

/-- The command rows: the specification record, the instant, the partner and the packet. -/
def commandOf : Instr → Option (CmdSpec × Nat × Nat × Packet)
  | .echo t p k => some (echoSpec, t, p, k)
  | .versionQuery t p k => some (versionQuerySpec, t, p, k)
  | .partnerSet t p k => some (partnerSetSpec, t, p, k)
  | .partnerQuery t p k => some (partnerQuerySpec, t, p, k)
  | .eventSubscribe t p k => some (eventSubscribeSpec, t, p, k)
  | .evqConfig t p k => some (evqConfigSpec, t, p, k)
  | .txnAbort t p k => some (txnAbortSpec, t, p, k)
  | .evqReset t p k => some (evqResetSpec, t, p, k)
  | .ringConfig t p k => some (ringConfigSpec, t, p, k)
  | .ringEnable t p k => some (ringEnableSpec, t, p, k)
  | .ringRestart t p k => some (ringRestartSpec, t, p, k)
  | .ringFree t p k => some (ringFreeSpec, t, p, k)
  | .ringQuery t p k => some (ringQuerySpec, t, p, k)
  | .dmmuCtxSet t p k => some (dmmuCtxSetSpec, t, p, k)
  | .dmmuMap t p k => some (dmmuMapSpec, t, p, k)
  | .dmmuUnmap t p k => some (dmmuUnmapSpec, t, p, k)
  | .dmmuQuery t p k => some (dmmuQuerySpec, t, p, k)
  | .windowSet t p k => some (windowSetSpec, t, p, k)
  | .windowQuery t p k => some (windowQuerySpec, t, p, k)
  | .hostportQuery t p k => some (hostportQuerySpec, t, p, k)
  | .hostsConfig t p k => some (hostsConfigSpec, t, p, k)
  | .portAdmin t p k => some (portAdminSpec, t, p, k)
  | .portQuery t p k => some (portQuerySpec, t, p, k)
  | .portCounters t p k => some (portCountersSpec, t, p, k)
  | .portTsCorr t p k => some (portTsCorrSpec, t, p, k)
  | .trxModeSet t p k => some (trxModeSetSpec, t, p, k)
  | .wakeDetectSet t p k => some (wakeDetectSetSpec, t, p, k)
  | .canConfig t p k => some (canConfigSpec, t, p, k)
  | .canBittime t p k => some (canBittimeSpec, t, p, k)
  | .canRestrict t p k => some (canRestrictSpec, t, p, k)
  | .canRecover t p k => some (canRecoverSpec, t, p, k)
  | .linConfig t p k => some (linConfigSpec, t, p, k)
  | .linScheduleSet t p k => some (linScheduleSetSpec, t, p, k)
  | .linScheduleSelect t p k => some (linScheduleSelectSpec, t, p, k)
  | .ethConfig t p k => some (ethConfigSpec, t, p, k)
  | .ethFlowctl t p k => some (ethFlowctlSpec, t, p, k)
  | .t1sPlca t p k => some (t1sPlcaSpec, t, p, k)
  | .mdioAccess t p k => some (mdioAccessSpec, t, p, k)
  | .bufAccountSet t p k => some (bufAccountSetSpec, t, p, k)
  | .bufFcSet t p k => some (bufFcSetSpec, t, p, k)
  | .bufQuery t p k => some (bufQuerySpec, t, p, k)
  | .queueSet t p k => some (queueSetSpec, t, p, k)
  | .spillConfig t p k => some (spillConfigSpec, t, p, k)
  | .spillQueue t p k => some (spillQueueSpec, t, p, k)
  | .cutThroughSet t p k => some (cutThroughSetSpec, t, p, k)
  | .preemptClasses t p k => some (preemptClassesSpec, t, p, k)
  | .gateListSet t p k => some (gateListSetSpec, t, p, k)
  | .gateEnable t p k => some (gateEnableSpec, t, p, k)
  | .gateQuery t p k => some (gateQuerySpec, t, p, k)
  | .replSet t p k => some (replSetSpec, t, p, k)
  | .replQuery t p k => some (replQuerySpec, t, p, k)
  | .frerSeqgenSet t p k => some (frerSeqgenSetSpec, t, p, k)
  | .frerRecoverySet t p k => some (frerRecoverySetSpec, t, p, k)
  | .frerQuery t p k => some (frerQuerySpec, t, p, k)
  | .frerReset t p k => some (frerResetSpec, t, p, k)
  | .swCounters t p k => some (swCountersSpec, t, p, k)
  | .pduDefine t p k => some (pduDefineSpec, t, p, k)
  | .pduRemove t p k => some (pduRemoveSpec, t, p, k)
  | .pduQuery t p k => some (pduQuerySpec, t, p, k)
  | .mapAdd t p k => some (mapAddSpec, t, p, k)
  | .mapRemove t p k => some (mapRemoveSpec, t, p, k)
  | .mapQuery t p k => some (mapQuerySpec, t, p, k)
  | .contDefine t p k => some (contDefineSpec, t, p, k)
  | .contRemove t p k => some (contRemoveSpec, t, p, k)
  | .contQuery t p k => some (contQuerySpec, t, p, k)
  | .contFlush t p k => some (contFlushSpec, t, p, k)
  | .e2eProfileSet t p k => some (e2eProfileSetSpec, t, p, k)
  | .e2eCompute t p k => some (e2eComputeSpec, t, p, k)
  | .tpChannelSet t p k => some (tpChannelSetSpec, t, p, k)
  | .tpChannelRemove t p k => some (tpChannelRemoveSpec, t, p, k)
  | .tpSessionQuery t p k => some (tpSessionQuerySpec, t, p, k)
  | .tpAbort t p k => some (tpAbortSpec, t, p, k)
  | .j1939Bind t p k => some (j1939BindSpec, t, p, k)
  | .j1939Unbind t p k => some (j1939UnbindSpec, t, p, k)
  | .j1939Claims t p k => some (j1939ClaimsSpec, t, p, k)
  | .j1939RewriteSet t p k => some (j1939RewriteSetSpec, t, p, k)
  | .j1939OwnAddress t p k => some (j1939OwnAddressSpec, t, p, k)
  | .gwCounters t p k => some (gwCountersSpec, t, p, k)
  | .tableCommit t p k => some (tableCommitSpec, t, p, k)
  | .tableDiscard t p k => some (tableDiscardSpec, t, p, k)
  | .tableGenQuery t p k => some (tableGenQuerySpec, t, p, k)
  | .tableRehash t p k => some (tableRehashSpec, t, p, k)
  | .sieveRuleSet t p k => some (sieveRuleSetSpec, t, p, k)
  | .sieveRuleQuery t p k => some (sieveRuleQuerySpec, t, p, k)
  | .sievePortSet t p k => some (sievePortSetSpec, t, p, k)
  | .flowSet t p k => some (flowSetSpec, t, p, k)
  | .flowQuery t p k => some (flowQuerySpec, t, p, k)
  | .fdbAdd t p k => some (fdbAddSpec, t, p, k)
  | .fdbDelete t p k => some (fdbDeleteSpec, t, p, k)
  | .fdbSearch t p k => some (fdbSearchSpec, t, p, k)
  | .fdbNext t p k => some (fdbNextSpec, t, p, k)
  | .fdbFlush t p k => some (fdbFlushSpec, t, p, k)
  | .fdbAgeSet t p k => some (fdbAgeSetSpec, t, p, k)
  | .fdbUnlock t p k => some (fdbUnlockSpec, t, p, k)
  | .canRouteAdd t p k => some (canRouteAddSpec, t, p, k)
  | .canRouteDelete t p k => some (canRouteDeleteSpec, t, p, k)
  | .canRouteSearch t p k => some (canRouteSearchSpec, t, p, k)
  | .canRouteNext t p k => some (canRouteNextSpec, t, p, k)
  | .canMaskSet t p k => some (canMaskSetSpec, t, p, k)
  | .lpmAdd t p k => some (lpmAddSpec, t, p, k)
  | .lpmDelete t p k => some (lpmDeleteSpec, t, p, k)
  | .lpmSearch t p k => some (lpmSearchSpec, t, p, k)
  | .lpmNext t p k => some (lpmNextSpec, t, p, k)
  | .maquetteSet t p k => some (maquetteSetSpec, t, p, k)
  | .tblCounters t p k => some (tblCountersSpec, t, p, k)
  | .policerSet t p k => some (policerSetSpec, t, p, k)
  | .policerQuery t p k => some (policerQuerySpec, t, p, k)
  | .policerReset t p k => some (policerResetSpec, t, p, k)
  | .sfSet t p k => some (sfSetSpec, t, p, k)
  | .sgateListSet t p k => some (sgateListSetSpec, t, p, k)
  | .sfQuery t p k => some (sfQuerySpec, t, p, k)
  | .sfReset t p k => some (sfResetSpec, t, p, k)
  | .cadenceProfileSet t p k => some (cadenceProfileSetSpec, t, p, k)
  | .cadenceSet t p k => some (cadenceSetSpec, t, p, k)
  | .cadenceQuery t p k => some (cadenceQuerySpec, t, p, k)
  | .cadenceRelearn t p k => some (cadenceRelearnSpec, t, p, k)
  | .sourceSet t p k => some (sourceSetSpec, t, p, k)
  | .containBudgetSet t p k => some (containBudgetSetSpec, t, p, k)
  | .containRelease t p k => some (containReleaseSpec, t, p, k)
  | .containQuery t p k => some (containQuerySpec, t, p, k)
  | .polCounters t p k => some (polCountersSpec, t, p, k)
  | .flowCounters t p k => some (flowCountersSpec, t, p, k)
  | .timeQuery t p k => some (timeQuerySpec, t, p, k)
  | .timeDomainSet t p k => some (timeDomainSetSpec, t, p, k)
  | .timeRefSelect t p k => some (timeRefSelectSpec, t, p, k)
  | .timeRtcSet t p k => some (timeRtcSetSpec, t, p, k)
  | .legalSourceSet t p k => some (legalSourceSetSpec, t, p, k)
  | .legalTimePropose t p k => some (legalTimeProposeSpec, t, p, k)
  | .legalTimeForce t p k => some (legalTimeForceSpec, t, p, k)
  | .tcapSet t p k => some (tcapSetSpec, t, p, k)
  | .tcapQuery t p k => some (tcapQuerySpec, t, p, k)
  | .tcmpSet t p k => some (tcmpSetSpec, t, p, k)
  | .motionInputSet t p k => some (motionInputSetSpec, t, p, k)
  | .motionSourceSet t p k => some (motionSourceSetSpec, t, p, k)
  | .motionPairSet t p k => some (motionPairSetSpec, t, p, k)
  | .motionQuery t p k => some (motionQuerySpec, t, p, k)
  | .timeCounters t p k => some (timeCountersSpec, t, p, k)
  | .lcQuery t p k => some (lcQuerySpec, t, p, k)
  | .lcAdvance t p k => some (lcAdvanceSpec, t, p, k)
  | .lcChallenge t p k => some (lcChallengeSpec, t, p, k)
  | .tamperConfig t p k => some (tamperConfigSpec, t, p, k)
  | .kekLoadClear t p k => some (kekLoadClearSpec, t, p, k)
  | .kekRotate t p k => some (kekRotateSpec, t, p, k)
  | .keyStage t p k => some (keyStageSpec, t, p, k)
  | .keyDerive t p k => some (keyDeriveSpec, t, p, k)
  | .keyCommit t p k => some (keyCommitSpec, t, p, k)
  | .keyDiscard t p k => some (keyDiscardSpec, t, p, k)
  | .keyRevoke t p k => some (keyRevokeSpec, t, p, k)
  | .keyErase t p k => some (keyEraseSpec, t, p, k)
  | .keyQuery t p k => some (keyQuerySpec, t, p, k)
  | .attest t p k => some (attestSpec, t, p, k)
  | .identityQuery t p k => some (identityQuerySpec, t, p, k)
  | .sealRead t p k => some (sealReadSpec, t, p, k)
  | .sealAck t p k => some (sealAckSpec, t, p, k)
  | .sealCheckpoint t p k => some (sealCheckpointSpec, t, p, k)
  | .sealConfig t p k => some (sealConfigSpec, t, p, k)
  | .sealNote t p k => some (sealNoteSpec, t, p, k)
  | .heraxCounters t p k => some (heraxCountersSpec, t, p, k)
  | .protProfileSet t p k => some (protProfileSetSpec, t, p, k)
  | .protProfileQuery t p k => some (protProfileQuerySpec, t, p, k)
  | .macsecSecySet t p k => some (macsecSecySetSpec, t, p, k)
  | .macsecRxscSet t p k => some (macsecRxscSetSpec, t, p, k)
  | .macsecSaSet t p k => some (macsecSaSetSpec, t, p, k)
  | .macsecTxSwitch t p k => some (macsecTxSwitchSpec, t, p, k)
  | .macsecQuery t p k => some (macsecQuerySpec, t, p, k)
  | .secpduFvSet t p k => some (secpduFvSetSpec, t, p, k)
  | .cipherJob t p k => some (cipherJobSpec, t, p, k)
  | .cipherJobResume t p k => some (cipherJobResumeSpec, t, p, k)
  | .cipherJobCancel t p k => some (cipherJobCancelSpec, t, p, k)
  | .inbandBind t p k => some (inbandBindSpec, t, p, k)
  | .cipherCounters t p k => some (cipherCountersSpec, t, p, k)
  | .modeRequest t p k => some (modeRequestSpec, t, p, k)
  | .modeQuery t p k => some (modeQuerySpec, t, p, k)
  | .breezeConfig t p k => some (breezeConfigSpec, t, p, k)
  | .powerBankSet t p k => some (powerBankSetSpec, t, p, k)
  | .fbSegmentSet t p k => some (fbSegmentSetSpec, t, p, k)
  | .comparatorSet t p k => some (comparatorSetSpec, t, p, k)
  | .deviceReset t p k => some (deviceResetSpec, t, p, k)
  | .imageErase t p k => some (imageEraseSpec, t, p, k)
  | .imageWrite t p k => some (imageWriteSpec, t, p, k)
  | .imageVerify t p k => some (imageVerifySpec, t, p, k)
  | .fwActivate t p k => some (fwActivateSpec, t, p, k)
  | .cfgActivate t p k => some (cfgActivateSpec, t, p, k)
  | .imageConfirm t p k => some (imageConfirmSpec, t, p, k)
  | .imageQuery t p k => some (imageQuerySpec, t, p, k)
  | .cfgAuthoritySet t p k => some (cfgAuthoritySetSpec, t, p, k)
  | .pwrCounters t p k => some (pwrCountersSpec, t, p, k)
  | .sleepRingSet t p k => some (sleepRingSetSpec, t, p, k)
  | .pnSet t p k => some (pnSetSpec, t, p, k)
  | .sleepHold t p k => some (sleepHoldSpec, t, p, k)
  | .wakePortSet t p k => some (wakePortSetSpec, t, p, k)
  | .wakeFrameSet t p k => some (wakeFrameSetSpec, t, p, k)
  | .wakeNetwork t p k => some (wakeNetworkSpec, t, p, k)
  | .sleepQuery t p k => some (sleepQuerySpec, t, p, k)
  | .consentRingQuery t p k => some (consentRingQuerySpec, t, p, k)
  | .sleepCounters t p k => some (sleepCountersSpec, t, p, k)
  | .lnkConfig t p k => some (lnkConfigSpec, t, p, k)
  | .lnkQuery t p k => some (lnkQuerySpec, t, p, k)
  | .lnkCounters t p k => some (lnkCountersSpec, t, p, k)
  | .cascadeSet t p k => some (cascadeSetSpec, t, p, k)
  | .pairConfig t p k => some (pairConfigSpec, t, p, k)
  | .pairQuery t p k => some (pairQuerySpec, t, p, k)
  | .pairSwitch t p k => some (pairSwitchSpec, t, p, k)
  | .pairHold t p k => some (pairHoldSpec, t, p, k)
  | .pairCounters t p k => some (pairCountersSpec, t, p, k)
  | .remoteRead t p k => some (remoteReadSpec, t, p, k)
  | .remoteWrite t p k => some (remoteWriteSpec, t, p, k)
  | .safetyQuery t p k => some (safetyQuerySpec, t, p, k)
  | .leeConfig t p k => some (leeConfigSpec, t, p, k)
  | .leeEnter t p k => some (leeEnterSpec, t, p, k)
  | .leeExit t p k => some (leeExitSpec, t, p, k)
  | .ledgerRead t p k => some (ledgerReadSpec, t, p, k)
  | .ledgerClear t p k => some (ledgerClearSpec, t, p, k)
  | .safetyCounters t p k => some (safetyCountersSpec, t, p, k)
  | _ => none

/-- The state in which step 6 of R62 meets a packet: fetched, and its SEQ taken (R58, R61, R68). -/
def entered (p : Nat) (k : Packet) (s : State) : State :=
  updPartner p (fun x => { x with seqAny := false, seqNext := k.seq + 1 }) (fetched p k s)

/-- A packet passes steps 1 to 5 of R62: Pair A fetches it (R58, R68), its length and trailer are good (R57, R56),
its header fields are (R53, R54), and its SEQ is the next one or the first after a reset (R61). -/
structure Framed (o : CmdSpec) (t p : Nat) (k : Packet) (s : State) : Prop where
  fetch : canFetch p k (atTime t s) = true
  len : k.plen.toNat ≤ 4076
  crc : crcGood o.opcode k = true
  header : headerCheck o k = none
  seq : (partner s p).seqAny = true ∨ k.seq = (partner s p).seqNext

/-- A command outside a transaction is carried out: it passes every step of R62, no transaction of its partner
stands in the way of a change (R81), fewer than 16 asynchronous commands are outstanding where it is one (R73), and
it does not only check (R783). -/
structure Accepted (o : CmdSpec) (t p : Nat) (k : Packet) (s : State) : Prop where
  framed : Framed o t p k s
  single : bit k.flags.toNat 0 = false
  whole : bit k.flags.toNat 2 = false
  free : o.change = true → (partner s p).txn = none
  slots : o.async = true → s.kernel.asyncs.length < 16
  checks : o.check (ctxOf o p k) (entered p k (atTime t s)) = none

/-- An asynchronous command becomes outstanding (R72). -/
def started (o : CmdSpec) (p : Nat) (k : Packet) (s : State) : State :=
  if o.async then
    { s with kernel.asyncs := s.kernel.asyncs ++
        [{ partner := p, opcode := o.opcode, unit := k.unit.toNat, tag := k.tag, seq := k.seq
           params := padTo k.plen.toNat k.params, started := s.now }] }
  else s

/-- The command is answered on a state `y`: its reply is written (R55, R58), frames carry the replies of an in-band
partner (R602), and the clock, IT, RATE_ADJ, the mode and the queue are those of the instant (R485, R486, R622). -/
def respond (o : CmdSpec) (t p : Nat) (k : Packet) (a : Answer) (s y : State) : State :=
  holdBase (atTime t s) (inbandReplies p (writeReply p (replyTo o k a) { y with pair.remote := none }))

/-- What an accepted command leaves: its effect, and DONE or ACCEPTED with its reply parameters (R65, R72). -/
def completed (o : CmdSpec) (t p : Nat) (k : Packet) (s : State) : State :=
  let r := o.apply (ctxOf o p k) (started o p k (entered p k (atTime t s)))
  respond o t p k { status := if o.async then stAccepted else stDone, params := r.2 } s r.1

/-- A command whose last check is judged by a value the manual leaves open (the read-back of R658) passes everything before it. -/
structure Presented (o : CmdSpec) (t p : Nat) (k : Packet) (s : State) : Prop where
  framed : Framed o t p k s
  single : bit k.flags.toNat 0 = false
  whole : bit k.flags.toNat 2 = false
  free : o.change = true → (partner s p).txn = none
  slots : o.async = true → s.kernel.asyncs.length < 16
  checks : o.check (ctxOf o p k) (entered p k (atTime t s)) = none ∨
    o.check (ctxOf o p k) (entered p k (atTime t s)) = some { status := stCheckFail }

/-- It is carried out where the check succeeds, and answered CHECK_FAIL where it does not. -/
def judged (o : CmdSpec) (t p : Nat) (k : Packet) (s : State) : State :=
  let y := entered p k (atTime t s)
  match o.check (ctxOf o p k) y with
  | none => completed o t p k s
  | some r => respond o t p k { status := stCheckFail } s (o.onReject (ctxOf o p k) r y)

end Sys2Proof.Machine
end

