-- ==== Sys2Proof/WellFormed.lean ====
section
/-!
DEFINITION. Well-formed commands: every operand lies in the range in which the host, the wires, the pins or an
engine can supply it.
-/
namespace Sys2Proof

/-- A partner index (R47). -/
def partnerOk (p : Nat) : Bool := decide (p < 8)

/-- A packet's parameter area is PLEN bytes long (R53). -/
def packetOk (k : Packet) : Bool := k.params.length == k.plen.toNat

/-- A gport (R2). -/
def gportOk (g : Nat) : Bool := decide (g < 56)

/-- A CAN port (R2). -/
def isCanPort (g : Nat) : Bool := decide (g < 24)

/-- A LIN port (R2). -/
def isLinPort (g : Nat) : Bool := decide (24 ≤ g) && decide (g < 32)

/-- A 10BASE-T1S port (R2). -/
def isT1sPort (g : Nat) : Bool := decide (32 ≤ g) && decide (g < 38)

/-- An Ethernet port (R2). -/
def isEthPort (g : Nat) : Bool := decide (32 ≤ g) && decide (g < 50)

/-- A port with a wake detector (R235). -/
def isWired (g : Nat) : Bool := decide (g < 50)

/-- A link (R694). -/
def linkOk (k : Nat) : Bool := decide (k < 2)

/-- A descriptor ring (R123). -/
def ringOk (n : Nat) : Bool := decide (n < 128)

/-- A gPTP domain (R491). -/
def domainOk (d : Nat) : Bool := decide (d < 2)

/-- A direct E2E unit (R320). -/
def directOk (u : Nat) : Bool := u == 6 || u == 7

/-- The bytes of a feed of a direct unit (R315). -/
def sizeOk (n : Nat) : Bool := n == 1 || n == 2 || n == 4

/-- A number within bounds. -/
def inRange (v lo hi : Nat) : Bool := decide (lo ≤ v) && decide (v ≤ hi)

/-- A bus frame in the fields of its record (R198): identifier, format, length and DLC agree. -/
def frameOk (c : CanFrame) : Bool :=
  decide (c.id < 2 ^ (if c.ide then 29 else 11)) && decide (c.fmt < 4) && c.data.length == c.dlen &&
    decide (c.dlc < 16) && decide (c.dlen ≤ 2048)

/-- A link packet's header fields fit their widths (R696). -/
def linkPacketOk (p : LinkPacket) : Bool :=
  decide (p.typ < 256) && decide (p.vc < 256) && decide (p.lseq < 65536) && decide (p.lack < 65536) &&
    decide (p.src < 256) && decide (p.dst < 256) && decide (p.hops < 256) && decide (p.arg < 2 ^ 32)

/-- A mirror record names gports and ports that exist (R720). -/
def recordOk : MirrorRec → Bool
  | .lin g _ _ _ => isLinPort g
  | .ownAddress g sa _ => isCanPort g && decide (sa < 256)
  | .quarantine kind _ _ _ _ => decide (kind < 2)
  | _ => true

/-- An instruction is well formed: every operand is one that its source can supply. -/
def wellFormed : Instr → Bool
  | .echo _ p k => partnerOk p && packetOk k
  | .versionQuery _ p k => partnerOk p && packetOk k
  | .partnerSet _ p k => partnerOk p && packetOk k
  | .partnerQuery _ p k => partnerOk p && packetOk k
  | .eventSubscribe _ p k => partnerOk p && packetOk k
  | .evqConfig _ p k => partnerOk p && packetOk k
  | .txnAbort _ p k => partnerOk p && packetOk k
  | .evqReset _ p k => partnerOk p && packetOk k
  | .hostCmdDb _ p _ => partnerOk p
  | .hostRplDb _ p _ => partnerOk p
  | .hostEvqMarkDb _ p _ => partnerOk p
  | .hostEvqRewindDb _ p _ => partnerOk p
  | .hostEvqReleaseDb _ p _ => partnerOk p
  | .eventWindowRead _ p off => partnerOk p && decide (off < 32)
  | .txnTimeout _ p => partnerOk p
  | .evqCoalesceExpiry _ p => partnerOk p
  | .ringConfig _ p k => partnerOk p && packetOk k
  | .ringEnable _ p k => partnerOk p && packetOk k
  | .ringRestart _ p k => partnerOk p && packetOk k
  | .ringFree _ p k => partnerOk p && packetOk k
  | .ringQuery _ p k => partnerOk p && packetOk k
  | .dmmuCtxSet _ p k => partnerOk p && packetOk k
  | .dmmuMap _ p k => partnerOk p && packetOk k
  | .dmmuUnmap _ p k => partnerOk p && packetOk k
  | .dmmuQuery _ p k => partnerOk p && packetOk k
  | .windowSet _ p k => partnerOk p && packetOk k
  | .windowQuery _ p k => partnerOk p && packetOk k
  | .hostportQuery _ p k => partnerOk p && packetOk k
  | .hostsConfig _ p k => partnerOk p && packetOk k
  | .ringDb _ ring _ _ => ringOk ring
  | .txDmaFetch _ _ _ => true
  | .rxDmaDeliver _ _ => true
  | .ringCoalesceExpiry _ n => ringOk n
  | .pcieLinkDown _ => true
  | .pcieLinkUp _ _ _ => true
  | .pciePerst _ _ => true
  | .pcieCompletionTimeout _ ring => ring.all ringOk
  | .bar0Access _ p _ len write => partnerOk p && write.all (fun b => b.length == len)
  | .windowRead _ _ _ => true
  | .windowWrite _ _ _ => true
  | .prefetchDiscard _ p => partnerOk p
  | .nonpostedWriteDone _ p => partnerOk p
  | .ospiRead _ _ _ _ _ _ _ => true
  | .ospiWrite _ _ _ _ _ _ => true
  | .ospiStatusRead _ _ _ => true
  | .ospiFramingError _ => true
  | .keptReadExpiry _ p => partnerOk p
  | .portAdmin _ p k => partnerOk p && packetOk k
  | .portQuery _ p k => partnerOk p && packetOk k
  | .portCounters _ p k => partnerOk p && packetOk k
  | .portTsCorr _ p k => partnerOk p && packetOk k
  | .trxModeSet _ p k => partnerOk p && packetOk k
  | .wakeDetectSet _ p k => partnerOk p && packetOk k
  | .canConfig _ p k => partnerOk p && packetOk k
  | .canBittime _ p k => partnerOk p && packetOk k
  | .canRestrict _ p k => partnerOk p && packetOk k
  | .canRecover _ p k => partnerOk p && packetOk k
  | .linConfig _ p k => partnerOk p && packetOk k
  | .linScheduleSet _ p k => partnerOk p && packetOk k
  | .linScheduleSelect _ p k => partnerOk p && packetOk k
  | .ethConfig _ p k => partnerOk p && packetOk k
  | .ethFlowctl _ p k => partnerOk p && packetOk k
  | .t1sPlca _ p k => partnerOk p && packetOk k
  | .mdioAccess _ p k => partnerOk p && packetOk k
  | .canIntegrated _ g => isCanPort g
  | .canRxFrame t g c _ cap _ _ => isCanPort g && frameOk c && decide (cap ≤ t)
  | .canTxAttemptEnd t g _ cap _ => isCanPort g && decide (cap ≤ t)
  | .busOffRecovered _ g => isCanPort g
  | .trailerPresenceExpiry _ g => isCanPort g
  | .gtsHoldEnd _ g => isCanPort g
  | .linSlotStart t g _ cap => isLinPort g && decide (cap ≤ t)
  | .linRxFrame t g _ _ _ _ _ data cap _ => isLinPort g && decide (data.length ≤ 8) && decide (cap ≤ t)
  | .linResponseTimeout _ g => isLinPort g
  | .ethRxFrame t g _ _ cap _ _ => isEthPort g && decide (cap ≤ t)
  | .pauseWindowEnd _ g => isEthPort g
  | .pcsLockChange _ g _ => isEthPort g
  | .plcaStatus _ g _ => isT1sPort g
  | .preemptVerify _ g _ => isEthPort g
  | .phyResetRelease _ g => isEthPort g
  | .wakeDetect _ g _ _ _ => isWired g
  | .wakePatternTimeout _ g => isCanPort g
  | .cadenceMiss _ _ => true
  | .containHoldEnd _ _ _ => true
  | .pfcRefresh _ g _ => isEthPort g
  | .frerResetTimer _ _ => true
  | .fdbLearn _ => true
  | .patinaEpoch _ => true
  | .fdbAgeVisit _ _ => true
  | .egressSelect t g cap _ => gportOk g && decide (cap ≤ t)
  | .txComplete _ g _ => gportOk g
  | .gateWithdraw _ g => isCanPort g
  | .gateCycleStart _ _ _ => true
  | .gateApplied _ _ _ => true
  | .gateEntryChange _ _ _ => true
  | .preemptFragment _ g _ => isEthPort g
  | .residenceSweep _ g => gportOk g
  | .spillOut _ g _ => gportOk g
  | .spillIn _ g _ _ => gportOk g
  | .lpddr5Unavailable _ => true
  | .eccScrub _ _ _ _ _ => true
  | .pauseResponseWindowEnd _ g => isEthPort g
  | .bufAccountSet _ p k => partnerOk p && packetOk k
  | .bufFcSet _ p k => partnerOk p && packetOk k
  | .bufQuery _ p k => partnerOk p && packetOk k
  | .queueSet _ p k => partnerOk p && packetOk k
  | .spillConfig _ p k => partnerOk p && packetOk k
  | .spillQueue _ p k => partnerOk p && packetOk k
  | .cutThroughSet _ p k => partnerOk p && packetOk k
  | .preemptClasses _ p k => partnerOk p && packetOk k
  | .gateListSet _ p k => partnerOk p && packetOk k
  | .gateEnable _ p k => partnerOk p && packetOk k
  | .gateQuery _ p k => partnerOk p && packetOk k
  | .replSet _ p k => partnerOk p && packetOk k
  | .replQuery _ p k => partnerOk p && packetOk k
  | .frerSeqgenSet _ p k => partnerOk p && packetOk k
  | .frerRecoverySet _ p k => partnerOk p && packetOk k
  | .frerQuery _ p k => partnerOk p && packetOk k
  | .frerReset _ p k => partnerOk p && packetOk k
  | .swCounters _ p k => partnerOk p && packetOk k
  | .gwTakeFrame _ => true
  | .containerRelease _ _ => true
  | .cyclicDue _ _ => true
  | .minGapEnd _ _ => true
  | .pduTimeout _ _ => true
  | .tpTimerExpiry _ _ => true
  | .tpSegmentRelease _ _ => true
  | .j1939ClaimRx _ g _ _ _ => isCanPort g
  | .j1939BindingCommit _ => true
  | .pduDefine _ p k => partnerOk p && packetOk k
  | .pduRemove _ p k => partnerOk p && packetOk k
  | .pduQuery _ p k => partnerOk p && packetOk k
  | .mapAdd _ p k => partnerOk p && packetOk k
  | .mapRemove _ p k => partnerOk p && packetOk k
  | .mapQuery _ p k => partnerOk p && packetOk k
  | .contDefine _ p k => partnerOk p && packetOk k
  | .contRemove _ p k => partnerOk p && packetOk k
  | .contQuery _ p k => partnerOk p && packetOk k
  | .contFlush _ p k => partnerOk p && packetOk k
  | .e2eProfileSet _ p k => partnerOk p && packetOk k
  | .e2eCompute _ p k => partnerOk p && packetOk k
  | .tpChannelSet _ p k => partnerOk p && packetOk k
  | .tpChannelRemove _ p k => partnerOk p && packetOk k
  | .tpSessionQuery _ p k => partnerOk p && packetOk k
  | .tpAbort _ p k => partnerOk p && packetOk k
  | .j1939Bind _ p k => partnerOk p && packetOk k
  | .j1939Unbind _ p k => partnerOk p && packetOk k
  | .j1939Claims _ p k => partnerOk p && packetOk k
  | .j1939RewriteSet _ p k => partnerOk p && packetOk k
  | .j1939OwnAddress _ p k => partnerOk p && packetOk k
  | .gwCounters _ p k => partnerOk p && packetOk k
  | .gwE2eCtrl _ u _ => directOk u
  | .gwE2eFeed _ u size _ => directOk u && sizeOk size
  | .tableCommit _ p k => partnerOk p && packetOk k
  | .tableDiscard _ p k => partnerOk p && packetOk k
  | .tableGenQuery _ p k => partnerOk p && packetOk k
  | .tableRehash _ p k => partnerOk p && packetOk k
  | .rehashComplete _ => true
  | .generationRetire _ _ => true
  | .sieveRuleSet _ p k => partnerOk p && packetOk k
  | .sieveRuleQuery _ p k => partnerOk p && packetOk k
  | .sievePortSet _ p k => partnerOk p && packetOk k
  | .flowSet _ p k => partnerOk p && packetOk k
  | .flowQuery _ p k => partnerOk p && packetOk k
  | .fdbAdd _ p k => partnerOk p && packetOk k
  | .fdbDelete _ p k => partnerOk p && packetOk k
  | .fdbSearch _ p k => partnerOk p && packetOk k
  | .fdbNext _ p k => partnerOk p && packetOk k
  | .fdbFlush _ p k => partnerOk p && packetOk k
  | .fdbFlushComplete _ => true
  | .fdbAgeSet _ p k => partnerOk p && packetOk k
  | .fdbUnlock _ p k => partnerOk p && packetOk k
  | .canRouteAdd _ p k => partnerOk p && packetOk k
  | .canRouteDelete _ p k => partnerOk p && packetOk k
  | .canRouteSearch _ p k => partnerOk p && packetOk k
  | .canRouteNext _ p k => partnerOk p && packetOk k
  | .canMaskSet _ p k => partnerOk p && packetOk k
  | .lpmAdd _ p k => partnerOk p && packetOk k
  | .lpmDelete _ p k => partnerOk p && packetOk k
  | .lpmSearch _ p k => partnerOk p && packetOk k
  | .lpmNext _ p k => partnerOk p && packetOk k
  | .maquetteSet _ p k => partnerOk p && packetOk k
  | .maquetteScan _ => true
  | .tblCounters _ p k => partnerOk p && packetOk k
  | .policerSet _ p k => partnerOk p && packetOk k
  | .policerQuery _ p k => partnerOk p && packetOk k
  | .policerReset _ p k => partnerOk p && packetOk k
  | .sfSet _ p k => partnerOk p && packetOk k
  | .sgateListSet _ p k => partnerOk p && packetOk k
  | .sfQuery _ p k => partnerOk p && packetOk k
  | .sfReset _ p k => partnerOk p && packetOk k
  | .cadenceProfileSet _ p k => partnerOk p && packetOk k
  | .cadenceSet _ p k => partnerOk p && packetOk k
  | .cadenceQuery _ p k => partnerOk p && packetOk k
  | .cadenceRelearn _ p k => partnerOk p && packetOk k
  | .sourceSet _ p k => partnerOk p && packetOk k
  | .containBudgetSet _ p k => partnerOk p && packetOk k
  | .containRelease _ p k => partnerOk p && packetOk k
  | .containQuery _ p k => partnerOk p && packetOk k
  | .polCounters _ p k => partnerOk p && packetOk k
  | .flowCounters _ p k => partnerOk p && packetOk k
  | .timeQuery _ p k => partnerOk p && packetOk k
  | .timeDomainSet _ p k => partnerOk p && packetOk k
  | .timeRefSelect _ p k => partnerOk p && packetOk k
  | .timeRtcSet _ p k => partnerOk p && packetOk k
  | .legalSourceSet _ p k => partnerOk p && packetOk k
  | .legalTimePropose _ p k => partnerOk p && packetOk k
  | .legalTimeForce _ p k => partnerOk p && packetOk k
  | .tcapSet _ p k => partnerOk p && packetOk k
  | .tcapQuery _ p k => partnerOk p && packetOk k
  | .tcmpSet _ p k => partnerOk p && packetOk k
  | .motionInputSet _ p k => partnerOk p && packetOk k
  | .motionSourceSet _ p k => partnerOk p && packetOk k
  | .motionPairSet _ p k => partnerOk p && packetOk k
  | .motionQuery _ p k => partnerOk p && packetOk k
  | .timeCounters _ p k => partnerOk p && packetOk k
  | .timeItNs _ _ => true
  | .timeLegalLo _ _ => true
  | .gptpSyncRx _ d _ _ _ _ _ _ => domainOk d
  | .syncTimeout _ d => domainOk d
  | .gptpSyncTx _ d frames => domainOk d && frames.all (fun e => isEthPort e.1)
  | .legalCheck _ => true
  | .legalFloorWrite _ => true
  | .leapSecond _ => true
  | .tcapEdge _ _ _ => true
  | .tcmpEdge _ _ => true
  | .mpulEdge _ _ _ => true
  | .motionWindow _ => true
  | .lcQuery _ p k => partnerOk p && packetOk k
  | .lcAdvance _ p k => partnerOk p && packetOk k
  | .lcChallenge _ p k => partnerOk p && packetOk k
  | .tamperConfig _ p k => partnerOk p && packetOk k
  | .kekLoadClear _ p k => partnerOk p && packetOk k
  | .kekRotate _ p k => partnerOk p && packetOk k
  | .keyStage _ p k => partnerOk p && packetOk k
  | .keyDerive _ p k => partnerOk p && packetOk k
  | .keyCommit _ p k => partnerOk p && packetOk k
  | .keyDiscard _ p k => partnerOk p && packetOk k
  | .keyRevoke _ p k => partnerOk p && packetOk k
  | .keyErase _ p k => partnerOk p && packetOk k
  | .keyQuery _ p k => partnerOk p && packetOk k
  | .attest _ p k => partnerOk p && packetOk k
  | .identityQuery _ p k => partnerOk p && packetOk k
  | .sealRead _ p k => partnerOk p && packetOk k
  | .sealAck _ p k => partnerOk p && packetOk k
  | .sealCheckpoint _ p k => partnerOk p && packetOk k
  | .sealConfig _ p k => partnerOk p && packetOk k
  | .sealNote _ p k => partnerOk p && packetOk k
  | .heraxCounters _ p k => partnerOk p && packetOk k
  | .heraxSealHeadLo _ => true
  | .heraxSealAckLo _ => true
  | .tamperDetect _ n => decide (n < 5)
  | .wipeComplete _ => true
  | .sealRecordWrite _ => true
  | .checkpoint _ => true
  | .protProfileSet _ p k => partnerOk p && packetOk k
  | .protProfileQuery _ p k => partnerOk p && packetOk k
  | .macsecSecySet _ p k => partnerOk p && packetOk k
  | .macsecRxscSet _ p k => partnerOk p && packetOk k
  | .macsecSaSet _ p k => partnerOk p && packetOk k
  | .macsecTxSwitch _ p k => partnerOk p && packetOk k
  | .macsecQuery _ p k => partnerOk p && packetOk k
  | .secpduFvSet _ p k => partnerOk p && packetOk k
  | .cipherJob _ p k => partnerOk p && packetOk k
  | .cipherJobResume _ p k => partnerOk p && packetOk k
  | .cipherJobCancel _ p k => partnerOk p && packetOk k
  | .inbandBind _ p k => partnerOk p && packetOk k
  | .cipherCounters _ p k => partnerOk p && packetOk k
  | .cipherDispatch _ => true
  | .cipherMessageDone _ _ => true
  | .cipherAbort _ _ _ _ _ => true
  | .jobFault _ _ _ => true
  | .cipherJobComplete _ p _ => partnerOk p
  | .zeroingComplete _ p _ => partnerOk p
  | .inbandFrame _ => true
  | .modeRequest _ p k => partnerOk p && packetOk k
  | .modeQuery _ p k => partnerOk p && packetOk k
  | .breezeConfig _ p k => partnerOk p && packetOk k
  | .powerBankSet _ p k => partnerOk p && packetOk k
  | .fbSegmentSet _ p k => partnerOk p && packetOk k
  | .segmentOff _ k => decide (k < 16)
  | .comparatorSet _ p k => partnerOk p && packetOk k
  | .deviceReset _ p k => partnerOk p && packetOk k
  | .imageErase _ p k => partnerOk p && packetOk k
  | .imageEraseComplete _ slot _ => decide (slot < 6)
  | .imageWrite _ p k => partnerOk p && packetOk k
  | .imageVerify _ p k => partnerOk p && packetOk k
  | .imageVerifyComplete _ slot _ => decide (slot < 6)
  | .fwActivate _ p k => partnerOk p && packetOk k
  | .hitlessComplete _ _ => true
  | .cfgActivate _ p k => partnerOk p && packetOk k
  | .imageConfirm _ p k => partnerOk p && packetOk k
  | .imageQuery _ p k => partnerOk p && packetOk k
  | .cfgAuthoritySet _ p k => partnerOk p && packetOk k
  | .pwrCounters _ p k => partnerOk p && packetOk k
  | .comparatorDetect _ c _ => decide (c < 8)
  | .porst _ _ => true
  | .sysRst _ _ => true
  | .pwrGoodFall _ => true
  | .pwrGoodRise _ => true
  | .pwrGoodTimeout _ => true
  | .slowclkStable _ => true
  | .startUp t rst _ _ unread _ _ => decide (rst ≤ t) && unread.all (fun i => decide (i < 6))
  | .sleepEntry _ => true
  | .zephyrResume t rst _ h _ => decide (rst ≤ t) && h.length == 32
  | .calmAfterExpiry _ => true
  | .atelierExpiry _ => true
  | .modeTransitionDone _ => true
  | .ledgerPersist _ => true
  | .sleepRingSet _ p k => partnerOk p && packetOk k
  | .pnSet _ p k => partnerOk p && packetOk k
  | .sleepHold _ p k => partnerOk p && packetOk k
  | .wakePortSet _ p k => partnerOk p && packetOk k
  | .wakeFrameSet _ p k => partnerOk p && packetOk k
  | .wakeNetwork _ p k => partnerOk p && packetOk k
  | .sleepQuery _ p k => partnerOk p && packetOk k
  | .consentRingQuery _ p k => partnerOk p && packetOk k
  | .sleepCounters _ p k => partnerOk p && packetOk k
  | .ringMessageRx _ g m _ => gportOk g && m.length == 8
  | .tokenPass _ => true
  | .joinTimeout _ => true
  | .tokenTimeout _ => true
  | .tokenLost _ => true
  | .objectionWindowEnd _ => true
  | .falseWakeWindowEnd _ g => isWired g
  | .awakeWindowEnd _ => true
  | .tc10Poll _ g _ => isEthPort g
  | .tc10WindowEnd _ g => isEthPort g
  | .lnkConfig _ p k => partnerOk p && packetOk k
  | .lnkQuery _ p k => partnerOk p && packetOk k
  | .lnkCounters _ p k => partnerOk p && packetOk k
  | .cascadeSet _ p k => partnerOk p && packetOk k
  | .pairConfig _ p k => partnerOk p && packetOk k
  | .pairQuery _ p k => partnerOk p && packetOk k
  | .pairSwitch _ p k => partnerOk p && packetOk k
  | .pairHold _ p k => partnerOk p && packetOk k
  | .pairCounters _ p k => partnerOk p && packetOk k
  | .remoteRead _ p k => partnerOk p && packetOk k
  | .remoteWrite _ p k => partnerOk p && packetOk k
  | .remoteReadTimeout _ => true
  | .safetyQuery _ p k => partnerOk p && packetOk k
  | .leeConfig _ p k => partnerOk p && packetOk k
  | .leeEnter _ p k => partnerOk p && packetOk k
  | .leeExit _ p k => partnerOk p && packetOk k
  | .ledgerRead _ p k => partnerOk p && packetOk k
  | .ledgerClear _ p k => partnerOk p && packetOk k
  | .safetyCounters _ p k => partnerOk p && packetOk k
  | .lnkPacketRx t k pk bus recs cap => linkOk k && linkPacketOk pk && bus.all frameOk && recs.all recordOk && decide (cap ≤ t)
  | .lnkReplayTimeout _ k => linkOk k
  | .lnkLaneChange _ k _ _ _ => linkOk k
  | .relayCreditTimeout _ k => linkOk k
  | .heartbeatTx _ => true
  | .pairHbOutToggle _ => true
  | .pairHbInEdge _ => true
  | .heartbeatLost _ => true
  | .startWaitExpiry _ => true
  | .mirrorStall _ => true
  | .syncComplete _ _ => true
  | .holdOffExpiry _ => true
  | .watchdogExpiry _ => true
  | .lbistSlot _ len _ => decide (len ≤ 1000000)
  | .forwardingMonitor _ => true
  | .clockMonitor _ n _ => inRange n 3 13
  | .lockstepMismatch _ n => decide (n < 3)
  | .supplyMonitor _ _ _ => true
  | .stateCompare _ _ _ => true
  | .registerWrite _ _ addr _ => addr % 4 == 0
  | .busIdle _ g _ => (isCanPort g || isLinPort g)
  | .postedWriteDone _ => true
  | .grandmasterElected _ d _ => domainOk d
  | .pathDelayMeasure _ g _ => gportOk g
  | .slewAbsorbed _ => true
  | .vstby1v8Drop _ => true
  | .monotonicCounterWrite _ _ => true

end Sys2Proof
end

