-- ==== Sys2Proof/Certificates/Slice0/Obligations.lean ====
section
/-!
DEFINITION. The statements for the provers. Each docstring names the rules of spec/ that its statement follows.
-/
open Sys2Proof Sys2Proof.Machine

/-- A step runs the command at the front of the queue on the state with the rest of the queue. -/
def Obligations.StepRunsTheFrontCommand : Prop :=
  ∀ (c : Instr) (rest : List Instr) (s : State), s.pending = c :: rest →
    step s = exec c { s with pending := rest }

/-- On an empty queue the block idles: the model's choice (log entry 34). -/
def Obligations.EmptyQueueIdles : Prop :=
  ∀ s : State, s.pending = [] → step s = .next s

/-- R44, R50, R59, R88, R105, R107, R126, R153, R157, R184, R188, R231, R485: what reset leaves where the spec gives a
value. -/
def Obligations.ResetValues : Prop :=
  let s := State.reset
  s.mode = .calm ∧ s.it = 0 ∧ s.rateAdj = 0 ∧ s.pending = [] ∧ s.kernel.summaryValid = false ∧ s.kernel.w1c = [] ∧
    (∀ p, (partner s p).transport = 0 ∧ (partner s p).seqAny = true ∧ (partner s p).evq.lastSeq = 0 ∧
      (partner s p).reqHead = (partner s p).reqTail ∧ (partner s p).rplHead = (partner s p).rplTail) ∧
    (∀ g, (canOf s g).config = 0x01F40010 ∧ (canOf s g).bitN = 0x078F3E01 ∧ (canOf s g).trxMode = 2 ∧
      (linOf s g).commander = false ∧ (linOf s g).en = false) ∧
    s.host.lat = 40 ∧ s.host.linkUp = false ∧ s.host.rings = [] ∧ s.time.ref = 0 ∧ s.sleep.st = .off ∧
    s.pair.st = .unpaired ∧ (∀ a, counter s a = 0)

/-- The invariant holds after reset. -/
def Obligations.ResetMeetsInv : Prop := StateInv State.reset

/-- R31, R486, R611, R617: every step keeps RATE_ADJ within 250 ppm and the main domain out of reset exactly in the
modes in which TSCLK runs. -/
def Obligations.StepKeepsInv : Prop :=
  ∀ s s' : State, StateInv s → step s = .next s' → StateInv s'

/-- No command changes the queue: it takes itself, and the others wait their turn. -/
def Obligations.CommandsLeaveTheQueue : Prop :=
  ∀ (i : Instr) (s s' : State), exec i s = .next s' → s'.pending = s.pending

/-- R622, R625, R627 to R630: the mode changes by a transition of R622, by the entry to a sleep mode, by a start-up or
a resume, or by a reset, which leaves Calm until the next start-up; a reset that was due is performed by a start-up
itself. -/
def Obligations.ModeChangesOnlyAsAllowed : Prop :=
  ∀ (i : Instr) (s s' : State), exec i s = .next s' →
    mayChange s.mode s'.mode = true ∨
      s.power.resetDue ≠ none ∧ (∃ t a b c d e f, i = .startUp t a b c d e f) ∧ mayChange .calm s'.mode = true

/-- R486: only the servo writes RATE_ADJ, at the reception of a Sync; a reset clears it. -/
def Obligations.OnlyTheServoWritesRateAdj : Prop :=
  ∀ (i : Instr) (s s' : State), exec i s = .next s' →
    s'.rateAdj = s.rateAdj ∨ s'.rateAdj = 0 ∨
      ∃ t d stamp master rr adj utc leap, i = .gptpSyncRx t d stamp master rr adj utc leap

/-- R485, R488: no command sets IT. It advances with the clock while TSCLK runs, by 2 ns plus RATE_ADJ in each tick, a
reset clears it or leaves it to the Plinth, and a start-up or a resume sets it. -/
def Obligations.NoCommandSetsTheInternalTime : Prop :=
  ∀ (i : Instr) (s s' : State), exec i s = .next s' →
    (∃ n, s'.it = s.it + n * itStep s ∧ (tsclkRuns s = false → n = 0)) ∨ s'.it = 0 ∨
      (∃ t a b c d e f, i = .startUp t a b c d e f) ∨ ∃ t a b c d, i = .zephyrResume t a b c d

/-- R58, R68, R71, R711: a command that Pair A cannot fetch waits: time passes, and nothing else changes. -/
def Obligations.CommandsWaitToBeFetched : Prop :=
  ∀ (i : Instr) (o : CmdSpec) (t p : Nat) (k : Packet) (s : State), commandOf i = some (o, t, p, k) →
    canFetch p k (atTime t s) = false → exec i s = .next (atTime t s)

/-- R57, R61, R63: a packet whose PLEN is too large, whose trailer is wrong or whose VERSION is not 1 is answered so;
its slots are consumed, the expected SEQ stays, and nothing else is done. -/
def Obligations.PacketsFailTheFirstChecks : Prop :=
  ∀ (i : Instr) (o : CmdSpec) (t p : Nat) (k : Packet) (s : State), commandOf i = some (o, t, p, k) →
    canFetch p k (atTime t s) = true →
    let after (a : Answer) := Host.Outcome.next (respond o t p k a s (fetched p k (atTime t s)))
    (4076 < k.plen.toNat → exec i s = after { status := 0x0102 }) ∧
    (k.plen.toNat ≤ 4076 → crcGood o.opcode k = false → exec i s = after { status := 0x0109 }) ∧
    (k.plen.toNat ≤ 4076 → crcGood o.opcode k = true → k.version ≠ 1 →
      exec i s = after { status := 0x0103, params := le 2 0x8000 ++ zeros 2 })

/-- R62, R64, R67: a command that a check rejects applies nothing: beside its reply it leaves only what the rejection
itself records. -/
def Obligations.RejectionsApplyNothing : Prop :=
  ∀ (i : Instr) (o : CmdSpec) (t p : Nat) (k : Packet) (s : State) (r : Reject), commandOf i = some (o, t, p, k) →
    Framed o t p k s → bit k.flags.toNat 0 = false →
    let y := entered p k (atTime t s)
    o.check (ctxOf o p k) y = some r → exec i s = .next (respond o t p k
      { status := r.status, params := if r.status = 0x0103 then le 2 r.off ++ zeros 2 else [] } s
      (o.onReject (ctxOf o p k) r y))

/-- R62, R73, R81, R783: CHECK_ONLY is answered DONE and applies nothing; a change of a partner with an open
transaction and a 17th asynchronous command are answered BUSY. -/
def Obligations.ChecksWithoutEffect : Prop :=
  ∀ (i : Instr) (o : CmdSpec) (t p : Nat) (k : Packet) (s : State), commandOf i = some (o, t, p, k) →
    Framed o t p k s → bit k.flags.toNat 0 = false →
    let y := entered p k (atTime t s)
    o.check (ctxOf o p k) y = none →
    (o.change = true ∧ (partner s p).txn ≠ none ∨ o.async = true ∧ 16 ≤ s.kernel.asyncs.length →
      exec i s = .next (respond o t p k { status := 0x0107 } s y)) ∧
    ((o.change = true → (partner s p).txn = none) → (o.async = true → s.kernel.asyncs.length < 16) →
      bit k.flags.toNat 2 = true → exec i s = .next (respond o t p k { status := 0x0000 } s y))

/-- R75, R77, R78, R80, R82: a member without TXN_LAST of the open transaction that passes every check is answered
STAGED and held in order, with nothing applied; one that fails makes the transaction failed; a member of another
transaction is answered BUSY. -/
def Obligations.MembersAreHeld : Prop :=
  ∀ (i : Instr) (o : CmdSpec) (t p : Nat) (k : Packet) (s : State) (x : Txn), commandOf i = some (o, t, p, k) →
    Framed o t p k s → bit k.flags.toNat 0 = true → bit k.flags.toNat 1 = false →
    (partner s p).txn = some x →
    let y := entered p k (atTime t s)
    let c := ctxOf o p k
    let m : Member := { opcode := o.opcode, unit := k.unit.toNat, tag := k.tag, seq := k.seq, params := c.ps }
    (x.id = k.txn.toNat → x.failed = false → x.members.length < 256 →
      (x.members.map fun m => m.params.length).sum + c.ps.length ≤ 65536 →
      (o.check c y = none → exec i s = .next (respond o t p k { status := 0x0002 } s
        (setTxn p (some { x with members := x.members ++ [m], last := y.now }) y))) ∧
      (∀ r, o.check c y = some r → exec i s = .next (respond o t p k r.answer s
        (setTxn p (some { x with failed := true, last := y.now }) (o.onReject c r y))))) ∧
    (x.id ≠ k.txn.toNat → o.check c y = none → exec i s = .next (respond o t p k { status := 0x0107 } s y))

/-- R79: the member with TXN_LAST ends the transaction: every member is applied in order, or, where a check fails,
nothing is, and the reply names the failing member. -/
def Obligations.TransactionsApplyWholly : Prop :=
  ∀ (i : Instr) (o : CmdSpec) (t p : Nat) (k : Packet) (s : State) (x : Txn), commandOf i = some (o, t, p, k) →
    o.opcode ≠ 0x0911 → Framed o t p k s → k.flags = 3 → (partner s p).txn = some x → x.id = k.txn.toNat →
    x.failed = false → x.members.length < 256 →
    let y := entered p k (atTime t s)
    let c := ctxOf o p k
    let m : Member := { opcode := o.opcode, unit := k.unit.toNat, tag := k.tag, seq := k.seq, params := c.ps }
    (x.members.map fun m => m.params.length).sum + c.ps.length ≤ 65536 →
    (∀ y' out, applyMembers specOf p 0 (x.members ++ [m]) [] y = .ok (y', out) →
      exec i s = .next (respond o t p k { status := 0x0000, params := out } s (setTxn p none y'))) ∧
    (∀ n r e, applyMembers specOf p 0 (x.members ++ [m]) [] y = .error (n, r, e) →
      exec i s = .next (respond o t p k
        { status := r.status, params := le 2 (if r.status = 0x0103 then r.off else 0) ++ le 2 n } s
        (setTxn p none (match specOf e.opcode with
          | some oe => oe.onReject e r y
          | none => y))))

/-- R711: an accepted REMOTE_READ takes effect, and its reply waits for the completion. -/
def Obligations.RemoteReadWaitsForItsCompletion : Prop :=
  ∀ (t p : Nat) (k : Packet) (s : State) (r : Remote), Accepted remoteReadSpec t p k s →
    let y := remoteReadSpec.apply (ctxOf remoteReadSpec p k) (entered p k (atTime t s))
    y.1.pair.remote = some r → exec (.remoteRead t p k) s =
      .next (holdBase (atTime t s) (inbandReplies p { y.1 with pair.remote := some { r with pkt := some k } }))

/-- R52 to R74: every command of the Sprinaz service, the host attachment and power and start-up that is accepted has
its effect and is answered. IMAGE_WRITE rests on the read-back, which the manual leaves open: both outcomes (log 36).
-/
def Obligations.ServiceHostAndPowerCommandsComplete : Prop :=
  ∀ (t p : Nat) (k : Packet) (s : State),
    (Accepted echoSpec t p k s → exec (.echo t p k) s = .next (completed echoSpec t p k s)) ∧
    (Accepted versionQuerySpec t p k s → exec (.versionQuery t p k) s = .next (completed versionQuerySpec t p k s)) ∧
    (Accepted partnerSetSpec t p k s → exec (.partnerSet t p k) s = .next (completed partnerSetSpec t p k s)) ∧
    (Accepted partnerQuerySpec t p k s → exec (.partnerQuery t p k) s = .next (completed partnerQuerySpec t p k s)) ∧
    (Accepted eventSubscribeSpec t p k s → exec (.eventSubscribe t p k) s = .next (completed eventSubscribeSpec t p k s)) ∧
    (Accepted evqConfigSpec t p k s → exec (.evqConfig t p k) s = .next (completed evqConfigSpec t p k s)) ∧
    (Accepted txnAbortSpec t p k s → exec (.txnAbort t p k) s = .next (completed txnAbortSpec t p k s)) ∧
    (Accepted evqResetSpec t p k s → exec (.evqReset t p k) s = .next (completed evqResetSpec t p k s)) ∧
    (Accepted ringConfigSpec t p k s → exec (.ringConfig t p k) s = .next (completed ringConfigSpec t p k s)) ∧
    (Accepted ringEnableSpec t p k s → exec (.ringEnable t p k) s = .next (completed ringEnableSpec t p k s)) ∧
    (Accepted ringRestartSpec t p k s → exec (.ringRestart t p k) s = .next (completed ringRestartSpec t p k s)) ∧
    (Accepted ringFreeSpec t p k s → exec (.ringFree t p k) s = .next (completed ringFreeSpec t p k s)) ∧
    (Accepted ringQuerySpec t p k s → exec (.ringQuery t p k) s = .next (completed ringQuerySpec t p k s)) ∧
    (Accepted dmmuCtxSetSpec t p k s → exec (.dmmuCtxSet t p k) s = .next (completed dmmuCtxSetSpec t p k s)) ∧
    (Accepted dmmuMapSpec t p k s → exec (.dmmuMap t p k) s = .next (completed dmmuMapSpec t p k s)) ∧
    (Accepted dmmuUnmapSpec t p k s → exec (.dmmuUnmap t p k) s = .next (completed dmmuUnmapSpec t p k s)) ∧
    (Accepted dmmuQuerySpec t p k s → exec (.dmmuQuery t p k) s = .next (completed dmmuQuerySpec t p k s)) ∧
    (Accepted windowSetSpec t p k s → exec (.windowSet t p k) s = .next (completed windowSetSpec t p k s)) ∧
    (Accepted windowQuerySpec t p k s → exec (.windowQuery t p k) s = .next (completed windowQuerySpec t p k s)) ∧
    (Accepted modeRequestSpec t p k s → exec (.modeRequest t p k) s = .next (completed modeRequestSpec t p k s)) ∧
    (Accepted modeQuerySpec t p k s → exec (.modeQuery t p k) s = .next (completed modeQuerySpec t p k s)) ∧
    (Accepted breezeConfigSpec t p k s → exec (.breezeConfig t p k) s = .next (completed breezeConfigSpec t p k s)) ∧
    (Accepted powerBankSetSpec t p k s → exec (.powerBankSet t p k) s = .next (completed powerBankSetSpec t p k s)) ∧
    (Accepted fbSegmentSetSpec t p k s → exec (.fbSegmentSet t p k) s = .next (completed fbSegmentSetSpec t p k s)) ∧
    (Accepted comparatorSetSpec t p k s → exec (.comparatorSet t p k) s = .next (completed comparatorSetSpec t p k s)) ∧
    (Accepted deviceResetSpec t p k s → exec (.deviceReset t p k) s = .next (completed deviceResetSpec t p k s)) ∧
    (Accepted imageEraseSpec t p k s → exec (.imageErase t p k) s = .next (completed imageEraseSpec t p k s)) ∧
    (Presented imageWriteSpec t p k s → exec (.imageWrite t p k) s = .next (judged imageWriteSpec t p k s)) ∧
    (Accepted imageVerifySpec t p k s → exec (.imageVerify t p k) s = .next (completed imageVerifySpec t p k s)) ∧
    (Accepted fwActivateSpec t p k s → exec (.fwActivate t p k) s = .next (completed fwActivateSpec t p k s)) ∧
    (Accepted cfgActivateSpec t p k s → exec (.cfgActivate t p k) s = .next (completed cfgActivateSpec t p k s)) ∧
    (Accepted imageConfirmSpec t p k s → exec (.imageConfirm t p k) s = .next (completed imageConfirmSpec t p k s)) ∧
    (Accepted imageQuerySpec t p k s → exec (.imageQuery t p k) s = .next (completed imageQuerySpec t p k s)) ∧
    (Accepted cfgAuthoritySetSpec t p k s → exec (.cfgAuthoritySet t p k) s = .next (completed cfgAuthoritySetSpec t p k s)) ∧
    (Accepted pwrCountersSpec t p k s → exec (.pwrCounters t p k) s = .next (completed pwrCountersSpec t p k s))

/-- R52 to R74: every command of the ports and the switch fabric that is accepted has its effect and is answered. -/
def Obligations.PortAndSwitchCommandsComplete : Prop :=
  ∀ (t p : Nat) (k : Packet) (s : State),
    (Accepted hostportQuerySpec t p k s → exec (.hostportQuery t p k) s = .next (completed hostportQuerySpec t p k s)) ∧
    (Accepted hostsConfigSpec t p k s → exec (.hostsConfig t p k) s = .next (completed hostsConfigSpec t p k s)) ∧
    (Accepted portAdminSpec t p k s → exec (.portAdmin t p k) s = .next (completed portAdminSpec t p k s)) ∧
    (Accepted portQuerySpec t p k s → exec (.portQuery t p k) s = .next (completed portQuerySpec t p k s)) ∧
    (Accepted portCountersSpec t p k s → exec (.portCounters t p k) s = .next (completed portCountersSpec t p k s)) ∧
    (Accepted portTsCorrSpec t p k s → exec (.portTsCorr t p k) s = .next (completed portTsCorrSpec t p k s)) ∧
    (Accepted trxModeSetSpec t p k s → exec (.trxModeSet t p k) s = .next (completed trxModeSetSpec t p k s)) ∧
    (Accepted wakeDetectSetSpec t p k s → exec (.wakeDetectSet t p k) s = .next (completed wakeDetectSetSpec t p k s)) ∧
    (Accepted canConfigSpec t p k s → exec (.canConfig t p k) s = .next (completed canConfigSpec t p k s)) ∧
    (Accepted canBittimeSpec t p k s → exec (.canBittime t p k) s = .next (completed canBittimeSpec t p k s)) ∧
    (Accepted canRestrictSpec t p k s → exec (.canRestrict t p k) s = .next (completed canRestrictSpec t p k s)) ∧
    (Accepted canRecoverSpec t p k s → exec (.canRecover t p k) s = .next (completed canRecoverSpec t p k s)) ∧
    (Accepted linConfigSpec t p k s → exec (.linConfig t p k) s = .next (completed linConfigSpec t p k s)) ∧
    (Accepted linScheduleSetSpec t p k s → exec (.linScheduleSet t p k) s = .next (completed linScheduleSetSpec t p k s)) ∧
    (Accepted linScheduleSelectSpec t p k s → exec (.linScheduleSelect t p k) s = .next (completed linScheduleSelectSpec t p k s)) ∧
    (Accepted ethConfigSpec t p k s → exec (.ethConfig t p k) s = .next (completed ethConfigSpec t p k s)) ∧
    (Accepted ethFlowctlSpec t p k s → exec (.ethFlowctl t p k) s = .next (completed ethFlowctlSpec t p k s)) ∧
    (Accepted t1sPlcaSpec t p k s → exec (.t1sPlca t p k) s = .next (completed t1sPlcaSpec t p k s)) ∧
    (Accepted mdioAccessSpec t p k s → exec (.mdioAccess t p k) s = .next (completed mdioAccessSpec t p k s)) ∧
    (Accepted bufAccountSetSpec t p k s → exec (.bufAccountSet t p k) s = .next (completed bufAccountSetSpec t p k s)) ∧
    (Accepted bufFcSetSpec t p k s → exec (.bufFcSet t p k) s = .next (completed bufFcSetSpec t p k s)) ∧
    (Accepted bufQuerySpec t p k s → exec (.bufQuery t p k) s = .next (completed bufQuerySpec t p k s)) ∧
    (Accepted queueSetSpec t p k s → exec (.queueSet t p k) s = .next (completed queueSetSpec t p k s)) ∧
    (Accepted spillConfigSpec t p k s → exec (.spillConfig t p k) s = .next (completed spillConfigSpec t p k s)) ∧
    (Accepted spillQueueSpec t p k s → exec (.spillQueue t p k) s = .next (completed spillQueueSpec t p k s)) ∧
    (Accepted cutThroughSetSpec t p k s → exec (.cutThroughSet t p k) s = .next (completed cutThroughSetSpec t p k s)) ∧
    (Accepted preemptClassesSpec t p k s → exec (.preemptClasses t p k) s = .next (completed preemptClassesSpec t p k s)) ∧
    (Accepted gateListSetSpec t p k s → exec (.gateListSet t p k) s = .next (completed gateListSetSpec t p k s)) ∧
    (Accepted gateEnableSpec t p k s → exec (.gateEnable t p k) s = .next (completed gateEnableSpec t p k s)) ∧
    (Accepted gateQuerySpec t p k s → exec (.gateQuery t p k) s = .next (completed gateQuerySpec t p k s)) ∧
    (Accepted replSetSpec t p k s → exec (.replSet t p k) s = .next (completed replSetSpec t p k s)) ∧
    (Accepted replQuerySpec t p k s → exec (.replQuery t p k) s = .next (completed replQuerySpec t p k s)) ∧
    (Accepted frerSeqgenSetSpec t p k s → exec (.frerSeqgenSet t p k) s = .next (completed frerSeqgenSetSpec t p k s)) ∧
    (Accepted frerRecoverySetSpec t p k s → exec (.frerRecoverySet t p k) s = .next (completed frerRecoverySetSpec t p k s)) ∧
    (Accepted frerQuerySpec t p k s → exec (.frerQuery t p k) s = .next (completed frerQuerySpec t p k s)) ∧
    (Accepted frerResetSpec t p k s → exec (.frerReset t p k) s = .next (completed frerResetSpec t p k s)) ∧
    (Accepted swCountersSpec t p k s → exec (.swCounters t p k) s = .next (completed swCountersSpec t p k s)) ∧
    (Accepted lnkConfigSpec t p k s → exec (.lnkConfig t p k) s = .next (completed lnkConfigSpec t p k s)) ∧
    (Accepted lnkQuerySpec t p k s → exec (.lnkQuery t p k) s = .next (completed lnkQuerySpec t p k s)) ∧
    (Accepted lnkCountersSpec t p k s → exec (.lnkCounters t p k) s = .next (completed lnkCountersSpec t p k s))

/-- R52 to R74: every command of the tables, the signal gateway and policing and cadence that is accepted has its
effect and is answered. -/
def Obligations.TableGatewayAndPolicingCommandsComplete : Prop :=
  ∀ (t p : Nat) (k : Packet) (s : State),
    (Accepted pduDefineSpec t p k s → exec (.pduDefine t p k) s = .next (completed pduDefineSpec t p k s)) ∧
    (Accepted pduRemoveSpec t p k s → exec (.pduRemove t p k) s = .next (completed pduRemoveSpec t p k s)) ∧
    (Accepted pduQuerySpec t p k s → exec (.pduQuery t p k) s = .next (completed pduQuerySpec t p k s)) ∧
    (Accepted mapAddSpec t p k s → exec (.mapAdd t p k) s = .next (completed mapAddSpec t p k s)) ∧
    (Accepted mapRemoveSpec t p k s → exec (.mapRemove t p k) s = .next (completed mapRemoveSpec t p k s)) ∧
    (Accepted mapQuerySpec t p k s → exec (.mapQuery t p k) s = .next (completed mapQuerySpec t p k s)) ∧
    (Accepted contDefineSpec t p k s → exec (.contDefine t p k) s = .next (completed contDefineSpec t p k s)) ∧
    (Accepted contRemoveSpec t p k s → exec (.contRemove t p k) s = .next (completed contRemoveSpec t p k s)) ∧
    (Accepted contQuerySpec t p k s → exec (.contQuery t p k) s = .next (completed contQuerySpec t p k s)) ∧
    (Accepted contFlushSpec t p k s → exec (.contFlush t p k) s = .next (completed contFlushSpec t p k s)) ∧
    (Accepted e2eProfileSetSpec t p k s → exec (.e2eProfileSet t p k) s = .next (completed e2eProfileSetSpec t p k s)) ∧
    (Accepted e2eComputeSpec t p k s → exec (.e2eCompute t p k) s = .next (completed e2eComputeSpec t p k s)) ∧
    (Accepted tpChannelSetSpec t p k s → exec (.tpChannelSet t p k) s = .next (completed tpChannelSetSpec t p k s)) ∧
    (Accepted tpChannelRemoveSpec t p k s → exec (.tpChannelRemove t p k) s = .next (completed tpChannelRemoveSpec t p k s)) ∧
    (Accepted tpSessionQuerySpec t p k s → exec (.tpSessionQuery t p k) s = .next (completed tpSessionQuerySpec t p k s)) ∧
    (Accepted tpAbortSpec t p k s → exec (.tpAbort t p k) s = .next (completed tpAbortSpec t p k s)) ∧
    (Accepted j1939BindSpec t p k s → exec (.j1939Bind t p k) s = .next (completed j1939BindSpec t p k s)) ∧
    (Accepted j1939UnbindSpec t p k s → exec (.j1939Unbind t p k) s = .next (completed j1939UnbindSpec t p k s)) ∧
    (Accepted j1939ClaimsSpec t p k s → exec (.j1939Claims t p k) s = .next (completed j1939ClaimsSpec t p k s)) ∧
    (Accepted j1939RewriteSetSpec t p k s → exec (.j1939RewriteSet t p k) s = .next (completed j1939RewriteSetSpec t p k s)) ∧
    (Accepted j1939OwnAddressSpec t p k s → exec (.j1939OwnAddress t p k) s = .next (completed j1939OwnAddressSpec t p k s)) ∧
    (Accepted gwCountersSpec t p k s → exec (.gwCounters t p k) s = .next (completed gwCountersSpec t p k s)) ∧
    (Accepted tableCommitSpec t p k s → exec (.tableCommit t p k) s = .next (completed tableCommitSpec t p k s)) ∧
    (Accepted tableDiscardSpec t p k s → exec (.tableDiscard t p k) s = .next (completed tableDiscardSpec t p k s)) ∧
    (Accepted tableGenQuerySpec t p k s → exec (.tableGenQuery t p k) s = .next (completed tableGenQuerySpec t p k s)) ∧
    (Accepted tableRehashSpec t p k s → exec (.tableRehash t p k) s = .next (completed tableRehashSpec t p k s)) ∧
    (Accepted sieveRuleSetSpec t p k s → exec (.sieveRuleSet t p k) s = .next (completed sieveRuleSetSpec t p k s)) ∧
    (Accepted sieveRuleQuerySpec t p k s → exec (.sieveRuleQuery t p k) s = .next (completed sieveRuleQuerySpec t p k s)) ∧
    (Accepted sievePortSetSpec t p k s → exec (.sievePortSet t p k) s = .next (completed sievePortSetSpec t p k s)) ∧
    (Accepted flowSetSpec t p k s → exec (.flowSet t p k) s = .next (completed flowSetSpec t p k s)) ∧
    (Accepted flowQuerySpec t p k s → exec (.flowQuery t p k) s = .next (completed flowQuerySpec t p k s)) ∧
    (Accepted fdbAddSpec t p k s → exec (.fdbAdd t p k) s = .next (completed fdbAddSpec t p k s)) ∧
    (Accepted fdbDeleteSpec t p k s → exec (.fdbDelete t p k) s = .next (completed fdbDeleteSpec t p k s)) ∧
    (Accepted fdbSearchSpec t p k s → exec (.fdbSearch t p k) s = .next (completed fdbSearchSpec t p k s)) ∧
    (Accepted fdbNextSpec t p k s → exec (.fdbNext t p k) s = .next (completed fdbNextSpec t p k s)) ∧
    (Accepted fdbFlushSpec t p k s → exec (.fdbFlush t p k) s = .next (completed fdbFlushSpec t p k s)) ∧
    (Accepted fdbAgeSetSpec t p k s → exec (.fdbAgeSet t p k) s = .next (completed fdbAgeSetSpec t p k s)) ∧
    (Accepted fdbUnlockSpec t p k s → exec (.fdbUnlock t p k) s = .next (completed fdbUnlockSpec t p k s)) ∧
    (Accepted canRouteAddSpec t p k s → exec (.canRouteAdd t p k) s = .next (completed canRouteAddSpec t p k s)) ∧
    (Accepted canRouteDeleteSpec t p k s → exec (.canRouteDelete t p k) s = .next (completed canRouteDeleteSpec t p k s)) ∧
    (Accepted canRouteSearchSpec t p k s → exec (.canRouteSearch t p k) s = .next (completed canRouteSearchSpec t p k s)) ∧
    (Accepted canRouteNextSpec t p k s → exec (.canRouteNext t p k) s = .next (completed canRouteNextSpec t p k s)) ∧
    (Accepted canMaskSetSpec t p k s → exec (.canMaskSet t p k) s = .next (completed canMaskSetSpec t p k s)) ∧
    (Accepted lpmAddSpec t p k s → exec (.lpmAdd t p k) s = .next (completed lpmAddSpec t p k s)) ∧
    (Accepted lpmDeleteSpec t p k s → exec (.lpmDelete t p k) s = .next (completed lpmDeleteSpec t p k s)) ∧
    (Accepted lpmSearchSpec t p k s → exec (.lpmSearch t p k) s = .next (completed lpmSearchSpec t p k s)) ∧
    (Accepted lpmNextSpec t p k s → exec (.lpmNext t p k) s = .next (completed lpmNextSpec t p k s)) ∧
    (Accepted maquetteSetSpec t p k s → exec (.maquetteSet t p k) s = .next (completed maquetteSetSpec t p k s)) ∧
    (Accepted tblCountersSpec t p k s → exec (.tblCounters t p k) s = .next (completed tblCountersSpec t p k s)) ∧
    (Accepted policerSetSpec t p k s → exec (.policerSet t p k) s = .next (completed policerSetSpec t p k s)) ∧
    (Accepted policerQuerySpec t p k s → exec (.policerQuery t p k) s = .next (completed policerQuerySpec t p k s)) ∧
    (Accepted policerResetSpec t p k s → exec (.policerReset t p k) s = .next (completed policerResetSpec t p k s)) ∧
    (Accepted sfSetSpec t p k s → exec (.sfSet t p k) s = .next (completed sfSetSpec t p k s)) ∧
    (Accepted sgateListSetSpec t p k s → exec (.sgateListSet t p k) s = .next (completed sgateListSetSpec t p k s)) ∧
    (Accepted sfQuerySpec t p k s → exec (.sfQuery t p k) s = .next (completed sfQuerySpec t p k s)) ∧
    (Accepted sfResetSpec t p k s → exec (.sfReset t p k) s = .next (completed sfResetSpec t p k s)) ∧
    (Accepted cadenceProfileSetSpec t p k s → exec (.cadenceProfileSet t p k) s = .next (completed cadenceProfileSetSpec t p k s)) ∧
    (Accepted cadenceSetSpec t p k s → exec (.cadenceSet t p k) s = .next (completed cadenceSetSpec t p k s)) ∧
    (Accepted cadenceQuerySpec t p k s → exec (.cadenceQuery t p k) s = .next (completed cadenceQuerySpec t p k s)) ∧
    (Accepted cadenceRelearnSpec t p k s → exec (.cadenceRelearn t p k) s = .next (completed cadenceRelearnSpec t p k s)) ∧
    (Accepted sourceSetSpec t p k s → exec (.sourceSet t p k) s = .next (completed sourceSetSpec t p k s)) ∧
    (Accepted containBudgetSetSpec t p k s → exec (.containBudgetSet t p k) s = .next (completed containBudgetSetSpec t p k s)) ∧
    (Accepted containReleaseSpec t p k s → exec (.containRelease t p k) s = .next (completed containReleaseSpec t p k s)) ∧
    (Accepted containQuerySpec t p k s → exec (.containQuery t p k) s = .next (completed containQuerySpec t p k s)) ∧
    (Accepted polCountersSpec t p k s → exec (.polCounters t p k) s = .next (completed polCountersSpec t p k s)) ∧
    (Accepted flowCountersSpec t p k s → exec (.flowCounters t p k) s = .next (completed flowCountersSpec t p k s))

/-- R52 to R74: every command of time, Herax and ciphering that is accepted has its effect and is answered. -/
def Obligations.TimeKeyAndCipherCommandsComplete : Prop :=
  ∀ (t p : Nat) (k : Packet) (s : State),
    (Accepted timeQuerySpec t p k s → exec (.timeQuery t p k) s = .next (completed timeQuerySpec t p k s)) ∧
    (Accepted timeDomainSetSpec t p k s → exec (.timeDomainSet t p k) s = .next (completed timeDomainSetSpec t p k s)) ∧
    (Accepted timeRefSelectSpec t p k s → exec (.timeRefSelect t p k) s = .next (completed timeRefSelectSpec t p k s)) ∧
    (Accepted timeRtcSetSpec t p k s → exec (.timeRtcSet t p k) s = .next (completed timeRtcSetSpec t p k s)) ∧
    (Accepted legalSourceSetSpec t p k s → exec (.legalSourceSet t p k) s = .next (completed legalSourceSetSpec t p k s)) ∧
    (Accepted legalTimeProposeSpec t p k s → exec (.legalTimePropose t p k) s = .next (completed legalTimeProposeSpec t p k s)) ∧
    (Accepted legalTimeForceSpec t p k s → exec (.legalTimeForce t p k) s = .next (completed legalTimeForceSpec t p k s)) ∧
    (Accepted tcapSetSpec t p k s → exec (.tcapSet t p k) s = .next (completed tcapSetSpec t p k s)) ∧
    (Accepted tcapQuerySpec t p k s → exec (.tcapQuery t p k) s = .next (completed tcapQuerySpec t p k s)) ∧
    (Accepted tcmpSetSpec t p k s → exec (.tcmpSet t p k) s = .next (completed tcmpSetSpec t p k s)) ∧
    (Accepted motionInputSetSpec t p k s → exec (.motionInputSet t p k) s = .next (completed motionInputSetSpec t p k s)) ∧
    (Accepted motionSourceSetSpec t p k s → exec (.motionSourceSet t p k) s = .next (completed motionSourceSetSpec t p k s)) ∧
    (Accepted motionPairSetSpec t p k s → exec (.motionPairSet t p k) s = .next (completed motionPairSetSpec t p k s)) ∧
    (Accepted motionQuerySpec t p k s → exec (.motionQuery t p k) s = .next (completed motionQuerySpec t p k s)) ∧
    (Accepted timeCountersSpec t p k s → exec (.timeCounters t p k) s = .next (completed timeCountersSpec t p k s)) ∧
    (Accepted lcQuerySpec t p k s → exec (.lcQuery t p k) s = .next (completed lcQuerySpec t p k s)) ∧
    (Accepted lcAdvanceSpec t p k s → exec (.lcAdvance t p k) s = .next (completed lcAdvanceSpec t p k s)) ∧
    (Accepted lcChallengeSpec t p k s → exec (.lcChallenge t p k) s = .next (completed lcChallengeSpec t p k s)) ∧
    (Accepted tamperConfigSpec t p k s → exec (.tamperConfig t p k) s = .next (completed tamperConfigSpec t p k s)) ∧
    (Accepted kekLoadClearSpec t p k s → exec (.kekLoadClear t p k) s = .next (completed kekLoadClearSpec t p k s)) ∧
    (Accepted kekRotateSpec t p k s → exec (.kekRotate t p k) s = .next (completed kekRotateSpec t p k s)) ∧
    (Accepted keyStageSpec t p k s → exec (.keyStage t p k) s = .next (completed keyStageSpec t p k s)) ∧
    (Accepted keyDeriveSpec t p k s → exec (.keyDerive t p k) s = .next (completed keyDeriveSpec t p k s)) ∧
    (Accepted keyCommitSpec t p k s → exec (.keyCommit t p k) s = .next (completed keyCommitSpec t p k s)) ∧
    (Accepted keyDiscardSpec t p k s → exec (.keyDiscard t p k) s = .next (completed keyDiscardSpec t p k s)) ∧
    (Accepted keyRevokeSpec t p k s → exec (.keyRevoke t p k) s = .next (completed keyRevokeSpec t p k s)) ∧
    (Accepted keyEraseSpec t p k s → exec (.keyErase t p k) s = .next (completed keyEraseSpec t p k s)) ∧
    (Accepted keyQuerySpec t p k s → exec (.keyQuery t p k) s = .next (completed keyQuerySpec t p k s)) ∧
    (Accepted attestSpec t p k s → exec (.attest t p k) s = .next (completed attestSpec t p k s)) ∧
    (Accepted identityQuerySpec t p k s → exec (.identityQuery t p k) s = .next (completed identityQuerySpec t p k s)) ∧
    (Accepted sealReadSpec t p k s → exec (.sealRead t p k) s = .next (completed sealReadSpec t p k s)) ∧
    (Accepted sealAckSpec t p k s → exec (.sealAck t p k) s = .next (completed sealAckSpec t p k s)) ∧
    (Accepted sealCheckpointSpec t p k s → exec (.sealCheckpoint t p k) s = .next (completed sealCheckpointSpec t p k s)) ∧
    (Accepted sealConfigSpec t p k s → exec (.sealConfig t p k) s = .next (completed sealConfigSpec t p k s)) ∧
    (Accepted sealNoteSpec t p k s → exec (.sealNote t p k) s = .next (completed sealNoteSpec t p k s)) ∧
    (Accepted heraxCountersSpec t p k s → exec (.heraxCounters t p k) s = .next (completed heraxCountersSpec t p k s)) ∧
    (Accepted protProfileSetSpec t p k s → exec (.protProfileSet t p k) s = .next (completed protProfileSetSpec t p k s)) ∧
    (Accepted protProfileQuerySpec t p k s → exec (.protProfileQuery t p k) s = .next (completed protProfileQuerySpec t p k s)) ∧
    (Accepted macsecSecySetSpec t p k s → exec (.macsecSecySet t p k) s = .next (completed macsecSecySetSpec t p k s)) ∧
    (Accepted macsecRxscSetSpec t p k s → exec (.macsecRxscSet t p k) s = .next (completed macsecRxscSetSpec t p k s)) ∧
    (Accepted macsecSaSetSpec t p k s → exec (.macsecSaSet t p k) s = .next (completed macsecSaSetSpec t p k s)) ∧
    (Accepted macsecTxSwitchSpec t p k s → exec (.macsecTxSwitch t p k) s = .next (completed macsecTxSwitchSpec t p k s)) ∧
    (Accepted macsecQuerySpec t p k s → exec (.macsecQuery t p k) s = .next (completed macsecQuerySpec t p k s)) ∧
    (Accepted secpduFvSetSpec t p k s → exec (.secpduFvSet t p k) s = .next (completed secpduFvSetSpec t p k s)) ∧
    (Accepted cipherJobSpec t p k s → exec (.cipherJob t p k) s = .next (completed cipherJobSpec t p k s)) ∧
    (Accepted cipherJobResumeSpec t p k s → exec (.cipherJobResume t p k) s = .next (completed cipherJobResumeSpec t p k s)) ∧
    (Accepted cipherJobCancelSpec t p k s → exec (.cipherJobCancel t p k) s = .next (completed cipherJobCancelSpec t p k s)) ∧
    (Accepted inbandBindSpec t p k s → exec (.inbandBind t p k) s = .next (completed inbandBindSpec t p k s)) ∧
    (Accepted cipherCountersSpec t p k s → exec (.cipherCounters t p k) s = .next (completed cipherCountersSpec t p k s))

/-- R52 to R74: every command of network sleep, cascading and pairing, and functional safety that is accepted has its
effect and is answered. -/
def Obligations.SleepPairAndSafetyCommandsComplete : Prop :=
  ∀ (t p : Nat) (k : Packet) (s : State),
    (Accepted sleepRingSetSpec t p k s → exec (.sleepRingSet t p k) s = .next (completed sleepRingSetSpec t p k s)) ∧
    (Accepted pnSetSpec t p k s → exec (.pnSet t p k) s = .next (completed pnSetSpec t p k s)) ∧
    (Accepted sleepHoldSpec t p k s → exec (.sleepHold t p k) s = .next (completed sleepHoldSpec t p k s)) ∧
    (Accepted wakePortSetSpec t p k s → exec (.wakePortSet t p k) s = .next (completed wakePortSetSpec t p k s)) ∧
    (Accepted wakeFrameSetSpec t p k s → exec (.wakeFrameSet t p k) s = .next (completed wakeFrameSetSpec t p k s)) ∧
    (Accepted wakeNetworkSpec t p k s → exec (.wakeNetwork t p k) s = .next (completed wakeNetworkSpec t p k s)) ∧
    (Accepted sleepQuerySpec t p k s → exec (.sleepQuery t p k) s = .next (completed sleepQuerySpec t p k s)) ∧
    (Accepted consentRingQuerySpec t p k s → exec (.consentRingQuery t p k) s = .next (completed consentRingQuerySpec t p k s)) ∧
    (Accepted sleepCountersSpec t p k s → exec (.sleepCounters t p k) s = .next (completed sleepCountersSpec t p k s)) ∧
    (Accepted cascadeSetSpec t p k s → exec (.cascadeSet t p k) s = .next (completed cascadeSetSpec t p k s)) ∧
    (Accepted pairConfigSpec t p k s → exec (.pairConfig t p k) s = .next (completed pairConfigSpec t p k s)) ∧
    (Accepted pairQuerySpec t p k s → exec (.pairQuery t p k) s = .next (completed pairQuerySpec t p k s)) ∧
    (Accepted pairSwitchSpec t p k s → exec (.pairSwitch t p k) s = .next (completed pairSwitchSpec t p k s)) ∧
    (Accepted pairHoldSpec t p k s → exec (.pairHold t p k) s = .next (completed pairHoldSpec t p k s)) ∧
    (Accepted pairCountersSpec t p k s → exec (.pairCounters t p k) s = .next (completed pairCountersSpec t p k s)) ∧
    (Accepted remoteWriteSpec t p k s → exec (.remoteWrite t p k) s = .next (completed remoteWriteSpec t p k s)) ∧
    (Accepted safetyQuerySpec t p k s → exec (.safetyQuery t p k) s = .next (completed safetyQuerySpec t p k s)) ∧
    (Accepted leeConfigSpec t p k s → exec (.leeConfig t p k) s = .next (completed leeConfigSpec t p k s)) ∧
    (Accepted leeEnterSpec t p k s → exec (.leeEnter t p k) s = .next (completed leeEnterSpec t p k s)) ∧
    (Accepted leeExitSpec t p k s → exec (.leeExit t p k) s = .next (completed leeExitSpec t p k s)) ∧
    (Accepted ledgerReadSpec t p k s → exec (.ledgerRead t p k) s = .next (completed ledgerReadSpec t p k s)) ∧
    (Accepted ledgerClearSpec t p k s → exec (.ledgerClear t p k) s = .next (completed ledgerClearSpec t p k s)) ∧
    (Accepted safetyCountersSpec t p k s → exec (.safetyCounters t p k) s = .next (completed safetyCountersSpec t p k s))

/-- R60: a command whose SEQ differs from the expected one is answered BAD_SEQUENCE with the expected SEQ, applies
nothing, and leaves the expected SEQ as it is. -/
def Obligations.BadSequenceKeepsTheExpectedOne : Prop :=
  ∀ (i : Instr) (o : CmdSpec) (t p : Nat) (k : Packet) (s : State), commandOf i = some (o, t, p, k) →
    canFetch p k (atTime t s) = true → k.plen.toNat ≤ 4076 → crcGood o.opcode k = true → headerCheck o k = none →
    (partner s p).seqAny = false → k.seq ≠ (partner s p).seqNext →
      exec i s = .next (respond o t p k { status := 0x010B, params := le 4 (partner s p).seqNext.toNat } s
        (fetched p k (atTime t s))) ∧
      ((partner s p).transport ≠ 5 → ∃ s', exec i s = .next s' ∧ (partner s' p).seqNext = (partner s p).seqNext ∧
        (partner s' p).seqAny = false ∧ s'.power = s.power ∧ s'.tables = s.tables ∧ s'.ports = s.ports)

/-- R58: a command is fetched only when its slots lie before the request-ring tail, none is fetched while a reply
waits for room or the reply ring is full, and a reply is written only when the whole of it has room. -/
def Obligations.FetchAndReplyRoom : Prop :=
  (∀ (i : Instr) (o : CmdSpec) (t p : Nat) (k : Packet) (s : State), commandOf i = some (o, t, p, k) →
    ((partner s p).reqTail - (partner s p).reqHead).toNat < packetSlots k.plen.toNat ∨ (partner s p).waiting ≠ [] ∨
      (partner s p).replyRoom = 0 → exec i s = .next (atTime t s)) ∧
  (∀ (p : Nat) (r : Reply) (s : State),
    let x := partner s p
    let y := partner (writeReply p r s) p
    (packetSlots r.params.length ≤ x.replyRoom → x.waiting = [] →
      y.rplTail = x.rplTail + BitVec.ofNat 16 (packetSlots r.params.length) ∧
      y.replies = x.replies ++ [(y.rplTail, r)] ∧ y.waiting = []) ∧
    (x.replyRoom < packetSlots r.params.length ∨ x.waiting ≠ [] →
      y.rplTail = x.rplTail ∧ y.replies = x.replies ∧ y.waiting = x.waiting ++ [r]))

/-- R56: a command's trailer is good when it is the CRC-32C of its header and parameters, a reply carries that of its
own after its parameters, and the CRC is the bit-serial one of polynomial 0x1EDC6F41 with reflected input and output.
-/
def Obligations.TrailersAreCrc32c : Prop :=
  (∀ (op : Nat) (k : Packet), crcGood op k = true ↔
    k.crc = crc32c (headerBytes op k ++ padTo k.plen.toNat k.params)) ∧
  (∀ r : Reply, r.bytes = r.bytes.take (16 + r.params.length) ++
    le 4 (crc32c (r.bytes.take (16 + r.params.length))).toNat ∧ r.bytes.length = 20 + r.params.length) ∧
  (∀ bs : Bytes, crc32c bs = (w32 (crcMsb 32 0x1EDC6F41 0xFFFFFFFF 0xFFFFFFFF (bs.map BitVec.reverse))).reverse) ∧
  crc32c [0x31, 0x32, 0x33, 0x34, 0x35, 0x36, 0x37, 0x38, 0x39] = 0xE3069283

/-- R97: the event window of a partner on a transport other than HOSTP. A read of offset 0 latches the record at RD
and advances RD by 1, or an IDLE item where RD equals WR; reads of offsets 4 to 0x1C return the words of the record
that was latched. -/
def Obligations.EventWindowReads : Prop :=
  ∀ (t p : Nat) (s : State), tsclkRuns s = true → (partner s p).attached = true →
    let s0 := atTime t s
    let x := partner s p
    let q := x.evq
    (q.rd = q.wr → exec (.eventWindowRead t p 0) s = .next (answerWith 0
      (le 4 (leAt (EventRecord.idle q.lastSeq).bytes 0 4))
      (setPartner p { x with evq := { q with latch := EventRecord.idle q.lastSeq } } s0))) ∧
    (q.rd ≠ q.wr → ∀ r, q.records[(q.rd - q.rel).toNat]? = some r →
      exec (.eventWindowRead t p 0) s = .next (answerWith 0 (le 4 (leAt r.bytes 0 4))
        (setPartner p { x with evq := { q with latch := r, rd := q.rd + 1 } } s0))) ∧
    (∀ k, k < 7 → exec (.eventWindowRead t p (4 * k + 4)) s =
      .next (answerWith 0 (le 4 (leAt q.latch.bytes (4 * k + 4) 4)) (setPartner p x s0)))

/-- R93, R94: an event is written only when WR − REL < 2H and, at a half boundary, WR − REL ≤ H. One without room is
dropped with the SEQ it would have carried; the next one with room writes EVQ_OVERFLOW first, with the count and the
first SEQ lost, and follows it where R93 still allows or else is dropped in its turn. The Fault Ledger stays, and a
release writes no record. -/
def Obligations.EventsNeedRoom : Prop :=
  ∀ (p : Nat) (r : EventRecord) (s : State), (partner s p).attached = true →
    let q := (partner s p).evq
    let z := (partner (writeEvent p r s) p).evq
    let free (wr : Half) := (wr - q.rel).toNat < 2 * q.half ∧ (wr.toNat % q.half = 0 → (wr - q.rel).toNat ≤ q.half)
    let n1 := nextEventSeq q.lastSeq
    let ovf : EventRecord := { overflowRecord q s.now with seq := n1 }
    (writeEvent p r s).kernel.ledger = s.kernel.ledger ∧ z.rel = q.rel ∧
    (¬ free q.wr → z.wr = q.wr ∧ z.records = q.records ∧ z.lastSeq = n1 ∧ z.lost = q.lost + 1 ∧
      z.firstLost = if q.lost = 0 then n1 else q.firstLost) ∧
    (free q.wr → q.lost = 0 → z.wr = q.wr + 1 ∧ z.records = q.records ++ [{ r with seq := n1 }] ∧ z.lastSeq = n1 ∧
      z.lost = 0) ∧
    (free q.wr → q.lost ≠ 0 → free (q.wr + 1) → z.wr = q.wr + 2 ∧
      z.records = q.records ++ [ovf, { r with seq := nextEventSeq n1 }] ∧ z.lastSeq = nextEventSeq n1 ∧ z.lost = 0) ∧
    (free q.wr → q.lost ≠ 0 → ¬ free (q.wr + 1) → z.wr = q.wr + 1 ∧ z.records = q.records ++ [ovf] ∧
      z.lastSeq = nextEventSeq n1 ∧ z.lost = 1 ∧ z.firstLost = nextEventSeq n1) ∧
    (∀ ptr, q.inRange ptr = true → (partner (evqRelease p ptr s) p).evq.wr = q.wr)

/-- R19, R20: an arbiter grants the lowest requester at or above its pointer, or else the lowest one, and its pointer
then follows the grant. Requesters are listed in rising order; the command arbiter of R68 has N = 8. -/
def Obligations.ArbitersGrantRoundRobin : Prop :=
  (∀ (ptr : Nat) (reqs : List Nat), reqs.Pairwise (· < ·) → ∀ i, arbGrant ptr reqs = some i ↔
    i ∈ reqs ∧ (ptr ≤ i ∧ (∀ j ∈ reqs, ptr ≤ j → i ≤ j) ∨ (∀ j ∈ reqs, j < ptr) ∧ ∀ j ∈ reqs, i ≤ j)) ∧
  (∀ (ptr : Nat) (reqs : List Nat), arbGrant ptr reqs = none ↔ reqs = []) ∧
  (∀ n i, i < n → arbNext n i = if i + 1 = n then 0 else i + 1) ∧
  (∀ p k s, (fetched p k s).kernel.cmdArb = arbNext 8 p)

/-- R743, R747, R750: an occurrence with the CODE, UNIT and OBJECT of an entry counts in it; a new entry is added
where the ledger has room, replaces the oldest of severity 0 where it has none, and else is lost and counted. For CODE
1 the DETAIL, which names the bit, counts too: the model's reading (log entry 12). -/
def Obligations.LedgerRecordsOccurrences : Prop :=
  ∀ (code u ob sev : Nat) (w : Bool) (d : Bytes) (s : State),
    let l := s.kernel.ledger
    let s' := ledgerAdd code u ob sev w d s
    let repeats (e : LedgerEntry) := e.code = code ∧ e.unit = u ∧ e.object = ob ∧ (code = 1 → e.detail = padTo 8 d)
    let fresh : LedgerEntry := { id := l.nextId, code := code, unit := u, object := ob, first := s.now, severity := sev
                                 persisted := false, restored := false, w1c := w, count := 1, detail := padTo 8 d }
    let full := 256 ≤ l.entries.length ∨ sev < 2 ∧ 224 ≤ (l.entries.filter fun e => decide (e.severity < 2)).length
    (∀ e, (l.entries.map (·.id)).Nodup → l.entries.find? (fun e => e.same code u ob (padTo 8 d)) = some e →
      repeats e ∧ s'.kernel.ledger.nextId = l.nextId ∧ s'.kernel.ledger.entries =
        l.entries.map fun x => if x = e then { e with count := satAdd 0xFFFF e.count 1 } else x) ∧
    ((∀ e ∈ l.entries, ¬ repeats e) → ¬ full → s'.kernel.ledger.entries = l.entries ++ [fresh]) ∧
    ((∀ e ∈ l.entries, ¬ repeats e) → full → ∀ a e b, l.entries = a ++ e :: b → e.severity = 0 →
      (∀ x ∈ a, x.severity ≠ 0) → s'.kernel.ledger.entries = a ++ b ++ [fresh]) ∧
    ((∀ e ∈ l.entries, ¬ repeats e) → full → (∀ e ∈ l.entries, e.severity ≠ 0) → s'.kernel.ledger = l ∧
      ledgerFullBit ∈ s'.kernel.w1c ∧
      counter s' (safetyCounter 0x0120) = counter s (safetyCounter 0x0120) + 1)

/-- R51, R52, R84: a query outside a transaction changes the service's own state alone, its replies, its pointers and
what EVENT_SUBSCRIBE, EVQ_CONFIG, EVQ_RESET and TXN_ABORT set there, beside free values that are taken. ATTEST, which
uses a signature, and in-band partners, whose replies leave in frames, are apart. -/
def Obligations.QueriesChangeOnlyTheService : Prop :=
  ∀ (i : Instr) (o : CmdSpec) (t p : Nat) (k : Packet) (s s' : State), commandOf i = some (o, t, p, k) →
    o.change = false → o.opcode ≠ 0x0631 → bit k.flags.toNat 0 = false → (partner s p).transport ≠ 5 →
    exec i s = .next s' → s' = { atTime t s with kernel := s'.kernel, free := s'.free }

/-- R383 to R386: a command that changes a committed table stages its change: outside a transaction it changes the
staging, the ways that a staged hashed entry holds, and the service's own state alone. -/
def Obligations.StagedChangesTouchOnlyTheStaging : Prop :=
  ∀ (i : Instr) (o : CmdSpec) (t p : Nat) (k : Packet) (s s' : State), commandOf i = some (o, t, p, k) →
    o.opcode ∈ [0x0121, 0x0131, 0x0132, 0x0202, 0x0211, 0x0213, 0x0221, 0x0231, 0x0232, 0x0241, 0x0242, 0x0245, 0x0251,
      0x0252, 0x0301, 0x0302, 0x0311, 0x0312, 0x0321, 0x0322, 0x0331, 0x0341, 0x0342, 0x0351, 0x0352, 0x0354, 0x0355,
      0x0681] →
    bit k.flags.toNat 0 = false → (partner s p).transport ≠ 5 → exec i s = .next s' →
    s' = { atTime t s with
      kernel := s'.kernel
      tables := { s.tables with
        staging := s'.tables.staging, fdbSlots := s'.tables.fdbSlots, canSlots := s'.tables.canSlots } }

/-- R55, R58, R112: an accepted ECHO answers DONE with its own parameters in its partner's reply ring, which had room
for them, and changes nothing else of any other partner and nothing outside the service. -/
def Obligations.EchoReturnsItsParameters : Prop :=
  ∀ (t p : Nat) (k : Packet) (s : State), Accepted echoSpec t p k s → (partner s p).transport ≠ 5 →
    packetSlots k.plen.toNat ≤ (partner s p).replyRoom → ∃ s', exec (.echo t p k) s = .next s' ∧
      let x := partner s p
      let tail := x.rplTail + BitVec.ofNat 16 (packetSlots k.plen.toNat)
      let reply : Reply := { version := k.version, flags := k.flags ||| 0x80, opcode := 0x0B01, tag := k.tag, unit := k.unit
                             plen := k.plen.toNat, status := 0, seq := k.seq, params := padTo k.plen.toNat k.params }
      (partner s' p).replies = x.replies ++ [(tail, reply)] ∧ (partner s' p).rplTail = tail ∧
      (partner s' p).reqHead = x.reqHead + BitVec.ofNat 16 (packetSlots k.plen.toNat) ∧
      (partner s' p).seqNext = k.seq + 1 ∧ (∀ j, j ≠ p → partner s' j = partner s j) ∧
      s' = { atTime t s with kernel := s'.kernel }

/-- Frames of settings: outside a transaction each command named here changes the state of its own unit, named in its
clause, and the service's own state alone. -/
def Obligations.SettingsTouchOnlyTheirUnit : Prop :=
  ∀ (i : Instr) (o : CmdSpec) (t p : Nat) (k : Packet) (s s' : State), commandOf i = some (o, t, p, k) →
    bit k.flags.toNat 0 = false → (partner s p).transport ≠ 5 → exec i s = .next s' →
    let s0 := atTime t s
    (o.opcode ∈ [0x0004, 0x0006, 0x0011, 0x0012, 0x0014, 0x0021, 0x0022, 0x0031, 0x0033] →
      s' = { s0 with kernel := s'.kernel, ports := s'.ports }) ∧
    (o.opcode ∈ [0x0104, 0x0106, 0x0111, 0x0112] →
      s' = { s0 with kernel := s'.kernel, switch := s'.switch }) ∧
    (o.opcode ∈ [0x0401, 0x0403, 0x0411, 0x0412, 0x0414, 0x0425, 0x0431] →
      s' = { s0 with kernel := s'.kernel, policing := s'.policing }) ∧
    (o.opcode ∈ [0x0504, 0x0511, 0x0521, 0x0531, 0x0541, 0x0542, 0x0543] →
      s' = { s0 with kernel := s'.kernel, time := s'.time }) ∧
    (o.opcode ∈ [0x0604, 0x0624, 0x0642, 0x0644] →
      s' = { s0 with kernel := s'.kernel, herax := s'.herax }) ∧
    (o.opcode ∈ [0x0691, 0x0692, 0x06B2, 0x06B3, 0x06C1] →
      s' = { s0 with kernel := s'.kernel, cipher := s'.cipher }) ∧
    (o.opcode ∈ [0x0701, 0x0706, 0x0707, 0x0717, 0x0A04] →
      s' = { s0 with kernel := s'.kernel, power := s'.power }) ∧
    (o.opcode ∈ [0x0802, 0x0804, 0x0805] →
      s' = { s0 with kernel := s'.kernel, sleep := s'.sleep }) ∧
    (o.opcode ∈ [0x00E2, 0x0B41, 0x0B44, 0x0B48, 0x0B4A] →
      s' = { s0 with kernel := s'.kernel, host := s'.host })

/-- R98, R100, R101, R49: a doorbell whose halves agree moves its pointer. A write of the request-ring tail and of the
reply-ring head is taken, Mark, Rewind and Release act on a pointer in their range, and nothing else of any partner
changes but the replies and records before the pointer. -/
def Obligations.DoorbellsMoveTheirPointers : Prop :=
  ∀ (t p : Nat) (v : Word) (ptr : Half) (s : State), tsclkRuns s = true → (partner s p).attached = true →
    v.extractLsb' 0 16 = ptr → v.extractLsb' 16 16 = ~~~ptr →
    let x := partner s p
    let q := x.evq
    let n := (ptr - q.rel).toNat
    exec (.hostCmdDb t p v) s = .next (setPartner p { x with reqTail := ptr } (atTime t s)) ∧
    (x.waiting = [] → exec (.hostRplDb t p v) s = .next (setPartner p { x with
      rplHead := ptr
      replies := x.replies.filter fun r => decide ((ptr - x.rplHead).toNat < (r.1 - x.rplHead).toNat) } (atTime t s))) ∧
    (n ≤ (q.wr - q.rel).toNat → exec (.hostEvqMarkDb t p v) s =
      .next (setPartner p { x with evq := { q with mark := ptr } } (atTime t s))) ∧
    (ptr = q.mark → x.transport ≠ 1 → exec (.hostEvqRewindDb t p v) s =
      .next (setPartner p { x with evq := { q with rd := q.mark } } (atTime t s))) ∧
    (ptr = q.mark → x.transport = 1 → ∃ s', exec (.hostEvqRewindDb t p v) s = .next s' ∧
      (partner s' p).evq.records = q.records.take n ++ (q.records.drop n).map (fun r => { r with rewound := true }) ∧
      (partner s' p).evq.wr = q.wr ∧ (partner s' p).evq.rel = q.rel ∧ ∀ j, j ≠ p → partner s' j = partner s j) ∧
    (n ≤ (q.wr - q.rel).toNat → ∃ s', exec (.hostEvqReleaseDb t p v) s = .next s' ∧
      (partner s' p).evq.rel = ptr ∧ (partner s' p).evq.records = q.records.drop n ∧ (partner s' p).evq.wr = q.wr ∧
      ∀ j, j ≠ p → partner s' j = partner s j)

/-- R99, R101, R106: a doorbell whose halves disagree resets the queue it addresses, and an operation whose pointer is
out of range, or a rewind that does not name MARK, only counts. -/
def Obligations.BadDoorbells : Prop :=
  ∀ (t p : Nat) (v : Word) (s : State), tsclkRuns s = true → (partner s p).attached = true →
    let x := partner s p
    let ptr := v.extractLsb' 0 16
    (v.extractLsb' 16 16 ≠ ~~~ptr →
      (∀ i, i = Instr.hostCmdDb t p v ∨ i = .hostRplDb t p v → ∃ s', exec i s = .next s' ∧
        (partner s' p).reqHead = x.reqTail ∧ (partner s' p).reqTail = x.reqTail ∧ (partner s' p).seqAny = true ∧
        (partner s' p).rplHead = x.rplTail ∧ (partner s' p).replies = [] ∧ (partner s' p).waiting = [] ∧
        (partner s' p).resets = satAdd 0xFF x.resets 1) ∧
      (∀ i, i = Instr.hostEvqMarkDb t p v ∨ i = .hostEvqRewindDb t p v ∨ i = .hostEvqReleaseDb t p v →
        ∃ s', exec i s = .next s' ∧ (partner s' p).evq.rel = x.evq.wr ∧ (partner s' p).evq.mark = x.evq.wr ∧
          (partner s' p).evq.rd = x.evq.wr ∧ (partner s' p).reqHead = x.reqHead ∧
          (partner s' p).resets = satAdd 0xFF x.resets 1)) ∧
    (v.extractLsb' 16 16 = ~~~ptr → ∀ i,
      (x.evq.wr - x.evq.rel).toNat < (ptr - x.evq.rel).toNat ∧ (i = .hostEvqMarkDb t p v ∨ i = .hostEvqReleaseDb t p v) ∨
        ptr ≠ x.evq.mark ∧ i = .hostEvqRewindDb t p v →
      ∃ s', exec i s = .next s' ∧ (partner s' p).evq = x.evq ∧ (partner s' p).ptrErrs = satAdd 0xFF x.ptrErrs 1 ∧
        w1cIs s' 0x0B00 (evqStatusOff p) 0 = true)

/-- R82, R95, R11: an open transaction without a member for 1 s, the coalescing time of an event queue, and a firmware
write of a port's correction register and of Herax's key input. -/
def Obligations.ServiceEvents : Prop :=
  ∀ (t p : Nat) (s : State), tsclkRuns s = true →
    let s0 := atTime t s
    let x := partner s p
    let q := x.evq
    (∀ y, x.txn = some y → y.last + ticksPerSec ≤ s0.now → ∃ s', exec (.txnTimeout t p) s = .next s' ∧
      (partner s' p).txn = none ∧ (partner s' p).reqHead = x.reqHead ∧ ∀ j, j ≠ p → partner s' j = partner s j) ∧
    (∀ f, q.firstUnsig = some f → f + us q.coalUs ≤ s0.now →
      exec (.evqCoalesceExpiry t p) s =
        let y := setPartner p { x with evq := { q with sig := q.wr, firstUnsig := none } } s0
        .next (if x.transport = 1 then raiseVec (129 + 8 * p) y else y)) ∧
    (∀ g (v : Word), g < 50 → exec (.registerWrite t true (unitBase g + 0x18) v) s =
      .next (setCommon g { common s g with rxExt := v.toNat % 2 ^ 16, txExt := v.toNat / 2 ^ 16 } s0)) ∧
    (∀ a (v : Word), exec (.registerWrite t false a v) s = .next s0)

/-- R123, R128, R132, R136, R144: a ring doorbell with a valid tail is taken and one whose halves disagree stops a
running ring with cause 6; the DMA takes the frame of the ring it picks; and a coalescing time that has passed raises
the ring's vector. -/
def Obligations.RingEventsComplete : Prop :=
  ∀ (t n : Nat) (s : State), tsclkRuns s = true →
    let s0 := atTime t s
    (∀ (r : Ring) (v : Word) (ptr : Half) (wr : List (Nat × Bytes)), ringOf s n = some r → ringServed s r = true →
      v.extractLsb' 0 16 = ptr → v.extractLsb' 16 16 = ~~~ptr → (ptr - r.done).toNat ≤ min r.size 65535 →
      exec (.ringDb t n v wr) s = .next (setRing n { r with tail := ptr } (hostWrites wr s0))) ∧
    (∀ (r : Ring) (v : Word) (wr : List (Nat × Bytes)), ringOf s n = some r → ringServed s r = true → r.st = 1 →
      v.extractLsb' 16 16 ≠ ~~~v.extractLsb' 0 16 → ∃ s' r', exec (.ringDb t n v wr) s = .next s' ∧
        ringOf s' n = some r' ∧ r'.st = 2 ∧ r'.cause = 6 ∧ r'.tail = r.tail ∧ r'.done = r.done) ∧
    (∀ (r : Ring) (k : Nat) (err : Bool) (ds : List Bytes) (c : Credit), txPick s0 = some (n, r) →
      txNext s0 r = .frame ds → r.fetch = none → txCredit s0 r (descTotal ds) = some c →
      exec (.txDmaFetch t k err) s = .next (holdBase s0 (txChunks n err k (setRing n { r with
        fetch := some { desc := r.head, descs := ds, got := [], credit := c }
        head := r.head + BitVec.ofNat 16 ds.length }
          (takeCells (ringGport s r) c.cls c.res c.shared c.segs
            { s0 with host.txArb := tset s.host.txArb r.tc ((n + 1) % 128) }))))) ∧
    (∀ (r : Ring) (err : Option Nat) (fid : Nat) (h : HeldFrame), rxPick s0 = some (n, r) → r.writing = none →
      rxHead s0 n = some (fid, h) → r.need (rxBytes s0 n h).length ≤ min r.size 65535 →
      exec (.rxDmaDeliver t err) s = .next (holdBase s0 (rxWrite n fid h r.head 0 err (setRing n { r with
        head := r.head + BitVec.ofNat 16 (r.need (rxBytes s0 n h).length), writing := some (fid, r.head, 0) }
          { s0 with host.rxArb := tset s.host.rxArb r.tc ((n + 1) % 128) })))) ∧
    (∀ (r : Ring) f, ringOf s n = some r → r.firstUnsig = some f → f + us r.coalUs ≤ s0.now →
      exec (.ringCoalesceExpiry t n) s = .next (raiseVec n (setRing n { r with firstUnsig := none } s0)))

/-- R117, R119, R121, R174, R767: the PCIe link goes down and comes up with its width and speed, PCIE_PERST_N takes it
down, a read without a completion is counted, and BAR0 answers reads and takes whole aligned words. -/
def Obligations.PcieEventsComplete : Prop :=
  ∀ (t : Nat) (s : State), tsclkRuns s = true →
    let s0 := atTime t s
    (s.host.linkUp = true → ∃ s', exec (.pcieLinkDown t) s = .next s' ∧ s'.host.linkUp = false ∧
      s'.host.width = 0 ∧ s'.host.speed = 0 ∧ s'.host.mem = s.host.mem ∧ s'.host.windows = s.host.windows) ∧
    (∀ w g, s.host.linkUp = false → s.host.perst = false → exec (.pcieLinkUp t w g) s =
      .next (raiseEvent 0x0B00 0x0104 (le 1 1 ++ le 1 (w % 256) ++ le 1 (g % 256))
        { s0 with host.linkUp := true, host.width := w % 256, host.speed := g % 256 })) ∧
    exec (.pciePerst t false) s = .next { s0 with host.perst := false } ∧
    (∃ s', exec (.pciePerst t true) s = .next s' ∧ s'.host.perst = true ∧ s'.host.linkUp = false ∧
      s'.host.mem = s.host.mem) ∧
    (s.host.linkUp = true → exec (.pcieCompletionTimeout t none) s =
      .next { s0 with host.timeouts := (s.host.timeouts + 1) % 2 ^ 32 }) ∧
    (∀ p o n, s.host.linkUp = true → o + n ≤ 0x10000 → exec (.bar0Access t p o n none) s =
      .next (answerWith 0 (bar0Read s0 p o n) s0)) ∧
    (∀ p o d, s.host.linkUp = true → o + 4 ≤ 0x10000 → o % 4 = 0 → exec (.bar0Access t p o 4 (some d)) s =
      .next (holdBase s0 (bar0Write o (w32 (leAt d 0 4)) s0)))

/-- R118, R156, R160, R162, R165: reads and writes of BAR2 through a window and of the MSI-X table, the end of a
prefetch buffer after 2 µs, and the completion of the writes that the bridge holds. -/
def Obligations.WindowEventsComplete : Prop :=
  ∀ (t : Nat) (s : State), tsclkRuns s = true →
    let s0 := atTime t s
    (∀ k n, s.host.linkUp = true → k + n ≤ 0x1000 → k < 0x1000 → exec (.windowRead t (0x0FFF0000 + k) n) s =
      .next (answerWith 0 (memReadBytes s.host.msixTable k n) s0)) ∧
    (∀ o n i w d y, s.host.linkUp = true → o + n ≤ 0x0FFF0000 → 0 < n → windowAt s 1 o n = some (i, w) →
      w.prefetched = false → tget? s.host.prefetch w.owner = none → s.host.writes = [] → s.host.abortNext = [] →
      readPieces false w.owner w.ctx (piecesOf (w.target + (o - w.offset)) n) s0 = (0, d, y) →
      exec (.windowRead t o n) s = .next (holdBase s0 (answerWith 0 d y))) ∧
    (∀ o d i w, s.host.linkUp = true → o + d.length ≤ 0x0FFF0000 → 0 < d.length →
      windowAt s 1 o d.length = some (i, w) → w.mode ≠ 0 → s.host.writes = [] → tget? s.host.prefetch w.owner = none →
      exec (.windowWrite t o d) s = .next { s0 with
        host.writes := [{ partner := w.owner, window := i, va := w.target + (o - w.offset), data := d,
                          posted := w.mode == 1, spi := false }] }) ∧
    (∀ p b, tget? s.host.prefetch p = some b → b.last + us 2 ≤ s0.now → b.lines = [] →
      exec (.prefetchDiscard t p) s = .next { s0 with host.prefetch := tdel s.host.prefetch p }) ∧
    (∀ x y rest, s.host.writes = x :: rest → x.posted = true → performWrite x { s0 with host.writes := rest } = (0, y) →
      exec (.postedWriteDone t) s = .next (holdBase s0 y)) ∧
    (∀ x y rest, s.host.writes = x :: rest → x.posted = false → x.spi = false →
      performWrite x { s0 with host.writes := rest } = (0, y) →
      exec (.nonpostedWriteDone t x.partner) s = .next (holdBase s0 y)) ∧
    (∀ x y st rest, s.host.writes = x :: rest → x.posted = false → x.spi = true →
      performWrite x { s0 with host.writes := rest } = (st, y) →
      exec (.nonpostedWriteDone t x.partner) s =
        .next (holdBase s0 { y with host.lastStatus := tset y.host.lastStatus x.partner (st, false) }))

/-- R149, R150, R153, R155, R157, R158: transactions of the octal-SPI target by a HOSTS partner without a kept read, a
framing error, and the end of a kept read. LAT takes a waiting change at the start of each transaction. -/
def Obligations.OctalSpiEventsComplete : Prop :=
  ∀ (t p : Nat) (s : State), tsclkRuns s = true →
    let s0 := spiStart (atTime t s)
    let done (s : State) := { s with host.spiCount := (s.host.spiCount + 1) % 2 ^ 32 }
    (p < 8 → (partner s p).transport = 2 → tget? s.host.kept p = none → s.host.writes = [] →
      (∀ a n, a + n ≤ 0x10000 → exec (.ospiRead t p a n true true true) s =
        .next (answerWith 0 (bar0Read s0 p a n) (done s0))) ∧
      (∀ a (d : Bytes) fast, 0x20000 ≤ a → a + d.length ≤ 0x28000 → a + d.length ≤ 0x20000 + 64 * (partner s p).slots →
        exec (.ospiWrite t p a d true fast) s = .next (answerWith 0 [] (done s0))) ∧
      exec (.ospiStatusRead t p true) s = .next (answerWith 0 (le 4 (bar0Word s0 p 0x1204)) (done s0))) ∧
    (∃ s', exec (.ospiFramingError t) s = .next s' ∧ s'.host.framingErrs = satAdd 0xFF s.host.framingErrs 1 ∧
      w1cIs s' 0x0B00 4 11 = true) ∧
    (∀ k, tget? s.host.kept p = some k → k.till ≤ (atTime t s).now → k.sensitive = none →
      exec (.keptReadExpiry t p) s = .next { atTime t s with host.kept := tdel s.host.kept p })

/-- R177, R185, R189 to R199: a CAN port integrates, receives, ends its transmission, recovers from bus-off and ends
its windows. What each writes is written out; a frame received good goes on to classification. -/
def Obligations.CanEventsComplete : Prop :=
  ∀ (t g : Nat) (s : State), tsclkRuns s = true → g < 24 →
    let s0 := atTime t s
    let x := canOf s g
    ((common s g).admin = true → x.integrated = false → exec (.canIntegrated t g) s = .next (holdBase s0 (withOper g 4
      (setCan g { x with integrated := true, deaf := false, busy := false }) s0))) ∧
    (∀ c cap sof e, (common s g).admin = true → operUp s g = true → x.deaf = false → x.config.getLsbD 2 = false →
      canRow x c 0 = none → let y := canTaken g s0
      exec (.canRxFrame t g c 0 cap sof e) s = .next (holdBase s0
        (ingress { Frame.arrived (some c) [] g (ingressStamp s0 g cap false) with sofDelta := sof } g false
          (bump (portCtr g 0x0100) (if canMode s g = 0 then canConfine g (fun z =>
            { z with rxErr := if 127 < z.rxErr then 119 else z.rxErr - 1 }) y else y))).2.st)) ∧
    (∀ c cap sof e, (common s g).admin = true → operUp s g = true → x.deaf = false → canMode s g ≠ 0 →
      exec (.canRxFrame t g c 1 cap sof e) s = .next (setCan g { canOf (canTaken g s0) g with deaf := true }
        (bump (portCtr g 0x0110) (canTaken g s0)))) ∧
    (∀ h cap tdc, x.held = some h → h.sof.isSome = true → exec (.canTxAttemptEnd t g 1 cap tdc) s =
      .next (setCan g { x with held := some { h with sof := none } } (bump (portCtr g 0x0148) s0))) ∧
    (∀ h cap tdc f, x.held = some h → h.sof.isSome = true →
      let y := measureTdc g h.frame tdc (bump (portCtr g 0x0140) s0)
      let z := canConfine g (fun z => { z with txErr := z.txErr - 1 }) (setCan g { canOf y g with held := none } y)
      let stamp := egressStamp s0 g cap false
      heldOf s h.fid = some f → heldOf z h.fid = some f → exec (.canTxAttemptEnd t g 0 cap tdc) s = .next (holdBase s0
        (releaseRef h.fid (txStampDone h.fid f.frame.txRing (some stamp) (frameLeft f.frame stamp z))))) ∧
    ((common s g).admin = true → x.busOff = true → x.recovering = true → ∃ s', exec (.busOffRecovered t g) s = .next s' ∧
      (canOf s' g).busOff = false ∧ (canOf s' g).recovering = false ∧ (canOf s' g).txErr = 0 ∧ (canOf s' g).rxErr = 0) ∧
    (∀ v, x.trailer = true → x.lastValid = some v → v + ms (x.config.toNat / 2 ^ 16) ≤ s0.now →
      exec (.trailerPresenceExpiry t g) s = .next (raiseFull g 0x0103 (le 1 0) (v + ms (x.config.toNat / 2 ^ 16)) false false
        (setCan g { x with trailer := false } s0))) ∧
    (∀ e, x.gtsEnd = some e → e ≤ s0.clk → x.trxMode = 3 → exec (.gtsHoldEnd t g) s = .next (holdBase s0
      (withOper g 5 (setCan g { x with trxMode := 2, gtsEnd := none }) s0))) ∧
    ((common s g).admin = true → x.opmodeNext = none → x.trxNext = none → ∀ ovl, exec (.busIdle t g ovl) s =
      .next (holdBase s0 (canDriveSof g (setCan g { x with busy := false, deaf := false }
        (bumpBy (portCtr g 0x0138) ovl s0))))) ∧
    (∀ n k, bit (common s g).wakeSrc 0 = true → s.mode = .gale → exec (.wakeDetect t g 0 n k) s =
      .next (holdBase s0 (portWake g (wakeSource g 0) s0.now (setCan g { x with wflag := true } s0))))

/-- R200 to R206, R231: a LIN commander's next slot begins as its table gives it, a responder takes a header, a
response is received, a missing response is counted, and an idle bus lets a waiting transceiver change act. -/
def Obligations.LinEventsComplete : Prop :=
  ∀ (t g : Nat) (s : State), tsclkRuns s = true → 24 ≤ g → g < 32 →
    let s0 := atTime t s
    let x := linOf s g
    (∀ a i k ok cap, x.active = some a → x.commander = true → operUp s g = true → standbyPort s g = false →
      tget? s.sleep.linAfter g = none → x.slotEnd ≤ s0.now → x.select = none → linNext x a = some (i, k) →
      exec (.linSlotStart t g ok cap) s = .next (holdBase s0 (linBegin g i k ok cap s0))) ∧
    (∀ id baud ok cap d sof, (common s g).admin = true → x.en = true → x.commander = false →
      exec (.linRxFrame t g true id 2 baud ok d cap sof) s =
        .next (holdBase s0 (bump (portCtr g 0x0128) (withOper g 4 (fun y => setLin g { x with
          syncSeen := true, baudMeas := baud, busy := true } y) s0)))) ∧
    (∀ id baud ok cap d sof, (common s g).admin = true → x.en = true → x.commander = false → linPublished x id = none →
      ∃ s', exec (.linRxFrame t g true id 0 baud ok d cap sof) s = .next s' ∧ (linOf s' g).awaiting = some id ∧
        (linOf s' g).syncSeen = true ∧ (linOf s' g).baudMeas = baud ∧ (linOf s' g).busy = true) ∧
    (∀ id baud ok cap d sof, operUp s g = true → x.awaiting = some id →
      exec (.linRxFrame t g false 0 0 baud ok d cap sof) s = .next (holdBase s0 (ingress
        { Frame.arrived (some { id := id, ide := false, rtr := false, fmt := 3, brs := false, esi := false, sec := false
                                enh := linEnhanced x id, dlc := 0, dlen := linLen x id, af := 0, sdt := 0, vcid := 0
                                data := padTo (linLen x id) d }) [] g (ingressStamp s0 g cap false) with sofDelta := sof }
        g false (bump (portCtr g 0x0100) (setLin g { x with awaiting := none } s0))).2.st)) ∧
    (operUp s g = true → x.awaiting.isSome = true → exec (.linResponseTimeout t g) s =
      .next (bump (portCtr g 0x0118) (setLin g { x with awaiting := none } s0))) ∧
    (x.enNext = none → ∀ ovl, exec (.busIdle t g ovl) s = .next (setLin g { x with busy := false } s0))

/-- R177, R207 to R222, R233, R235, R240, R359: an Ethernet port receives a frame or the head of one, its PCS and PLCA
change, pre-emption is verified, pause windows end, a PHY's reset is released, and a wake is detected. -/
def Obligations.EthernetEventsComplete : Prop :=
  ∀ (t g : Nat) (s : State), tsclkRuns s = true → 32 ≤ g → g < 50 →
    let s0 := atTime t s
    let x := ethOf s g
    (∀ d cap lane4, operUp s g = true → receivingOf s g = none → ethRow s g d 0 = 0 → beAt d 0 6 ≠ 0x0180C2000001 →
      exec (.ethRxFrame t g d 0 cap lane4 false) s = .next (holdBase s0
        (ingress (Frame.arrived none d g (ingressStamp s0 g cap lane4)) g false
          (bumpBy (portCtr g 0x0108) (d.length + 4) (bump (portCtr g 0x0100) s0))).2.st)) ∧
    (∀ d cap lane4, operUp s g = true → receivingOf s g = none → ethRow s g d 4 = 4 →
      exec (.ethRxFrame t g d 4 cap lane4 false) s = .next (bump (portCtr g 0x0110) s0)) ∧
    (∀ d cap lane4, operUp s g = true → receivingOf s g = none → byteAt d 6 % 2 = 0 → beAt d 0 6 ≠ 0x0180C2000001 →
      mayCut s0 g (Frame.arrived none d g (ingressStamp s0 g cap lane4)) = true →
      exec (.ethRxFrame t g d 0 cap lane4 true) s = .next (holdBase s0
        (ingress (Frame.arrived none d g (ingressStamp s0 g cap lane4)) g true s0).2.st)) ∧
    (∀ lock, (common s g).admin = true → x.lock ≠ lock → exec (.pcsLockChange t g lock) s = .next (holdBase s0
      (withOper g (if lock then 4 else 2) (setEth g { x with lock := lock, preemptSt := if lock && x.preempt then 1 else 0 }) s0))) ∧
    (∀ ok, g < 38 → (common s g).admin = true → x.plcaOk ≠ ok →
      let y := withOper g (if ok then 4 else 2) (setEth g { x with plcaOk := ok }) s0
      exec (.plcaStatus t g ok) s =
        .next (holdBase s0 (raiseEvent g 0x0106 (le 1 (b2n ok)) (if ok then y else bump (portCtr g 0x01A0) y)))) ∧
    (∀ ok, x.preemptSt = 1 → exec (.preemptVerify t g ok) s = .next (raiseEvent g 0x0105 (le 1 (if ok then 1 else 2))
      (setEth g { x with preemptSt := if ok then 2 else 3 } s0))) ∧
    (∃ s', exec (.pauseWindowEnd t g) s = .next s' ∧ (ethOf s' g).pause = x.pause.filter (fun w => decide (s0.now < w.2)) ∧
      (ethOf s' g).pfc = x.pfc.filter (fun e => decide (s0.now < e.2.2))) ∧
    ((common s g).admin = true → x.prst = true → x.prstSince + us x.prstUs ≤ s0.clk →
      exec (.phyResetRelease t g) s = .next (setEth g { x with prst := false } s0)) ∧
    (∀ n k src, bit (common s g).wakeSrc src = true → s.mode = .gale → 38 ≤ g → exec (.wakeDetect t g src n k) s =
      .next (holdBase s0 (portWake g (wakeSource g src) s0.now (setEth g { x with phyWake := true } s0)))) ∧
    (∀ n k src, bit (common s g).wakeSrc src = true → s.mode = .gale → g < 38 → exec (.wakeDetect t g src n k) s =
      .next (holdBase s0 (portWake g (wakeSource g src) s0.now s0))) ∧
    exec (.wakePatternTimeout t g) s = .next s0

/-- R191, R204, R327, R354, R357: a port selects its next frame. Each kind of port is a clause: what the selected
frame becomes is written out, after the sweep of frames that have stayed too long (R351). -/
def Obligations.EgressSelectCompletes : Prop :=
  ∀ (t g cap : Nat) (lane4 : Bool) (s : State), tsclkRuns s = true →
    let s0 := atTime t s
    let y := sweepPort g s0
    (∀ c r h k, g < 24 → canServes y g = true → (canOf y g).held = none →
      pick y g (fun c h => decide (0 ≤ c) && (match h.frame.bus with
        | some k => gateFits y g c y.now (canTmax (canOf y g) k)
        | none => gateOpen y g c y.now)) = some (c, r, h) →
      h.faulted = false → h.frame.bus = some k → busProtected r.fid h g k y = (some k, y) → canSendable (canOf y g) k = true →
      let z := bump (swCtr g 0x40) (dequeue g c r.fid y)
      exec (.egressSelect t g cap lane4) s = .next (holdBase s0 (canDriveSof g (setCan g { canOf z g with
        held := some { fid := r.fid, tc := c, frame := k, sof := none } } z)))) ∧
    (∀ c r h k, 24 ≤ g → g < 32 → downForEgress y g = false → pick y g (fun _ _ => true) = some (c, r, h) →
      h.faulted = false → h.frame.bus = some k → busProtected r.fid h g k y = (some k, y) → h.frame.txRing = none →
      linSendable (linOf y g) k = true → ((linOf y g).commander = true → inActiveTable (linOf y g) k.id = true) →
      tget? (linOf y g).buffers k.id = none →
      exec (.egressSelect t g cap lane4) s = .next (holdBase s0 (releaseRef r.fid (bump (swCtr g 0x40) (dequeue g c r.fid
        (let b : LinBuffer := { frame := k, tc := c, updated := k.dlen != 0, subscribed := k.dlen == 0, ts := none }
        setLin g { linOf y g with buffers := tset (linOf y g).buffers k.id b } y)))))) ∧
    (∀ c r h, 32 ≤ g → g < 50 → downForEgress y g = false → tget? y.switch.sending g = none →
      let z := frameBoundary g y
      (ethOf z g).orders = [] → tget? z.switch.suspended g = none →
      pick z g (fun c h => ethReady z g c h && !paused z g c z.now) = some (c, r, h) →
      exec (.egressSelect t g cap lane4) s =
        .next (holdBase s0 (ethStart g c r h (egressStamp s0 g cap lane4) (heldTicks g false z)))) ∧
    (∀ c r h k, k < 2 → g = 50 + k → downForEgress y g = false →
      pick y g (fun c h => !h.receiving && lnkMaySend y k (framePacket y k c h.frame (lnkEgress s0 cap))) = some (c, r, h) →
      h.faulted = false →
      exec (.egressSelect t g cap lane4) s = .next (holdBase s0 (
        let z := txStampDone r.fid h.frame.txRing (some (lnkEgress s0 cap)) (lnkTransmit k
          (framePacket y k c h.frame (lnkEgress s0 cap)) (bump (swCtr g 0x40) (dequeue g c r.fid y)))
        releaseRef r.fid (frameLeft h.frame z.now z)))) ∧
    (∀ c r h n x, g = 52 ∨ g = 53 → pick y g (fun _ _ => true) = some (c, r, h) → h.faulted = false →
      n = h.frame.ring.getD (frameFlow y h.frame).ring → ringOf y n = some x → x.rx = true → x.st ≠ 0 →
      let z := bump (swCtr g 0x40) (dequeue g c r.fid y)
      exec (.egressSelect t g cap lane4) s = .next (holdBase s0
        { z with switch.ringIn := tset z.switch.ringIn n (tget z.switch.ringIn [] n ++ [r.fid]) })) ∧
    (∀ c r h, g = 54 → pick y g (fun _ _ => true) = some (c, r, h) → h.faulted = false →
      let z := bump (swCtr g 0x40) (dequeue g c r.fid y)
      exec (.egressSelect t g cap lane4) s = .next (holdBase s0
        (releaseRef r.fid { z with switch.cpuIn := z.switch.cpuIn ++ [h.frame] })))

/-- R212, R357, R361, R363, R366, R368, R499: a transmission ends, gates begin a cycle, take the waiting list at its
instant and enter an entry, a frame is withdrawn before its SOF, and a frame is fragmented. -/
def Obligations.TransmissionAndGateEventsComplete : Prop :=
  ∀ (t g : Nat) (s : State), tsclkRuns s = true →
    let s0 := atTime t s
    (∀ x h coll, 38 ≤ g → tget? s.switch.sending g = some x → heldOf s x.fid = some h → h.receiving = false →
      x.fragments = 0 → x.slot = none →
      let y := bumpBy (portCtr g 0x0158) (x.bytes.length + 4) (bump (portCtr g 0x0150)
        { s0 with switch.sending := tdel s.switch.sending g })
      exec (.txComplete t g coll) s = .next (holdBase s0
        (releaseRef x.fid (egressLaneEnd g (frameLeft h.frame s0.now y))))) ∧
    (∀ h, g < 24 → (canOf s g).held = some h → h.sof = none →
      gateFits s0 g h.tc s0.now (canTmax (canOf s g) h.frame) = false →
      exec (.gateWithdraw t g) s = .next (holdBase s0 (canReturn g (bump (swCtr g 0x70) s0)))) ∧
    (∀ st l, (gateOf s st g).oper = some l → (gateOf s st g).next ≤ s0.now → exec (.gateCycleStart t st g) s =
      .next (holdBase s0 (beginCycle st g (gateOf s st g) l (gateOf s st g).next s0))) ∧
    (∀ st l a, (gateOf s st g).admin = some l → (gateOf s st g).waiting = some a → applyDue s0 l a ≤ s0.now →
      let y := beginCycle st g { gateOf s st g with oper := some l, waiting := none } l (applyDue s0 l a) s0
      exec (.gateApplied t st g) s = .next (holdBase s0 (if st then y
        else raiseFull 0x0100 0x0105 (le 1 g ++ zeros 3 ++ le 4 l.cycleNs) (applyDue s0 l a) false false y))) ∧
    (∀ st i e a, gateEntryAt (gateOf s st g) s0.now = some (i, e, a) → i ≠ (gateOf s st g).entry →
      exec (.gateEntryChange t st g) s = .next (setGate st g { gateOf s st g with entry := i } s0)) ∧
    (∀ x n, 32 ≤ g → g < 50 → tget? s.switch.sending g = some x → tget? s.switch.suspended g = none →
      preemptable s0 g x.tc = true → 60 ≤ n → x.sent + n + 64 ≤ x.bytes.length + 4 → (ethOf s g).orders ≠ [] →
      exec (.preemptFragment t g n) s = .next { s0 with
        switch.sending := tdel s.switch.sending g
        switch.suspended := tset s.switch.suspended g { x with fragments := x.fragments + 1, sent := x.sent + n } })

/-- R332, R335, R337, R342, R344, R351, R375: frames are spilled and read back, LPDDR5 is lost, a cell shows an ECC
error, XOFF is ordered again and answered, frames that have stayed too long leave, and a recovery function is reset.
-/
def Obligations.BufferEventsComplete : Prop :=
  ∀ (t g c : Nat) (s : State), tsclkRuns s = true →
    let s0 := atTime t s
    (∀ r h, (queueOf s g c).find? (fun r => r.mark && !r.spilled) = some r → heldOf s r.fid = some h →
      s.switch.spillOn = true → s.switch.spillUsed + cellsOf h.frame ≤ spillCells s →
      let y := setQueue g c ((queueOf s g c).map fun y => if y.fid = r.fid then { r with mark := false, spilled := true } else y) s0
      exec (.spillOut t g c) s = .next (holdBase s0 (bump (swCtr g 0x80) (returnCells h { y with
        switch.held := tset y.switch.held r.fid { h with res := 0, shared := 0, segs := [] }
        switch.spillUsed := y.switch.spillUsed + cellsOf h.frame })))) ∧
    (∀ r h res sh, (queueOf s g c).find? (fun r => r.spilled) = some r → heldOf s r.fid = some h →
      queueCells s0 g c ≤ (queueCfg s0 g c).lo → cellsOf h.frame ≤ freeCells s0 →
      charge s0 h.src h.cls (cellsOf h.frame) h.driven = some (res, sh) →
      let a := account s0 h.src h.cls
      let segs := takeFrom s0 segments (cellsOf h.frame)
      let y := useCells segs true (setAccount h.src h.cls
        { a with resUsed := a.resUsed + res, sharedUsed := a.sharedUsed + sh } s0)
      let z : State := { y with switch.held := tset y.switch.held r.fid { h with res := res, shared := sh, segs := segs },
                                switch.spillUsed := y.switch.spillUsed - cellsOf h.frame }
      exec (.spillIn t g c false) s = .next (holdBase s0 (bump (swCtr g 0x88) (setQueue g c
        ((queueOf z g c).map fun y => if y.fid = r.fid then { y with spilled := false } else y) z)))) ∧
    (s.lpddrUp = true → s.switch.queues = [] → s.switch.spillOn = false →
      exec (.lpddr5Unavailable t) s = .next { s0 with lpddrUp := false, switch.spillOn := false }) ∧
    (∀ cell fid un, exec (.eccScrub t cell 1 fid un) s =
      .next { s0 with switch.eccCorr := satAdd 0xFFFF s.switch.eccCorr 1 }) ∧
    ((account s g c).xoff = true → fcMode s0 g ≠ 0 →
      (account s g c).ordered + bitTicks (256 * (fcOf s g).quanta) (speedRate (ethOf s g).speed) ≤ s0.now →
      exec (.pfcRefresh t g c) s = .next (holdBase s0 (orderPause g c (fcOf s g).quanta false
        (setAccount g c { account s g c with ordered := s0.now } s0)))) ∧
    (∀ a cl l, (fcOf s g).probe = some (a, cl, some l, false) → a + nsTick (fcOf s g).rMax ≤ s0.now →
      exec (.pauseResponseWindowEnd t g) s = .next (holdBase s0 (addSample g (2 * (l - a))
        { s0 with switch.fc := tset s.switch.fc g { fcOf s g with probe := some (a, cl, some l, true) } }))) ∧
    (g ∉ [52, 53] → (g < 24 → (canOf (sweepPort g s0) g).held = none) → exec (.residenceSweep t g) s = .next (holdBase s0 (sweepPort g s0))) ∧
    (∀ b e, curObj s0 .recovery g = some b → recoveryDue b (tget s.switch.recoveries Recovery.fresh g) s0.now = some e →
      exec (.frerResetTimer t g) s = .next (holdBase s0 (resetRecovery g 1 e s0)))

/-- R390, R410, R416, R417, R420 to R422, R431: the learner takes a learn, the Patina epoch advances, an aged entry
leaves, a rehash and a flush complete, a generation that no frame uses retires, and a Maquette scan begins. -/
def Obligations.TableEventsComplete : Prop :=
  ∀ (t : Nat) (s : State), tsclkRuns s = true →
    let s0 := atTime t s
    (∀ l r, s.tables.learnQ = l :: r → exec (.fdbLearn t) s =
      .next (holdBase s0 (handleLearn l { s0 with tables.learnQ := r }))) ∧
    (∀ e, s.tables.epochStart = some e → e + s.tables.tickS * ticksPerSec ≤ s0.now → leeRule s = false →
      exec (.patinaEpoch t) s = .next { s0 with
        tables.epoch := (s.tables.epoch + 1) % 256
        tables.epochStart := some (e + s.tables.tickS * ticksPerSec) }) ∧
    (∀ pos k e, tget? s.tables.fdbSlots pos = some { key := k, use := .learned } → tget? s.tables.learned k = some e →
      aged s0 e = true → leeRule s = false → exec (.fdbAgeVisit t pos) s =
        .next (holdBase s0 (bump (tblCtr 0x0138) (removeLearned (fun j _ => j == k) s0)))) ∧
    (∀ r a, s.tables.rehash = some r → findAsync 0x0204 (fun _ => true) s = some a →
      let k : Kind := if r.table = 0 then .fdb else .canExact
      let y : State := { s0 with tables.rehash := none }
      (∀ m, migrate (shapeOf k) r.seed (slotsOf s k) r.placed = some m → exec (.rehashComplete t) s =
        .next (holdBase s0 (cmdComplete a 0x0000 (
          let z := setSlots k m y
          if r.table = 0 then { z with tables.seedFdb := r.seed } else { z with tables.seedCan := r.seed })))) ∧
      (migrate (shapeOf k) r.seed (slotsOf s k) r.placed = none → exec (.rehashComplete t) s =
        .next (holdBase s0 (cmdComplete a 0x0203 (unplace (shapeOf k) (seedOf s k) r.placed y))))) ∧
    (∀ n, currentNum s ≠ n → genInUse s n = false → exec (.generationRetire t n) s =
      .next (holdBase s0 (retireGen n s0))) ∧
    (∀ a, findAsync 0x0235 (fun _ => true) s = some a → exec (.fdbFlushComplete t) s =
      .next (holdBase s0 (cmdComplete a 0x0000 (removeLearned (fun k e =>
        (byteAt a.params 0 == 0xFF || e.gport == byteAt a.params 0) &&
        (leAt a.params 2 2 == 0 || k / 2 ^ 48 == leAt a.params 2 2) &&
        (bit (byteAt a.params 1) 0 || !e.locked) && decide (e.hold < a.started)) s0)))) ∧
    (∀ head, s.tables.maqEnable = true → 0 < s.tables.maqPeriodMs →
      s.tables.maqStart + ms s.tables.maqPeriodMs ≤ s0.now →
      let period := ms s.tables.maqPeriodMs
      let y : State := { s0 with
        tables.maqStart := s.tables.maqStart + (s0.now - s.tables.maqStart) / period * period }
      bulkRead y s.tables.maqContext s.tables.maqBase 136 = (head, none) →
      (leAt head 0 4 ≠ currentNum s → exec (.maquetteScan t) s = .next { y with tables.maqStale := true }) ∧
      (leAt head 0 4 = currentNum s → leAt head 4 4 = 0 → exec (.maquetteScan t) s =
        .next (bump (tblCtr 0x0198) { y with tables.maqStale := false })))

/-- R458, R463: a missed acceptance window of a monitored flow is judged, and a quarantine's hold window ends: it
begins again where the hold was renewed, and else the quarantine ends. -/
def Obligations.PolicingEventsComplete : Prop :=
  ∀ (t : Nat) (s : State), tsclkRuns s = true →
    let s0 := atTime t s
    (∀ f, let x := cadOf s f
      x.state = .monitoring → x.ref + x.period + x.w (pTol (profileOf s x.profile)) + us 150 ≤ s0.now →
      (flowEntry s (currentNum s) f).cadence = true →
      exec (.cadenceMiss t f) s = .next (holdBase s0 (cadenceMiss f s0))) ∧
    (∀ k n q, findQuarantine s k n = some q → q.holdStart + ms q.holdMs ≤ s0.now →
      (q.again = true → exec (.containHoldEnd t k n) s = .next { s0 with
        policing.quarantines := s.policing.quarantines.map fun x =>
          if x = q then { q with holdStart := q.holdStart + ms q.holdMs, again := false } else x }) ∧
      (q.again = false → exec (.containHoldEnd t k n) s =
        .next (holdBase s0 (endQuarantine q 1 (targetSafety s0 k n) s0))))

/-- R244, R260 to R265, R271, R287 to R291, R298 to R303, R315, R320: the gateway takes a frame, its timers fire, Pair
B takes an Address Claimed and commits bindings, and a direct check unit is set and fed. -/
def Obligations.GatewayEventsComplete : Prop :=
  ∀ (t n : Nat) (s : State), tsclkRuns s = true →
    let s0 := atTime t s
    (∀ c r h, let y := retryStalled s.gw.stalled (sweepPort gRecirc s0)
      y.gw.stalled = [] → leeRule s = false →
      pick y gRecirc (fun c _ => decide (drivenCharge y c + 32 ≤ (account y gRecirc c).share)) = some (c, r, h) →
      h.faulted = false →
      let z := bump (gwCtr 0x0100) (bump (swCtr gRecirc 0x40) (dequeue gRecirc c r.fid y))
      let z := releaseRef r.fid { z with gw.arb := arbNext 4 1 }
      leeRule z = false → exec (.gwTakeFrame t) s = .next (holdBase s0 (gwWork h.frame z))) ∧
    ((contOf s n).isOpen = true → (contOf s n).rel ≤ s0.now → exec (.containerRelease t n) s =
      .next (holdBase s0 (contRelease n (some 0x0150) s0))) ∧
    (∀ b e, pduOf s0 (currentNum s) n 1 = some b → (builtOf s0 n b).due = some e → e ≤ s0.now →
      byteAt b 3 ∈ [1, 2, 4] →
      let y := setBuilt n { builtOf s0 n b with due := some (e + us (leAt b 0x10 4)) } s0
      exec (.cyclicDue t n) s = .next (holdBase s0 (emitPdu (ownCause y) n b e y))) ∧
    (∀ b e, pduOf s0 (currentNum s) n 1 = some b → (builtOf s0 n b).deferred = some e → e ≤ s0.now →
      exec (.minGapEnd t n) s = .next (holdBase s0
        (emitPdu (ownCause s0) n b e (setBuilt n { builtOf s0 n b with deferred := none } s0)))) ∧
    (∀ b e, pduOf s0 (currentNum s) n 0 = some b → sourceDue b (sourceOf s n) = some e → e ≤ s0.now →
      (sourceOf s n).timedOut = true → bits (byteAt b 0x1A) 4 3 = 0 → exec (.pduTimeout t n) s =
        .next (setSource n { sourceOf s n with accepted := none, window := e, timedOut := true } (bump (gwCtr 0x0138) s0))) ∧
    (∀ x, sessionOf s n = some x → x.wait ≠ .release → x.timer ≤ s0.now → tpProto x.raw ≠ 1 →
      exec (.tpTimerExpiry t n) s = .next (holdBase s0 (tpEnd n 1 s0))) ∧
    (∀ x, sessionOf s n = some x → x.wait = .release → x.timer ≤ s0.now → tpProto x.raw ≠ 0 →
      exec (.tpSegmentRelease t n) s = .next (holdBase s0 (isoNextCf (ownCause s0) n x s0))) ∧
    (∀ sa name stamp, pairBRuns s0 = true → n < 24 → (canOf s n).config.getLsbD 3 = true → tget? s.gw.own n = none →
      sa ≤ 253 → tget? s.gw.claims (256 * n + sa) = none →
      exec (.j1939ClaimRx t n sa name stamp) s = .next (holdBase s0 (followBindings n stamp { s0 with
        gw.claims := tset (tfilter s.gw.claims fun k m => !(k / 256 == n && m == name)) (256 * n + sa) name }))) ∧
    (s.gw.follows ≠ [] → pairBRuns s0 = true → canCommit s0 = true →
      let y := s.gw.follows.foldl (fun s x => stageFollow x.binding x.new s) { s0 with gw.follows := [] }
      let y := if (stagingOf y 8).isEmpty then y else commitAll 8 y
      exec (.j1939BindingCommit t) s = .next (holdBase s0 (s.gw.follows.foldl (fun s x =>
        raiseFull 0x0300 0x0105 (le 1 x.gport ++ le 1 x.old ++ le 1 x.new ++ le 1 (b2n x.deferred) ++ le 8 x.name)
          x.stamp false false (bump (gwCtr 0x01D0) s)) y))) ∧
    (isDirect n = true → ∀ v, let x := directOf s n
      let x := if v.getLsbD 8 then { x with fed := [], count := 0 } else x
      exec (.gwE2eCtrl t n v) s = .next (keepE2e n 0 (v.toNat % 2 ^ 9)
        { s0 with gw.direct := tset s.gw.direct n { x with profile := v.toNat % 256 } })) ∧
    (isDirect n = true → ∀ v, let x := directOf s n
      exec (.gwE2eFeed t n 4 v) s = .next (keepE2e n 0x0C (v.toNat % 2 ^ 32) { s0 with
        gw.direct := tset s.gw.direct n { x with
          fed := x.fed ++ le 4 v.toNat, count := x.count + 4, busyTill := max x.busyTill s0.clk + 2 } }) ∧
      exec (.gwE2eFeed t n 2 v) s = .next (keepE2e n 0x08 (v.toNat % 2 ^ 16) { s0 with
        gw.direct := tset s.gw.direct n { x with
          fed := x.fed ++ le 2 v.toNat, count := x.count + 2, busyTill := max x.busyTill s0.clk + 1 } }) ∧
      exec (.gwE2eFeed t n 1 v) s = .next (keepE2e n 0x04 (v.toNat % 2 ^ 8) { s0 with
        gw.direct := tset s.gw.direct n { x with
          fed := x.fed ++ le 1 v.toNat, count := x.count + 1, busyTill := max x.busyTill s0.clk + 1 } }))

/-- R487, R490, R493 to R495, R509, R514, R515: reads of IT and legal time latch their upper halves, the domains lose
and gain their grandmasters, legal time is written to its floor, slewed and stepped by a leap second. -/
def Obligations.TimeBaseEventsComplete : Prop :=
  ∀ (t d : Nat) (s : State), tsclkRuns s = true →
    let s0 := atTime t s
    let x := domain s d
    exec (.timeItNs t d) s = .next (answerWith 0 (le 4 (s0.it / 2 ^ 32 % 1000000000))
      { s0 with time.secLatch := tset s.time.secLatch d (s0.it / 2 ^ 32 / 1000000000) }) ∧
    exec (.timeLegalLo t d) s = .next (answerWith 0 (le 4 (legalMs s0 % 2 ^ 32))
      { s0 with time.legalLatch := tset s.time.legalLatch d (legalMs s0 / 2 ^ 32) }) ∧
    (x.state = .locked → x.grandmaster = false → x.lastSync + ms x.timeoutMs ≤ s0.now →
      exec (.syncTimeout t d) s = .next (holdBase s0 (setDomState d .holdover s0))) ∧
    (monoValue s mcFloor / 60000 < legalMs s0 / 60000 →
      exec (.legalFloorWrite t) s = .next (holdBase s0 (writeFloor s0))) ∧
    (0 < s.time.slew → slewLeft s0 = 0 → exec (.slewAbsorbed t) s = .next (setLegal (legalFine s0) 0 s0)) ∧
    (byteAt s.time.legalCfg 0 = d + 1 → x.leap = -1 → 86399000 ≤ legalMs s0 % 86400000 →
      s.time.leapDay ≠ legalDay (legalMs s0) + 1 →
      let y := setDomain d { x with leap := 0 }
        { setLegal (legalFine s0 + 1000 * msFine) (slewLeft s0) s0 with time.leapDay := legalDay (legalMs s0) + 1 }
      exec (.leapSecond t) s = .next (holdBase s0 (sealQueue 0x0030
        (le 8 (legalMs s0) ++ le 8 (legalMs s0 + 1000) ++ le 1 4 ++ le 1 (d + 1 + 7))
        (raiseEvent 0x0500 0x0104 (le 1 4 ++ le 1 (d + 1 + 7) ++ zeros 2 ++ leSigned 8 1000) y)))) ∧
    (pairBRuns s0 = true → s.power.activating = none →
      (x.state ≠ .disabled → x.grandmaster = true → exec (.grandmasterElected t d false) s =
        .next (setDomain d { x with grandmaster := false, lastSync := s0.now } s0)) ∧
      (x.state ≠ .disabled → x.gmCapable = true →
        let v : Int := Int.ofNat (x.gmEpoch * 1000000000 * nsFine + s0.it)
        let y := setDomain d { x with
          grandmaster := true, anchor := s0.it, value := v, rr := 0, identity := false, offset := 0 } s0
        exec (.grandmasterElected t d true) s = .next (holdBase s0 (setDomState d .locked
          (if x.identity = true ∨ x.stepNs * nsFine < (v - x.at_ s0.it).natAbs then domainStep d (v - x.at_ s0.it) y else y)))) ∧
      (∀ g ns, 38 ≤ g → g < 50 → exec (.pathDelayMeasure t g ns) s =
        .next { s0 with time.pathDelay := tset s.time.pathDelay g ns }) ∧
      (∀ frames, x.state ≠ .disabled → exec (.gptpSyncTx t d frames) s = .next (holdBase s0 (frames.foldl (fun s e =>
        if isEth e.1 && bit x.ports e.1 then cpuEmit e.1 (Config.firmwareTc 0) none e.2 s else s) s0))) ∧
      (∀ u off, byteAt s.time.legalCfg 0 = u + 1 → s.time.lastCheck + legalCheckS s * ticksPerSec ≤ s0.now →
        (domain s u).state = .locked → (domain s u).utc = some off → exec (.legalCheck t) s = .next (holdBase s0
          (proposeLegal ((domain s u).at_ s0.it - off * 1000000000 * Int.ofNat nsFine).toNat (u + 1 + 7)
            { s0 with time.lastCheck := s0.now }).2)))

/-- R486, R494: a Sync of an enabled domain that does not step it moves its anchor, its offset and its rate, and the
servo then writes RATE_ADJ within its limits, where the domain is the reference. -/
def Obligations.SyncReceived : Prop :=
  ∀ (t d stamp : Nat) (master rr adj : Int) (utc : Option Int) (leap : Int) (s : State),
    tsclkRuns s = true → pairBRuns (atTime t s) = true → s.power.activating = none →
    let s0 := atTime t s
    let x := domain s d
    let err := master - x.at_ (s0.it - (s0.clk - stamp) * itStep s0)
    x.state = .locked → x.grandmaster = false → err.natAbs ≤ x.stepNs * nsFine → s.time.ref ≠ d + 1 →
    ∃ s', exec (.gptpSyncRx t d stamp master rr adj utc leap) s = .next s' ∧
      (domain s' d).anchor = s0.it ∧ (domain s' d).value = x.at_ s0.it ∧
      (domain s' d).rr = max (-(2 ^ 31)) (min (2 ^ 31 - 1) rr) ∧ (domain s' d).lastSync = s0.now ∧
      (domain s' d).offset = err.tdiv (Int.ofNat nsFine) ∧ (domain s' d).utc = utc ∧ (domain s' d).leap = leap ∧
      (domain s' d).state = .locked ∧ s'.rateAdj = max (-2147483) (min 2147483 s.rateAdj) ∧ s'.it = s0.it

/-- R517 to R526: captures, compares, pulses and the motion window act as their settings give. -/
def Obligations.TimePinEventsComplete : Prop :=
  ∀ (t n : Nat) (s : State), tsclkRuns s = true →
    let s0 := atTime t s
    (∀ e, let x := captureOf s n
      n ≤ 15 → x.edge = 3 ∨ x.edge = e → x.history = [] → x.event = false → exec (.tcapEdge t n e) s =
        .next (bump (timeCtr 0x0150) { s0 with
          time.captures := tset s.time.captures n { x with count := x.count + 1, history := [(s0.now, e)] } })) ∧
    (∀ tk, let x := tget s.time.compares Compare.off n
      x.next = some (tk, false) → x.mode = 1 → tk ≤ s0.now → exec (.tcmpEdge t n) s =
        .next (bump (timeCtr 0x0160) { s0 with
          time.compares := tset s.time.compares n { x with next := none, active := false } })) ∧
    (∀ tk, let x := tget s.time.compares Compare.off n
      x.next = some (tk, true) → x.mode = 2 → tk ≤ s0.now → exec (.tcmpEdge t n) s =
        let y : Compare := { x with next := some (tk + x.width, false), active := true, start := tk }
        .next (bump (timeCtr 0x0160) { s0 with time.compares := tset s.time.compares n y })) ∧
    (∀ e, let x := tget s.time.pulses Pulse.off n
      n ≤ 1 → byteAt x.raw 1 = e → e ≠ 0 → exec (.mpulEdge t n e) s = .next { s0 with
        time.pulses := tset s.time.pulses n { x with
          edges := x.edges + 1, first := if x.edges = 0 then s0.now else x.first, last := s0.now
          prev := x.latest, latest := some s0.now } }) ∧
    (∀ fin, fin = s.time.motionEnd + ms 100 → fin ≤ s0.now →
      let y : State := { s0 with
        time.speeds := [(pulseSpeed (tget s.time.pulses Pulse.off 0) fin, true),
          (pulseSpeed (tget s.time.pulses Pulse.off 1) fin, true),
          fieldSpeed (tget s.time.fields FieldSource.off 2) fin, fieldSpeed (tget s.time.fields FieldSource.off 3) fin]
        time.motionEnd := fin, time.pulses := tmap s.time.pulses fun _ x => { x with edges := 0 } }
      exec (.motionWindow t) s = .next (holdBase s0 ([0, 1, 2, 3].foldl (fun s p => evalPair p (fin - ms 100) s) y)))

/-- R539, R540, R562, R563, R566: the sealed ring's pointers latch their upper halves when read, a tamper acts or
waits for the next start-up, a wipe ends, and a sealed record or a checkpoint is written when it is due. -/
def Obligations.HeraxEventsComplete : Prop :=
  ∀ (t : Nat) (s : State),
    let s0 := atTime t s
    (∀ n, n ≤ 4 → (tsclkRuns s = true → exec (.tamperDetect t n) s = .next (holdBase s0 (tamperAct (2 ^ n) s0))) ∧
      (tsclkRuns s = false → exec (.tamperDetect t n) s =
        .next { s0 with herax.tamperWaiting := s.herax.tamperWaiting ||| 2 ^ n })) ∧
    (tsclkRuns s = true →
      exec (.heraxSealHeadLo t) s = .next (answerWith 0 (le 4 (s.herax.head % 2 ^ 32))
        { s0 with herax.headLatch := s.herax.head / 2 ^ 32 }) ∧
      exec (.heraxSealAckLo t) s = .next (answerWith 0 (le 4 (s.herax.ack % 2 ^ 32))
        { s0 with herax.ackLatch := s.herax.ack / 2 ^ 32 }) ∧
      exec (.wipeComplete t) s = .next { s0 with herax.wipeBusy := false } ∧
      (checkpointDue s0 = false → (recent s0 s.herax.sealTimes).length < 2000 →
        exec (.sealRecordWrite t) s = .next (holdBase s0 (sealNext s0))) ∧
      (checkpointDue s0 = true → exec (.checkpoint t) s = .next (holdBase s0 (checkpoint s0))))

/-- R576, R578, R580, R596, R598 to R600, R602 to R604: the dispatcher starts a message on a lane, a job finishes,
faults, aborts, completes and zeroes its destination, and a frame of an in-band partner is handled. -/
def Obligations.CipherEventsComplete : Prop :=
  ∀ (t n p tag : Nat) (s : State), tsclkRuns s = true →
    let s0 := atTime t s
    (∀ m, mostUrgent s.cipher.waiting = some m → laneChoice s0 m.urgency = some n → m.job = none →
      exec (.cipherDispatch t) s =
        .next (holdBase s0 (laneStart n m { s0 with cipher.waiting := s.cipher.waiting.erase m }))) ∧
    (∀ m, (laneOf s n).run = some m → m.job = some (p, tag) →
      exec (.cipherMessageDone t n) s = .next (holdBase s0 (jobFinish p tag s0)) ∧
      (∀ j key upto, jobOf s p tag = some j → j.key = some key → j.offset < min j.len (upto / 16 * 16) →
        exec (.jobFault t n upto) s = .next (holdBase s0 (jobWork j key (min j.len (upto / 16 * 16)) s0).2))) ∧
    (∀ j, jobOf s p tag = some j →
      (j.st = .finished → j.status = 0x0000 → exec (.cipherJobComplete t p tag) s =
        .next (holdBase s0 (jobEnd j 0x0000 s0))) ∧
      (j.st = .finished → j.status ≠ 0x0000 → exec (.cipherJobComplete t p tag) s =
        .next (setJob { j with st := .zeroing } s0)) ∧
      (j.st = .zeroing → exec (.zeroingComplete t p tag) s =
        .next (holdBase s0 (jobEnd j j.status (bulkWrite j.ctx j.dst (zeros j.written) s0).2.2))) ∧
      (∀ off, j.st = .stopped → j.key = none → slotGone s0 j.slot = true → exec (.cipherAbort t true p tag off) s =
        .next (holdBase s0 (jobAbort j s0)))) ∧
    (∀ x i f off, tget? s.switch.sending n = some x → x.slot = some i → slotGone s0 i = true →
      heldOf s x.fid = some f → exec (.cipherAbort t false n tag off) s = .next (holdBase s0
        (stomp n (some 2) (cipherAbortEvent i 2 n f.frame.flow off (refuse 0x0201 s0))))) ∧
    (∀ f, pairARuns s0 = true → s.switch.cpuIn.find? (fun f => f.bus.isNone && beAt f.data 12 2 == 0x88B5) = some f →
      let y : State := { s0 with switch.cpuIn := s.switch.cpuIn.erase f }
      (inbandPartner y f = none → exec (.inbandFrame t) s = .next (bump (ciphCtr 0x0978) y)) ∧
      (inbandPartner y f = some p → byteAt f.data 14 = 1 → exec (.inbandFrame t) s =
        .next (holdBase s0 (inbandPackets p f.data (leAt f.data 16 2) 18 y))) ∧
      (inbandPartner y f = some p → byteAt f.data 14 = 5 → exec (.inbandFrame t) s =
        .next (holdBase s0 (inbandOps p f.data (leAt f.data 16 2) y))))

/-- R611 to R613, R625, R643, R765 to R768: pins and supplies. A reset pin or a fall of PWR_GOOD leaves the main
domain in reset with its cause, and supplies that rise let it start. -/
def Obligations.ResetEventsComplete : Prop :=
  ∀ (t : Nat) (s : State),
    let s0 := atTime t s
    (∃ s', exec (.porst t true) s = .next s' ∧ s'.mode = .calm ∧ s'.mainUp = false ∧ s'.it = 0 ∧ s'.power.porst = true ∧
      s'.power.images = s.power.images ∧ s'.power.mono = s.power.mono ∧ s'.kernel.partners = [] ∧
      s'.host.mem = s.host.mem ∧ s'.kernel.ledger.journal = s.kernel.ledger.journal) ∧
    exec (.porst t false) s = .next { s0 with power.porst := false } ∧
    (∃ s', exec (.vstby1v8Drop t) s = .next s' ∧ s'.mode = .calm ∧ s'.mainUp = false ∧ s'.it = 0 ∧
      s'.power.images = s.power.images ∧ s'.power.kept = false ∧ s'.host.mem = s.host.mem) ∧
    (s.power.mainEn = true → s.mainUp = true →
      (∃ s', exec (.sysRst t true) s = .next s' ∧ s'.mode = .calm ∧ s'.mainUp = false ∧ s'.power.nextCause = 4 ∧
        s'.power.sysRst = true ∧ s'.kernel.partners = [] ∧ s'.power.comparators = s.power.comparators ∧
        s'.host.mem = s.host.mem) ∧
      (∃ s', exec (.pwrGoodFall t) s = .next s' ∧ s'.mode = .calm ∧ s'.mainUp = false ∧ s'.power.nextCause = 6 ∧
        s'.power.pwrGood = false ∧ s'.kernel.partners = [] ∧ s'.host.mem = s.host.mem)) ∧
    exec (.sysRst t false) s = .next { s0 with power.sysRst := false } ∧
    (s.power.mainEn = true → exec (.pwrGoodRise t) s = .next { s0 with power.pwrGood := true }) ∧
    (s.power.mainEn = true → s.power.pwrGood = false → s.power.enAt + ms 50 ≤ s0.clk → s.power.retry = false →
      exec (.pwrGoodTimeout t) s = .next { s0 with power.retry := true, power.enAt := s0.clk + ms 10 }) ∧
    (s.power.porst = false → s.power.mainEn = false → s.power.kept = false → s.power.nextCause = 1 → s.mode = .calm →
      exec (.slowclkStable t) s = .next { s0 with power.mainEn := true, power.enAt := s0.clk, power.retry := false })

/-- R622, R625, R627 to R630, R638, R639: a start-up, the entry to a sleep mode, the resume from Zephyr, and the
transitions between modes end in the mode their row names. -/
def Obligations.ModeEventsComplete : Prop :=
  ∀ (t : Nat) (s : State),
    let s0 := atTime t s
    (∀ rst n rd tr pc, s.power.resetDue = none → mayStart s = true → s.mode = .calm →
      ∃ s', exec (.startUp t rst n none rd tr pc) s = .next s' ∧ s'.mainUp = true ∧
        s'.mode = (if s'.power.recovery then .atelier
          else startMode (if s.power.nextCause = 2 then s.power.transition else none)) ∧ s'.pending = s.pending) ∧
    (∀ rst n rd tr pc k, s.power.resetDue = none → mayStart s = true → s.mode = .calm →
      exec (.startUp t rst n (some k) rd tr pc) s = .next { s0 with power.held := true, power.lbistFail := some k }) ∧
    (∀ rst n x, s.power.transition = some x → mayStart s = true → s.mode = .zephyr →
      (∃ s', exec (.zephyrResume t rst n s.power.tcmHash none) s = .next s' ∧ s'.mainUp = true ∧
        s'.mode = startMode (some x)) ∧
      (∀ h, h ≠ s.power.tcmHash → ∃ s', exec (.zephyrResume t rst n h none) s = .next s' ∧ s'.mode = .calm ∧
        s'.mainUp = false ∧ s'.power.nextCause = 9)) ∧
    (∀ x, tsclkRuns s = true → s.power.transition = some x → enteringSleep s0 = true → s.mode = .gale ∨ s.mode = .breeze →
      ∃ s', exec (.sleepEntry t) s = .next s' ∧ s'.mainUp = false ∧
        s'.mode = (if x.target = .zephyr then .zephyr else .calm) ∧
        s'.power.nextCause = (if x.target = .zephyr then 3 else 2)) ∧
    (∀ x, tsclkRuns s = true → s.power.transition = some x → mayTurn s.mode x.target = true →
      ∃ s', exec (.modeTransitionDone t) s = .next s' ∧ s'.mode = x.target ∧ s'.mainUp = true ∧ s'.it = s0.it) ∧
    (s.mode = .zephyr → s.power.transition = none → s.power.calmAfterS ≠ 0 →
      s.power.sleptAt + s.power.calmAfterS * ticksPerSec ≤ s0.clk → ∃ s', exec (.calmAfterExpiry t) s = .next s' ∧
        s'.mode = .calm ∧ s'.power.mainEn = false ∧ s'.power.nextCause = 2 ∧ s'.host.mem = s.host.mem) ∧
    (∀ e, tsclkRuns s = true → s.mode = .atelier → s.power.atelierEnd = some e → e ≤ s0.now → s.power.transition = none →
      let x : Transition := { target := .gale, cause := 6, source := 0xFF, started := s0.clk, partner := 0 }
      exec (.atelierExpiry t) s = .next { s0 with power.transition := some x })

/-- R333, R614 to R616, R636, R642, R646, R653, R745: segments switch off, images are erased, verified and activated,
comparators detect, the ledger is journalled, and a monotonic counter is written. -/
def Obligations.PowerServiceEventsComplete : Prop :=
  ∀ (t i : Nat) (s : State), tsclkRuns s = true →
    let s0 := atTime t s
    (s.switch.segOn.testBit i = true → s.switch.segWanted.testBit i = false → tget s.switch.segUsed 0 i = 0 →
      exec (.segmentOff t i) s = .next { s0 with switch.segOn := s.switch.segOn - 2 ^ i }) ∧
    (∀ a, findAsync 0x0710 (fun a => byteAt a.params 0 == i) s = some a → exec (.imageEraseComplete t i true) s =
      .next (holdBase s0 (cmdComplete a 0x0000 (let y := setImage i 0 0 false s0
        { y with power.images := tset y.power.images i { imageSlot y i with bytes := [] } })))) ∧
    (∀ a, findAsync 0x0710 (fun a => byteAt a.params 0 == i) s = some a → exec (.imageEraseComplete t i false) s =
      .next (cmdComplete a 0x0304 s0)) ∧
    (∀ a e, findAsync 0x0712 (fun a => byteAt a.params 0 == i) s = some a → exec (.imageVerifyComplete t i e) s =
      .next (holdBase s0 (match imageCheck s0 i e with
        | none => cmdComplete a 0x0000 (setImage i 2 0 false s0)
        | some r => cmdComplete a 0x0109 (imageInvalid i r s0)))) ∧
    (∀ a t0, s.power.activating = some (i, t0) → findAsync 0x0713 (fun _ => true) s = some a → s0.now ≤ t0 + ms 40 →
      exec (.hitlessComplete t true) s = .next (holdBase s0 (cmdComplete a 0x0000 (bump (pwrCtr 0x0120)
        (sealFwActivate i true a.partner (runFirmware i (makeTrial i true { s0 with power.activating := none }))))))) ∧
    (i ≤ 7 → byteAt (comparatorOf s i).raw 1 = 1 → exec (.comparatorDetect t i false) s =
      .next (setComparator i { comparatorOf s i with level := false } s0)) ∧
    (i ≤ 7 → byteAt (comparatorOf s i).raw 1 = 1 → byteAt (comparatorOf s i).raw 3 = 2 →
      exec (.comparatorDetect t i true) s = .next (holdBase s0 (
        let y : Comparator := { comparatorOf s i with level := true }
        comparatorEvent i y (bump (pwrCtr 0x0138) (setW1c 0x0700 0x0030 (8 + i) i (setComparator i y s0)))))) ∧
    (∀ v, tget? s.power.monoWait i = some v → (recent s0 s.power.monoTimes).length < 1000 →
      exec (.monotonicCounterWrite t i) s = .next { s0 with
        power.mono := tset s.power.mono i v, power.monoWait := tdel s.power.monoWait i
        power.monoTimes := recent s0 s.power.monoTimes ++ [s0.now] }) ∧
    (∀ e, nextPersist s.kernel.ledger = some e → s.kernel.ledger.writeWindow ≠ s0.now / ticksPerSec →
      ∃ s', exec (.ledgerPersist t) s = .next s' ∧ s'.kernel.ledger.writes = 1 ∧
        s'.kernel.ledger.writeWindow = s0.now / ticksPerSec ∧
        { e with persisted := true } ∈ s'.kernel.ledger.journal ∧ e.id ∉ s'.kernel.ledger.unpersisted)

/-- R663 to R669, R672, R673, R684, R686 to R688: the consent ring's messages and windows, TC10 and the awake and
false-wake windows act as the state of the ring gives. -/
def Obligations.SleepEventsComplete : Prop :=
  ∀ (t g : Nat) (s : State), tsclkRuns s = true →
    let s0 := atTime t s
    (∀ m stamp, s.sleep.st ≠ .off → ringPort s g = true → ringMsgOk m = false → exec (.ringMessageRx t g m stamp) s =
      .next (bump (slpCtr 0x0150) s0)) ∧
    (∀ m stamp, s.sleep.st ≠ .off → ringPort s g = true → ringMsgOk m = true → s.sleep.recent = [] → byteAt m 0 % 16 = 1 →
      let y := ringSendBut (some g) m (bump (slpCtr 0x0148) { s0 with sleep.recent := [(m, stamp)] })
      exec (.ringMessageRx t g m stamp) s = .next (holdBase s0 (addNode (msgSrc m)
        { y with sleep.falseWakes := y.sleep.falseWakes.map fun w => (w.1, w.2.1, true) }))) ∧
    (∀ h, s.sleep.holding = some h → s.sleep.st ≠ .off → isMaster s = false →
      exec (.tokenPass t) s = .next (holdBase s0 (sendToken (ringNode s) s0))) ∧
    (∀ e, s.sleep.joinEnd = some e → e ≤ s0.now → s.sleep.st = .joining → isMaster s = true → s.sleep.tokenAt = none →
      standbyRole s = false → exec (.joinTimeout t) s = .next (holdBase s0 (sendToken (ringNode s) (setSleepSt .ring
        { s0 with sleep.joinEnd := none, sleep.round := 0, sleep.tokenAt := some s0.now })))) ∧
    (∀ n a, s.sleep.sent = some (n, a) → s.sleep.st ≠ .off → a + tokenTimeout s ≤ s0.now →
      exec (.tokenTimeout t) s = .next (holdBase s0 (sendToken n (bump (slpCtr 0x0130)
        (removeNode n { s0 with sleep.sent := none }))))) ∧
    (∀ r, s.sleep.tokenAt = some r → s.sleep.st = .ring → standbyRole s = false →
      r + (2 + ownRank s) * tokenTimeout s ≤ s0.now → exec (.tokenLost t) s = .next (holdBase s0
        (sendToken (ringNode s) (bump (slpCtr 0x0128) { s0 with
          sleep.round := (s.sleep.round + 1) % 256, sleep.tokenAt := some s0.now, sleep.seen := []
          sleep.quiet := 0, sleep.noReq := 0 })))) ∧
    (∀ i, s.sleep.objection = some i → s.sleep.st ≠ .off → i + objectTicks s ≤ s0.now → isMaster s = false →
      exec (.objectionWindowEnd t) s = .next { s0 with sleep.objection := none }) ∧
    (∀ i, s.sleep.objection = some i → s.sleep.st = .proposed → i + objectTicks s ≤ s0.now → isMaster s = true →
      s.sleep.objected = false → exec (.objectionWindowEnd t) s =
        .next (holdBase s0 (let y := ringSend 4 false 0xFFFF { s0 with sleep.objection := none }
          agree s0.now y))) ∧
    (∀ n a, s.sleep.awake = some (n, a) → a + awakeMaxS s * ticksPerSec ≤ s0.now → isMaster s = true → awakeMaxS s ≠ 0 →
      n ≠ ringNode s → exec (.awakeWindowEnd t) s = .next (holdBase s0 (ledgerAdd 0x0005 0x0800 n 1 false (le 2 n)
        (raiseEvent 0x0800 0x0104 (le 2 n ++ zeros 2 ++ le 4 (awakeMaxS s)) (bump (slpCtr 0x0138)
          { s0 with sleep.awake := none, sleep.overruled := some n, sleep.ovrNode := n }))))) ∧
    (∀ w, s.sleep.falseWakes = [w] → w.1 = g → w.2.1 + ms (falseWakeMs s) ≤ s0.now → w.2.2 = true →
      exec (.falseWakeWindowEnd t g) s = .next { s0 with sleep.falseWakes := [] }) ∧
    (∀ w, s.sleep.falseWakes = [w] → w.1 = g → w.2.1 + ms (falseWakeMs s) ≤ s0.now → w.2.2 = false →
      s.sleep.st = .off → exec (.falseWakeWindowEnd t g) s = .next (holdBase s0 (raiseEvent 0x0800 0x0103
        (le 1 g ++ zeros 3 ++ le 4 (falseWakeMs s)) (bump (slpCtr 0x0110) { s0 with sleep.falseWakes := [] })))) ∧
    (∀ x stat, tget? s.sleep.tc10 g = some x → s0.now < x.written + ms 16 →
      stat &&& leAt (wakePortRaw s g) 12 2 = leAt (wakePortRaw s g) 12 2 →
      exec (.tc10Poll t g stat) s = .next { s0 with sleep.tc10 := tdel s.sleep.tc10 g }) ∧
    (∀ x, tget? s.sleep.tc10 g = some x → x.written + ms 16 ≤ s0.now → ∃ s', exec (.tc10WindowEnd t g) s = .next s' ∧
      tget? s'.sleep.tc10 g = none ∧ (ethOf s' g).prst = true ∧ (ethOf s' g).prstSince = s0.clk ∧
      w1cIs s' 0x0800 0x0000 5 = true)

/-- R695, R700, R710 to R714: lanes change, packets arrive good and bad, unacknowledged packets are replayed, READs
wait no longer than their window, and heartbeats leave. -/
def Obligations.LinkEventsComplete : Prop :=
  ∀ (t k : Nat) (s : State), tsclkRuns s = true → k < 2 →
    let s0 := atTime t s
    (∀ l0 l1 al, exec (.lnkLaneChange t k l0 l1 al) s = .next (holdBase s0
      (withLink k 2 (fun x => { x with lane0 := l0, lane1 := l1, aligned := al }) s0))) ∧
    (∀ pk bus recs cap, operUp s (50 + k) = true → pk.good = false → exec (.lnkPacketRx t k pk bus recs cap) s =
      .next (holdBase s0 (lnkGrant k true (bump (lnkCtr k 0x0110) s0)))) ∧
    (∀ pk bus recs cap, operUp s (50 + k) = true → pk.good = true →
      (pktReplayable pk = true → pk.lseq = ((linkOf s k).rxSeq + 1) % 65536) →
      (pk.typ ≠ 1 → exec (.lnkPacketRx t k pk bus recs cap) s = .next (holdBase s0 (lnkPump k (mirrorPump
        (lnkGrant k false (lnkServe k pk recs cap (lnkAccept k pk s0))))))) ∧
      (pk.typ = 1 → let a := (ingress (lnkFrame s0 k pk bus cap) (50 + k) false (lnkAccept k pk s0)).2
        a.wait = false → exec (.lnkPacketRx t k pk bus recs cap) s =
          .next (holdBase s0 (lnkPump k (lnkGrant k false a.st))))) ∧
    (operUp s (50 + k) = true → (linkOf s k).unacked ≠ [] → (linkOf s k).ackAt + us 2 ≤ s0.now →
      exec (.lnkReplayTimeout t k) s = .next (holdBase s0 (lnkReplay k s0))) ∧
    (∀ e, (linkOf s k).relays = [e] → e.2 + us 10 ≤ s0.now → exec (.relayCreditTimeout t k) s =
      .next (holdBase s0 (lnkComplete (1 - k) e.1 1 [] (bump (lnkCtr (1 - k) 0x0148)
        (setLink k { linkOf s k with relays := [] } s0))))) ∧
    (∀ r, s.pair.remote = some r → r.started + ms 1 ≤ s0.now → exec (.remoteReadTimeout t) s = .next (holdBase s0
      (remoteFinish r { status := if r.retried then 0x0107 else 0x0204 } s0))) ∧
    (let y := reclaimTrack s0
      let x := linkOf s 0
      let stamp := lnkEgress y y.clk
      let p := { mkPacket y 6 12 0xFF 31 0 0 (hbPayload y x stamp) with lack := x.rxSeq }
      let z := lnkGrant 0 false (lnkSend 0 p (setLink 0 { x with
        hbSeq := (x.hbSeq + 1) % 2 ^ 32, hbWindow := some (s0.now / us 10),
        hbSent := (((x.hbSeq + 1) % 2 ^ 32, stamp) :: x.hbSent).take 64 } y))
      operUp s 50 = true → x.hbWindow ≠ some (s0.now / us 10) → s.pair.st = .unpaired → operUp z 51 = false →
      exec (.heartbeatTx t) s = .next (holdBase s0 (mirrorPump z)))

/-- R713, R714, R717, R720, R722, R727: pairing's pin and windows. A unit elects its role when START_WAIT ends, takes
over when heartbeat and pin are silent, and becomes ISOLATED when only the heartbeat is. -/
def Obligations.PairEventsComplete : Prop :=
  ∀ (t : Nat) (s : State), tsclkRuns s = true →
    let s0 := atTime t s
    (s.pair.pinToggled + us 5 ≤ s0.now → exec (.pairHbOutToggle t) s =
      .next { s0 with pair.pinOut := !s.pair.pinOut, pair.pinToggled := s0.now }) ∧
    exec (.pairHbInEdge t) s = .next { s0 with pair.pinLast := some s0.now } ∧
    (s.pair.st = .standby → s.pair.waitEnd = none → hbValid s0 = false → pinSilent s0 = true → s.pair.hbLast = none →
      exec (.heartbeatLost t) s = .next (holdBase s0 (takeOver 1 s0))) ∧
    (s.pair.st = .standby → s.pair.waitEnd = none → hbValid s0 = false → pinSilent s0 = false → s.pair.hbLast = none →
      exec (.heartbeatLost t) s = .next (holdBase s0 (toIsolated false s0))) ∧
    (∀ e, s.pair.waitEnd = some e → e ≤ s0.now →
      (hbValid s0 = true → s.pair.peerState = 3 → exec (.startWaitExpiry t) s = .next (holdBase s0 (toSyncing 1 s0))) ∧
      (hbValid s0 = false → pinSilent s0 = true → exec (.startWaitExpiry t) s = .next (holdBase s0 (toActive 1 s0))) ∧
      (hbValid s0 = false → pinSilent s0 = false → preferred s = false → exec (.startWaitExpiry t) s =
        .next (holdBase s0 (toIsolated false s0)))) ∧
    (s.pair.st = .standby → exec (.mirrorStall t) s =
      .next (holdBase s0 (toSyncing 2 (bump (pairCtr 0x0120) s0)))) ∧
    (s.pair.st = .syncing → s.pair.copied = true → s.pair.waitEnd = none → exec (.syncComplete t true) s =
      .next (holdBase s0 (setPairState .standby 3 { s0 with pair.keysAgree := true }))) ∧
    (∀ r, let y := reclaimTrack s0
      y.pair.reclaimFrom = some r → r + holdOffS y * ticksPerSec ≤ y.now →
      exec (.holdOffExpiry t) s = .next (holdBase s0 { y with pair.reclaim := true }))

/-- R33, R734 to R736, R739, R743: the safety rows. A clock, lockstep, supply, watchdog, forwarding, LBIST or
comparison detection takes the reaction of its row. -/
def Obligations.SafetyEventsComplete : Prop :=
  ∀ (t n : Nat) (s : State), tsclkRuns s = true →
    let s0 := atTime t s
    (s.safety.kicked + ms 10 ≤ s0.now → s.power.activating = none → lbistRuns 0 s0 = false →
      exec (.watchdogExpiry t) s = .next (performReset (holdBase s0 (safetyRst 3 0 7 s0)))) ∧
    (exec (.lockstepMismatch t 0) s = .next (performReset (holdBase s0
      (safetyLee 1 0 (holdCondition 1 { s0 with safety.haltedA := true }))))) ∧
    (exec (.lockstepMismatch t 1) s = .next (performReset (holdBase s0
      (safetyLee 1 1 (holdCondition 1 { s0 with safety.haltedB := true }))))) ∧
    (exec (.lockstepMismatch t 2) s = .next (performReset (holdBase s0 (safetyRst 2 0 8 s0)))) ∧
    (3 ≤ n → n ≤ 13 → clockRuns s0 n = true →
      (s.safety.freqFault.testBit (n - 1) = true → s.power.resetDue = none → exec (.clockMonitor t n true) s =
        .next { s0 with safety.freqFault := s.safety.freqFault - 2 ^ (n - 1) }) ∧
      (10 < n → exec (.clockMonitor t n false) s = .next (performReset (holdBase s0 (safetyE 8 n
        (setW1c 0x0700 0x0040 (15 + n) n
          { s0 with safety.freqFault := s.safety.freqFault ||| 2 ^ (n - 1) })))))) ∧
    (exec (.supplyMonitor t n true) s = .next (holdBase s0 (safetyLee 9 n (holdCondition 9 s0)))) ∧
    (exec (.supplyMonitor t n false) s =
      .next { s0 with safety.conditions := s.safety.conditions.filter fun r => r != 9 }) ∧
    (∀ len, s.safety.lbistEnd = none → len ≤ ms 2 → s.mode = .gale ∨ s.mode = .lee ∨ s.mode = .atelier →
      exec (.lbistSlot t len true) s = .next (bump (safetyCounter 0x0128) { s0 with
        safety.lbistEnd := some (s0.now + len), safety.lbistNext := (s.safety.lbistNext + 1) % 3
        safety.rotStart := if s.safety.lbistNext = 0 then s0.now else s.safety.rotStart })) ∧
    (∀ i a h, s.switch.watched = [(i, a)] → a + ms 1 ≤ s0.now → heldOf s i = some h →
      exec (.forwardingMonitor t) s = .next (holdBase s0
        (safetyLee 4 h.frame.flow { s0 with switch.watched := tdel s.switch.watched i }))) ∧
    (exec (.stateCompare t [] []) s = .next { s0 with safety.diverging := [] }) ∧
    (∀ a b, exec (.stateCompare t [] [(a, b)]) s = .next (holdBase s0 (raiseSafety 0x0A00 0x0103
      (le 2 a ++ le 2 b ++ le 1 0 ++ le 1 1) (safetyLee 10 b { s0 with safety.diverging := [] }))))
end

