-- ==== Sys2Proof/Laws/State.lean ====
section
/-!
SUPPORT. What the shared updates of the state leave and write, field by field. Each is true by unfolding, so that no
proof unfolds a record update.
-/
namespace Sys2Proof.Machine

@[simp] theorem holdBase_clk (a b : State) : (holdBase a b).clk = a.clk := rfl
@[simp] theorem holdBase_it (a b : State) : (holdBase a b).it = a.it := rfl
@[simp] theorem holdBase_rateAdj (a b : State) : (holdBase a b).rateAdj = a.rateAdj := rfl
@[simp] theorem holdBase_free (a b : State) : (holdBase a b).free = b.free := rfl
@[simp] theorem holdBase_mode (a b : State) : (holdBase a b).mode = a.mode := rfl
@[simp] theorem holdBase_mainUp (a b : State) : (holdBase a b).mainUp = a.mainUp := rfl
@[simp] theorem holdBase_kernel (a b : State) : (holdBase a b).kernel = b.kernel := rfl
@[simp] theorem holdBase_tables (a b : State) : (holdBase a b).tables = b.tables := rfl
@[simp] theorem holdBase_policing (a b : State) : (holdBase a b).policing = b.policing := rfl
@[simp] theorem holdBase_ports (a b : State) : (holdBase a b).ports = b.ports := rfl
@[simp] theorem holdBase_switch (a b : State) : (holdBase a b).switch = b.switch := rfl
@[simp] theorem holdBase_gw (a b : State) : (holdBase a b).gw = b.gw := rfl
@[simp] theorem holdBase_host (a b : State) : (holdBase a b).host = b.host := rfl
@[simp] theorem holdBase_time (a b : State) : (holdBase a b).time = b.time := rfl
@[simp] theorem holdBase_herax (a b : State) : (holdBase a b).herax = b.herax := rfl
@[simp] theorem holdBase_cipher (a b : State) : (holdBase a b).cipher = b.cipher := rfl
@[simp] theorem holdBase_power (a b : State) : (holdBase a b).power = b.power := rfl
@[simp] theorem holdBase_sleep (a b : State) : (holdBase a b).sleep = b.sleep := rfl
@[simp] theorem holdBase_links (a b : State) : (holdBase a b).links = b.links := rfl
@[simp] theorem holdBase_pair (a b : State) : (holdBase a b).pair = b.pair := rfl
@[simp] theorem holdBase_safety (a b : State) : (holdBase a b).safety = b.safety := rfl
@[simp] theorem holdBase_lpddrUp (a b : State) : (holdBase a b).lpddrUp = b.lpddrUp := rfl
@[simp] theorem holdBase_pending (a b : State) : (holdBase a b).pending = a.pending := rfl

@[simp] theorem atTime_rateAdj (t : Tick) (s : State) : (atTime t s).rateAdj = s.rateAdj := rfl
@[simp] theorem atTime_free (t : Tick) (s : State) : (atTime t s).free = s.free := rfl
@[simp] theorem atTime_mode (t : Tick) (s : State) : (atTime t s).mode = s.mode := rfl
@[simp] theorem atTime_mainUp (t : Tick) (s : State) : (atTime t s).mainUp = s.mainUp := rfl
@[simp] theorem atTime_kernel (t : Tick) (s : State) : (atTime t s).kernel = s.kernel := rfl
@[simp] theorem atTime_tables (t : Tick) (s : State) : (atTime t s).tables = s.tables := rfl
@[simp] theorem atTime_policing (t : Tick) (s : State) : (atTime t s).policing = s.policing := rfl
@[simp] theorem atTime_ports (t : Tick) (s : State) : (atTime t s).ports = s.ports := rfl
@[simp] theorem atTime_switch (t : Tick) (s : State) : (atTime t s).switch = s.switch := rfl
@[simp] theorem atTime_gw (t : Tick) (s : State) : (atTime t s).gw = s.gw := rfl
@[simp] theorem atTime_host (t : Tick) (s : State) : (atTime t s).host = s.host := rfl
@[simp] theorem atTime_time (t : Tick) (s : State) : (atTime t s).time = s.time := rfl
@[simp] theorem atTime_herax (t : Tick) (s : State) : (atTime t s).herax = s.herax := rfl
@[simp] theorem atTime_cipher (t : Tick) (s : State) : (atTime t s).cipher = s.cipher := rfl
@[simp] theorem atTime_power (t : Tick) (s : State) : (atTime t s).power = s.power := rfl
@[simp] theorem atTime_sleep (t : Tick) (s : State) : (atTime t s).sleep = s.sleep := rfl
@[simp] theorem atTime_links (t : Tick) (s : State) : (atTime t s).links = s.links := rfl
@[simp] theorem atTime_pair (t : Tick) (s : State) : (atTime t s).pair = s.pair := rfl
@[simp] theorem atTime_safety (t : Tick) (s : State) : (atTime t s).safety = s.safety := rfl
@[simp] theorem atTime_lpddrUp (t : Tick) (s : State) : (atTime t s).lpddrUp = s.lpddrUp := rfl
@[simp] theorem atTime_pending (t : Tick) (s : State) : (atTime t s).pending = s.pending := rfl
@[simp] theorem atTime_clk (t : Tick) (s : State) : (atTime t s).clk = max s.clk t := rfl
@[simp] theorem tsclkRuns_atTime (t : Tick) (s : State) : tsclkRuns (atTime t s) = tsclkRuns s := rfl
@[simp] theorem partner_atTime (t : Tick) (s : State) (p : Nat) : partner (atTime t s) p = partner s p := rfl
@[simp] theorem pairBRuns_atTime (t : Tick) (s : State) (h : s.safety.lbistEnd = none) :
    pairBRuns (atTime t s) = pairBRuns s := by simp [pairBRuns, lbistRuns, h]

@[simp] theorem setCommon_clk (g : Nat) (x : PortCommon) (s : State) : (setCommon g x s).clk = s.clk := rfl
@[simp] theorem setCommon_it (g : Nat) (x : PortCommon) (s : State) : (setCommon g x s).it = s.it := rfl
@[simp] theorem setCommon_rateAdj (g : Nat) (x : PortCommon) (s : State) : (setCommon g x s).rateAdj = s.rateAdj := rfl
@[simp] theorem setCommon_free (g : Nat) (x : PortCommon) (s : State) : (setCommon g x s).free = s.free := rfl
@[simp] theorem setCommon_mode (g : Nat) (x : PortCommon) (s : State) : (setCommon g x s).mode = s.mode := rfl
@[simp] theorem setCommon_mainUp (g : Nat) (x : PortCommon) (s : State) : (setCommon g x s).mainUp = s.mainUp := rfl
@[simp] theorem setCommon_kernel (g : Nat) (x : PortCommon) (s : State) : (setCommon g x s).kernel = s.kernel := rfl
@[simp] theorem setCommon_tables (g : Nat) (x : PortCommon) (s : State) : (setCommon g x s).tables = s.tables := rfl
@[simp] theorem setCommon_policing (g : Nat) (x : PortCommon) (s : State) : (setCommon g x s).policing = s.policing := rfl
@[simp] theorem setCommon_switch (g : Nat) (x : PortCommon) (s : State) : (setCommon g x s).switch = s.switch := rfl
@[simp] theorem setCommon_gw (g : Nat) (x : PortCommon) (s : State) : (setCommon g x s).gw = s.gw := rfl
@[simp] theorem setCommon_host (g : Nat) (x : PortCommon) (s : State) : (setCommon g x s).host = s.host := rfl
@[simp] theorem setCommon_time (g : Nat) (x : PortCommon) (s : State) : (setCommon g x s).time = s.time := rfl
@[simp] theorem setCommon_herax (g : Nat) (x : PortCommon) (s : State) : (setCommon g x s).herax = s.herax := rfl
@[simp] theorem setCommon_cipher (g : Nat) (x : PortCommon) (s : State) : (setCommon g x s).cipher = s.cipher := rfl
@[simp] theorem setCommon_power (g : Nat) (x : PortCommon) (s : State) : (setCommon g x s).power = s.power := rfl
@[simp] theorem setCommon_sleep (g : Nat) (x : PortCommon) (s : State) : (setCommon g x s).sleep = s.sleep := rfl
@[simp] theorem setCommon_links (g : Nat) (x : PortCommon) (s : State) : (setCommon g x s).links = s.links := rfl
@[simp] theorem setCommon_pair (g : Nat) (x : PortCommon) (s : State) : (setCommon g x s).pair = s.pair := rfl
@[simp] theorem setCommon_safety (g : Nat) (x : PortCommon) (s : State) : (setCommon g x s).safety = s.safety := rfl
@[simp] theorem setCommon_lpddrUp (g : Nat) (x : PortCommon) (s : State) : (setCommon g x s).lpddrUp = s.lpddrUp := rfl
@[simp] theorem setCommon_pending (g : Nat) (x : PortCommon) (s : State) : (setCommon g x s).pending = s.pending := rfl

@[simp] theorem setCan_clk (g : Nat) (x : CanPort) (s : State) : (setCan g x s).clk = s.clk := rfl
@[simp] theorem setCan_it (g : Nat) (x : CanPort) (s : State) : (setCan g x s).it = s.it := rfl
@[simp] theorem setCan_rateAdj (g : Nat) (x : CanPort) (s : State) : (setCan g x s).rateAdj = s.rateAdj := rfl
@[simp] theorem setCan_free (g : Nat) (x : CanPort) (s : State) : (setCan g x s).free = s.free := rfl
@[simp] theorem setCan_mode (g : Nat) (x : CanPort) (s : State) : (setCan g x s).mode = s.mode := rfl
@[simp] theorem setCan_mainUp (g : Nat) (x : CanPort) (s : State) : (setCan g x s).mainUp = s.mainUp := rfl
@[simp] theorem setCan_kernel (g : Nat) (x : CanPort) (s : State) : (setCan g x s).kernel = s.kernel := rfl
@[simp] theorem setCan_tables (g : Nat) (x : CanPort) (s : State) : (setCan g x s).tables = s.tables := rfl
@[simp] theorem setCan_policing (g : Nat) (x : CanPort) (s : State) : (setCan g x s).policing = s.policing := rfl
@[simp] theorem setCan_switch (g : Nat) (x : CanPort) (s : State) : (setCan g x s).switch = s.switch := rfl
@[simp] theorem setCan_gw (g : Nat) (x : CanPort) (s : State) : (setCan g x s).gw = s.gw := rfl
@[simp] theorem setCan_host (g : Nat) (x : CanPort) (s : State) : (setCan g x s).host = s.host := rfl
@[simp] theorem setCan_time (g : Nat) (x : CanPort) (s : State) : (setCan g x s).time = s.time := rfl
@[simp] theorem setCan_herax (g : Nat) (x : CanPort) (s : State) : (setCan g x s).herax = s.herax := rfl
@[simp] theorem setCan_cipher (g : Nat) (x : CanPort) (s : State) : (setCan g x s).cipher = s.cipher := rfl
@[simp] theorem setCan_power (g : Nat) (x : CanPort) (s : State) : (setCan g x s).power = s.power := rfl
@[simp] theorem setCan_sleep (g : Nat) (x : CanPort) (s : State) : (setCan g x s).sleep = s.sleep := rfl
@[simp] theorem setCan_links (g : Nat) (x : CanPort) (s : State) : (setCan g x s).links = s.links := rfl
@[simp] theorem setCan_pair (g : Nat) (x : CanPort) (s : State) : (setCan g x s).pair = s.pair := rfl
@[simp] theorem setCan_safety (g : Nat) (x : CanPort) (s : State) : (setCan g x s).safety = s.safety := rfl
@[simp] theorem setCan_lpddrUp (g : Nat) (x : CanPort) (s : State) : (setCan g x s).lpddrUp = s.lpddrUp := rfl
@[simp] theorem setCan_pending (g : Nat) (x : CanPort) (s : State) : (setCan g x s).pending = s.pending := rfl

@[simp] theorem setLin_clk (g : Nat) (x : LinPort) (s : State) : (setLin g x s).clk = s.clk := rfl
@[simp] theorem setLin_it (g : Nat) (x : LinPort) (s : State) : (setLin g x s).it = s.it := rfl
@[simp] theorem setLin_rateAdj (g : Nat) (x : LinPort) (s : State) : (setLin g x s).rateAdj = s.rateAdj := rfl
@[simp] theorem setLin_free (g : Nat) (x : LinPort) (s : State) : (setLin g x s).free = s.free := rfl
@[simp] theorem setLin_mode (g : Nat) (x : LinPort) (s : State) : (setLin g x s).mode = s.mode := rfl
@[simp] theorem setLin_mainUp (g : Nat) (x : LinPort) (s : State) : (setLin g x s).mainUp = s.mainUp := rfl
@[simp] theorem setLin_kernel (g : Nat) (x : LinPort) (s : State) : (setLin g x s).kernel = s.kernel := rfl
@[simp] theorem setLin_tables (g : Nat) (x : LinPort) (s : State) : (setLin g x s).tables = s.tables := rfl
@[simp] theorem setLin_policing (g : Nat) (x : LinPort) (s : State) : (setLin g x s).policing = s.policing := rfl
@[simp] theorem setLin_switch (g : Nat) (x : LinPort) (s : State) : (setLin g x s).switch = s.switch := rfl
@[simp] theorem setLin_gw (g : Nat) (x : LinPort) (s : State) : (setLin g x s).gw = s.gw := rfl
@[simp] theorem setLin_host (g : Nat) (x : LinPort) (s : State) : (setLin g x s).host = s.host := rfl
@[simp] theorem setLin_time (g : Nat) (x : LinPort) (s : State) : (setLin g x s).time = s.time := rfl
@[simp] theorem setLin_herax (g : Nat) (x : LinPort) (s : State) : (setLin g x s).herax = s.herax := rfl
@[simp] theorem setLin_cipher (g : Nat) (x : LinPort) (s : State) : (setLin g x s).cipher = s.cipher := rfl
@[simp] theorem setLin_power (g : Nat) (x : LinPort) (s : State) : (setLin g x s).power = s.power := rfl
@[simp] theorem setLin_sleep (g : Nat) (x : LinPort) (s : State) : (setLin g x s).sleep = s.sleep := rfl
@[simp] theorem setLin_links (g : Nat) (x : LinPort) (s : State) : (setLin g x s).links = s.links := rfl
@[simp] theorem setLin_pair (g : Nat) (x : LinPort) (s : State) : (setLin g x s).pair = s.pair := rfl
@[simp] theorem setLin_safety (g : Nat) (x : LinPort) (s : State) : (setLin g x s).safety = s.safety := rfl
@[simp] theorem setLin_lpddrUp (g : Nat) (x : LinPort) (s : State) : (setLin g x s).lpddrUp = s.lpddrUp := rfl
@[simp] theorem setLin_pending (g : Nat) (x : LinPort) (s : State) : (setLin g x s).pending = s.pending := rfl

@[simp] theorem setEth_clk (g : Nat) (x : EthPort) (s : State) : (setEth g x s).clk = s.clk := rfl
@[simp] theorem setEth_it (g : Nat) (x : EthPort) (s : State) : (setEth g x s).it = s.it := rfl
@[simp] theorem setEth_rateAdj (g : Nat) (x : EthPort) (s : State) : (setEth g x s).rateAdj = s.rateAdj := rfl
@[simp] theorem setEth_free (g : Nat) (x : EthPort) (s : State) : (setEth g x s).free = s.free := rfl
@[simp] theorem setEth_mode (g : Nat) (x : EthPort) (s : State) : (setEth g x s).mode = s.mode := rfl
@[simp] theorem setEth_mainUp (g : Nat) (x : EthPort) (s : State) : (setEth g x s).mainUp = s.mainUp := rfl
@[simp] theorem setEth_kernel (g : Nat) (x : EthPort) (s : State) : (setEth g x s).kernel = s.kernel := rfl
@[simp] theorem setEth_tables (g : Nat) (x : EthPort) (s : State) : (setEth g x s).tables = s.tables := rfl
@[simp] theorem setEth_policing (g : Nat) (x : EthPort) (s : State) : (setEth g x s).policing = s.policing := rfl
@[simp] theorem setEth_switch (g : Nat) (x : EthPort) (s : State) : (setEth g x s).switch = s.switch := rfl
@[simp] theorem setEth_gw (g : Nat) (x : EthPort) (s : State) : (setEth g x s).gw = s.gw := rfl
@[simp] theorem setEth_host (g : Nat) (x : EthPort) (s : State) : (setEth g x s).host = s.host := rfl
@[simp] theorem setEth_time (g : Nat) (x : EthPort) (s : State) : (setEth g x s).time = s.time := rfl
@[simp] theorem setEth_herax (g : Nat) (x : EthPort) (s : State) : (setEth g x s).herax = s.herax := rfl
@[simp] theorem setEth_cipher (g : Nat) (x : EthPort) (s : State) : (setEth g x s).cipher = s.cipher := rfl
@[simp] theorem setEth_power (g : Nat) (x : EthPort) (s : State) : (setEth g x s).power = s.power := rfl
@[simp] theorem setEth_sleep (g : Nat) (x : EthPort) (s : State) : (setEth g x s).sleep = s.sleep := rfl
@[simp] theorem setEth_links (g : Nat) (x : EthPort) (s : State) : (setEth g x s).links = s.links := rfl
@[simp] theorem setEth_pair (g : Nat) (x : EthPort) (s : State) : (setEth g x s).pair = s.pair := rfl
@[simp] theorem setEth_safety (g : Nat) (x : EthPort) (s : State) : (setEth g x s).safety = s.safety := rfl
@[simp] theorem setEth_lpddrUp (g : Nat) (x : EthPort) (s : State) : (setEth g x s).lpddrUp = s.lpddrUp := rfl
@[simp] theorem setEth_pending (g : Nat) (x : EthPort) (s : State) : (setEth g x s).pending = s.pending := rfl

@[simp] theorem setLink_clk (k : Nat) (x : Link) (s : State) : (setLink k x s).clk = s.clk := rfl
@[simp] theorem setLink_it (k : Nat) (x : Link) (s : State) : (setLink k x s).it = s.it := rfl
@[simp] theorem setLink_rateAdj (k : Nat) (x : Link) (s : State) : (setLink k x s).rateAdj = s.rateAdj := rfl
@[simp] theorem setLink_free (k : Nat) (x : Link) (s : State) : (setLink k x s).free = s.free := rfl
@[simp] theorem setLink_mode (k : Nat) (x : Link) (s : State) : (setLink k x s).mode = s.mode := rfl
@[simp] theorem setLink_mainUp (k : Nat) (x : Link) (s : State) : (setLink k x s).mainUp = s.mainUp := rfl
@[simp] theorem setLink_kernel (k : Nat) (x : Link) (s : State) : (setLink k x s).kernel = s.kernel := rfl
@[simp] theorem setLink_tables (k : Nat) (x : Link) (s : State) : (setLink k x s).tables = s.tables := rfl
@[simp] theorem setLink_policing (k : Nat) (x : Link) (s : State) : (setLink k x s).policing = s.policing := rfl
@[simp] theorem setLink_ports (k : Nat) (x : Link) (s : State) : (setLink k x s).ports = s.ports := rfl
@[simp] theorem setLink_switch (k : Nat) (x : Link) (s : State) : (setLink k x s).switch = s.switch := rfl
@[simp] theorem setLink_gw (k : Nat) (x : Link) (s : State) : (setLink k x s).gw = s.gw := rfl
@[simp] theorem setLink_host (k : Nat) (x : Link) (s : State) : (setLink k x s).host = s.host := rfl
@[simp] theorem setLink_time (k : Nat) (x : Link) (s : State) : (setLink k x s).time = s.time := rfl
@[simp] theorem setLink_herax (k : Nat) (x : Link) (s : State) : (setLink k x s).herax = s.herax := rfl
@[simp] theorem setLink_cipher (k : Nat) (x : Link) (s : State) : (setLink k x s).cipher = s.cipher := rfl
@[simp] theorem setLink_power (k : Nat) (x : Link) (s : State) : (setLink k x s).power = s.power := rfl
@[simp] theorem setLink_sleep (k : Nat) (x : Link) (s : State) : (setLink k x s).sleep = s.sleep := rfl
@[simp] theorem setLink_pair (k : Nat) (x : Link) (s : State) : (setLink k x s).pair = s.pair := rfl
@[simp] theorem setLink_safety (k : Nat) (x : Link) (s : State) : (setLink k x s).safety = s.safety := rfl
@[simp] theorem setLink_lpddrUp (k : Nat) (x : Link) (s : State) : (setLink k x s).lpddrUp = s.lpddrUp := rfl
@[simp] theorem setLink_pending (k : Nat) (x : Link) (s : State) : (setLink k x s).pending = s.pending := rfl

@[simp] theorem setDomain_clk (d : Nat) (x : Domain) (s : State) : (setDomain d x s).clk = s.clk := rfl
@[simp] theorem setDomain_it (d : Nat) (x : Domain) (s : State) : (setDomain d x s).it = s.it := rfl
@[simp] theorem setDomain_rateAdj (d : Nat) (x : Domain) (s : State) : (setDomain d x s).rateAdj = s.rateAdj := rfl
@[simp] theorem setDomain_free (d : Nat) (x : Domain) (s : State) : (setDomain d x s).free = s.free := rfl
@[simp] theorem setDomain_mode (d : Nat) (x : Domain) (s : State) : (setDomain d x s).mode = s.mode := rfl
@[simp] theorem setDomain_mainUp (d : Nat) (x : Domain) (s : State) : (setDomain d x s).mainUp = s.mainUp := rfl
@[simp] theorem setDomain_kernel (d : Nat) (x : Domain) (s : State) : (setDomain d x s).kernel = s.kernel := rfl
@[simp] theorem setDomain_tables (d : Nat) (x : Domain) (s : State) : (setDomain d x s).tables = s.tables := rfl
@[simp] theorem setDomain_policing (d : Nat) (x : Domain) (s : State) : (setDomain d x s).policing = s.policing := rfl
@[simp] theorem setDomain_ports (d : Nat) (x : Domain) (s : State) : (setDomain d x s).ports = s.ports := rfl
@[simp] theorem setDomain_switch (d : Nat) (x : Domain) (s : State) : (setDomain d x s).switch = s.switch := rfl
@[simp] theorem setDomain_gw (d : Nat) (x : Domain) (s : State) : (setDomain d x s).gw = s.gw := rfl
@[simp] theorem setDomain_host (d : Nat) (x : Domain) (s : State) : (setDomain d x s).host = s.host := rfl
@[simp] theorem setDomain_herax (d : Nat) (x : Domain) (s : State) : (setDomain d x s).herax = s.herax := rfl
@[simp] theorem setDomain_cipher (d : Nat) (x : Domain) (s : State) : (setDomain d x s).cipher = s.cipher := rfl
@[simp] theorem setDomain_power (d : Nat) (x : Domain) (s : State) : (setDomain d x s).power = s.power := rfl
@[simp] theorem setDomain_sleep (d : Nat) (x : Domain) (s : State) : (setDomain d x s).sleep = s.sleep := rfl
@[simp] theorem setDomain_links (d : Nat) (x : Domain) (s : State) : (setDomain d x s).links = s.links := rfl
@[simp] theorem setDomain_pair (d : Nat) (x : Domain) (s : State) : (setDomain d x s).pair = s.pair := rfl
@[simp] theorem setDomain_safety (d : Nat) (x : Domain) (s : State) : (setDomain d x s).safety = s.safety := rfl
@[simp] theorem setDomain_lpddrUp (d : Nat) (x : Domain) (s : State) : (setDomain d x s).lpddrUp = s.lpddrUp := rfl
@[simp] theorem setDomain_pending (d : Nat) (x : Domain) (s : State) : (setDomain d x s).pending = s.pending := rfl

@[simp] theorem setSlot_clk (i : Nat) (x : KeySlot) (s : State) : (setSlot i x s).clk = s.clk := rfl
@[simp] theorem setSlot_it (i : Nat) (x : KeySlot) (s : State) : (setSlot i x s).it = s.it := rfl
@[simp] theorem setSlot_rateAdj (i : Nat) (x : KeySlot) (s : State) : (setSlot i x s).rateAdj = s.rateAdj := rfl
@[simp] theorem setSlot_free (i : Nat) (x : KeySlot) (s : State) : (setSlot i x s).free = s.free := rfl
@[simp] theorem setSlot_mode (i : Nat) (x : KeySlot) (s : State) : (setSlot i x s).mode = s.mode := rfl
@[simp] theorem setSlot_mainUp (i : Nat) (x : KeySlot) (s : State) : (setSlot i x s).mainUp = s.mainUp := rfl
@[simp] theorem setSlot_kernel (i : Nat) (x : KeySlot) (s : State) : (setSlot i x s).kernel = s.kernel := rfl
@[simp] theorem setSlot_tables (i : Nat) (x : KeySlot) (s : State) : (setSlot i x s).tables = s.tables := rfl
@[simp] theorem setSlot_policing (i : Nat) (x : KeySlot) (s : State) : (setSlot i x s).policing = s.policing := rfl
@[simp] theorem setSlot_ports (i : Nat) (x : KeySlot) (s : State) : (setSlot i x s).ports = s.ports := rfl
@[simp] theorem setSlot_switch (i : Nat) (x : KeySlot) (s : State) : (setSlot i x s).switch = s.switch := rfl
@[simp] theorem setSlot_gw (i : Nat) (x : KeySlot) (s : State) : (setSlot i x s).gw = s.gw := rfl
@[simp] theorem setSlot_host (i : Nat) (x : KeySlot) (s : State) : (setSlot i x s).host = s.host := rfl
@[simp] theorem setSlot_time (i : Nat) (x : KeySlot) (s : State) : (setSlot i x s).time = s.time := rfl
@[simp] theorem setSlot_cipher (i : Nat) (x : KeySlot) (s : State) : (setSlot i x s).cipher = s.cipher := rfl
@[simp] theorem setSlot_power (i : Nat) (x : KeySlot) (s : State) : (setSlot i x s).power = s.power := rfl
@[simp] theorem setSlot_sleep (i : Nat) (x : KeySlot) (s : State) : (setSlot i x s).sleep = s.sleep := rfl
@[simp] theorem setSlot_links (i : Nat) (x : KeySlot) (s : State) : (setSlot i x s).links = s.links := rfl
@[simp] theorem setSlot_pair (i : Nat) (x : KeySlot) (s : State) : (setSlot i x s).pair = s.pair := rfl
@[simp] theorem setSlot_safety (i : Nat) (x : KeySlot) (s : State) : (setSlot i x s).safety = s.safety := rfl
@[simp] theorem setSlot_lpddrUp (i : Nat) (x : KeySlot) (s : State) : (setSlot i x s).lpddrUp = s.lpddrUp := rfl
@[simp] theorem setSlot_pending (i : Nat) (x : KeySlot) (s : State) : (setSlot i x s).pending = s.pending := rfl

@[simp] theorem setComparator_clk (c : Nat) (x : Comparator) (s : State) : (setComparator c x s).clk = s.clk := rfl
@[simp] theorem setComparator_it (c : Nat) (x : Comparator) (s : State) : (setComparator c x s).it = s.it := rfl
@[simp] theorem setComparator_rateAdj (c : Nat) (x : Comparator) (s : State) : (setComparator c x s).rateAdj = s.rateAdj := rfl
@[simp] theorem setComparator_free (c : Nat) (x : Comparator) (s : State) : (setComparator c x s).free = s.free := rfl
@[simp] theorem setComparator_mode (c : Nat) (x : Comparator) (s : State) : (setComparator c x s).mode = s.mode := rfl
@[simp] theorem setComparator_mainUp (c : Nat) (x : Comparator) (s : State) : (setComparator c x s).mainUp = s.mainUp := rfl
@[simp] theorem setComparator_kernel (c : Nat) (x : Comparator) (s : State) : (setComparator c x s).kernel = s.kernel := rfl
@[simp] theorem setComparator_tables (c : Nat) (x : Comparator) (s : State) : (setComparator c x s).tables = s.tables := rfl
@[simp] theorem setComparator_policing (c : Nat) (x : Comparator) (s : State) : (setComparator c x s).policing = s.policing := rfl
@[simp] theorem setComparator_ports (c : Nat) (x : Comparator) (s : State) : (setComparator c x s).ports = s.ports := rfl
@[simp] theorem setComparator_switch (c : Nat) (x : Comparator) (s : State) : (setComparator c x s).switch = s.switch := rfl
@[simp] theorem setComparator_gw (c : Nat) (x : Comparator) (s : State) : (setComparator c x s).gw = s.gw := rfl
@[simp] theorem setComparator_host (c : Nat) (x : Comparator) (s : State) : (setComparator c x s).host = s.host := rfl
@[simp] theorem setComparator_time (c : Nat) (x : Comparator) (s : State) : (setComparator c x s).time = s.time := rfl
@[simp] theorem setComparator_herax (c : Nat) (x : Comparator) (s : State) : (setComparator c x s).herax = s.herax := rfl
@[simp] theorem setComparator_cipher (c : Nat) (x : Comparator) (s : State) : (setComparator c x s).cipher = s.cipher := rfl
@[simp] theorem setComparator_sleep (c : Nat) (x : Comparator) (s : State) : (setComparator c x s).sleep = s.sleep := rfl
@[simp] theorem setComparator_links (c : Nat) (x : Comparator) (s : State) : (setComparator c x s).links = s.links := rfl
@[simp] theorem setComparator_pair (c : Nat) (x : Comparator) (s : State) : (setComparator c x s).pair = s.pair := rfl
@[simp] theorem setComparator_safety (c : Nat) (x : Comparator) (s : State) : (setComparator c x s).safety = s.safety := rfl
@[simp] theorem setComparator_lpddrUp (c : Nat) (x : Comparator) (s : State) : (setComparator c x s).lpddrUp = s.lpddrUp := rfl
@[simp] theorem setComparator_pending (c : Nat) (x : Comparator) (s : State) : (setComparator c x s).pending = s.pending := rfl

@[simp] theorem setRing_clk (n : Nat) (x : Ring) (s : State) : (setRing n x s).clk = s.clk := rfl
@[simp] theorem setRing_it (n : Nat) (x : Ring) (s : State) : (setRing n x s).it = s.it := rfl
@[simp] theorem setRing_rateAdj (n : Nat) (x : Ring) (s : State) : (setRing n x s).rateAdj = s.rateAdj := rfl
@[simp] theorem setRing_free (n : Nat) (x : Ring) (s : State) : (setRing n x s).free = s.free := rfl
@[simp] theorem setRing_mode (n : Nat) (x : Ring) (s : State) : (setRing n x s).mode = s.mode := rfl
@[simp] theorem setRing_mainUp (n : Nat) (x : Ring) (s : State) : (setRing n x s).mainUp = s.mainUp := rfl
@[simp] theorem setRing_kernel (n : Nat) (x : Ring) (s : State) : (setRing n x s).kernel = s.kernel := rfl
@[simp] theorem setRing_tables (n : Nat) (x : Ring) (s : State) : (setRing n x s).tables = s.tables := rfl
@[simp] theorem setRing_policing (n : Nat) (x : Ring) (s : State) : (setRing n x s).policing = s.policing := rfl
@[simp] theorem setRing_ports (n : Nat) (x : Ring) (s : State) : (setRing n x s).ports = s.ports := rfl
@[simp] theorem setRing_switch (n : Nat) (x : Ring) (s : State) : (setRing n x s).switch = s.switch := rfl
@[simp] theorem setRing_gw (n : Nat) (x : Ring) (s : State) : (setRing n x s).gw = s.gw := rfl
@[simp] theorem setRing_time (n : Nat) (x : Ring) (s : State) : (setRing n x s).time = s.time := rfl
@[simp] theorem setRing_herax (n : Nat) (x : Ring) (s : State) : (setRing n x s).herax = s.herax := rfl
@[simp] theorem setRing_cipher (n : Nat) (x : Ring) (s : State) : (setRing n x s).cipher = s.cipher := rfl
@[simp] theorem setRing_power (n : Nat) (x : Ring) (s : State) : (setRing n x s).power = s.power := rfl
@[simp] theorem setRing_sleep (n : Nat) (x : Ring) (s : State) : (setRing n x s).sleep = s.sleep := rfl
@[simp] theorem setRing_links (n : Nat) (x : Ring) (s : State) : (setRing n x s).links = s.links := rfl
@[simp] theorem setRing_pair (n : Nat) (x : Ring) (s : State) : (setRing n x s).pair = s.pair := rfl
@[simp] theorem setRing_safety (n : Nat) (x : Ring) (s : State) : (setRing n x s).safety = s.safety := rfl
@[simp] theorem setRing_lpddrUp (n : Nat) (x : Ring) (s : State) : (setRing n x s).lpddrUp = s.lpddrUp := rfl
@[simp] theorem setRing_pending (n : Nat) (x : Ring) (s : State) : (setRing n x s).pending = s.pending := rfl

@[simp] theorem setCad_clk (n : Nat) (x : CadFlow) (s : State) : (setCad n x s).clk = s.clk := rfl
@[simp] theorem setCad_it (n : Nat) (x : CadFlow) (s : State) : (setCad n x s).it = s.it := rfl
@[simp] theorem setCad_rateAdj (n : Nat) (x : CadFlow) (s : State) : (setCad n x s).rateAdj = s.rateAdj := rfl
@[simp] theorem setCad_free (n : Nat) (x : CadFlow) (s : State) : (setCad n x s).free = s.free := rfl
@[simp] theorem setCad_mode (n : Nat) (x : CadFlow) (s : State) : (setCad n x s).mode = s.mode := rfl
@[simp] theorem setCad_mainUp (n : Nat) (x : CadFlow) (s : State) : (setCad n x s).mainUp = s.mainUp := rfl
@[simp] theorem setCad_kernel (n : Nat) (x : CadFlow) (s : State) : (setCad n x s).kernel = s.kernel := rfl
@[simp] theorem setCad_tables (n : Nat) (x : CadFlow) (s : State) : (setCad n x s).tables = s.tables := rfl
@[simp] theorem setCad_ports (n : Nat) (x : CadFlow) (s : State) : (setCad n x s).ports = s.ports := rfl
@[simp] theorem setCad_switch (n : Nat) (x : CadFlow) (s : State) : (setCad n x s).switch = s.switch := rfl
@[simp] theorem setCad_gw (n : Nat) (x : CadFlow) (s : State) : (setCad n x s).gw = s.gw := rfl
@[simp] theorem setCad_host (n : Nat) (x : CadFlow) (s : State) : (setCad n x s).host = s.host := rfl
@[simp] theorem setCad_time (n : Nat) (x : CadFlow) (s : State) : (setCad n x s).time = s.time := rfl
@[simp] theorem setCad_herax (n : Nat) (x : CadFlow) (s : State) : (setCad n x s).herax = s.herax := rfl
@[simp] theorem setCad_cipher (n : Nat) (x : CadFlow) (s : State) : (setCad n x s).cipher = s.cipher := rfl
@[simp] theorem setCad_power (n : Nat) (x : CadFlow) (s : State) : (setCad n x s).power = s.power := rfl
@[simp] theorem setCad_sleep (n : Nat) (x : CadFlow) (s : State) : (setCad n x s).sleep = s.sleep := rfl
@[simp] theorem setCad_links (n : Nat) (x : CadFlow) (s : State) : (setCad n x s).links = s.links := rfl
@[simp] theorem setCad_pair (n : Nat) (x : CadFlow) (s : State) : (setCad n x s).pair = s.pair := rfl
@[simp] theorem setCad_safety (n : Nat) (x : CadFlow) (s : State) : (setCad n x s).safety = s.safety := rfl
@[simp] theorem setCad_lpddrUp (n : Nat) (x : CadFlow) (s : State) : (setCad n x s).lpddrUp = s.lpddrUp := rfl
@[simp] theorem setCad_pending (n : Nat) (x : CadFlow) (s : State) : (setCad n x s).pending = s.pending := rfl

@[simp] theorem setQueue_clk (g c : Nat) (q : List Replica) (s : State) : (setQueue g c q s).clk = s.clk := rfl
@[simp] theorem setQueue_it (g c : Nat) (q : List Replica) (s : State) : (setQueue g c q s).it = s.it := rfl
@[simp] theorem setQueue_rateAdj (g c : Nat) (q : List Replica) (s : State) : (setQueue g c q s).rateAdj = s.rateAdj := rfl
@[simp] theorem setQueue_free (g c : Nat) (q : List Replica) (s : State) : (setQueue g c q s).free = s.free := rfl
@[simp] theorem setQueue_mode (g c : Nat) (q : List Replica) (s : State) : (setQueue g c q s).mode = s.mode := rfl
@[simp] theorem setQueue_mainUp (g c : Nat) (q : List Replica) (s : State) : (setQueue g c q s).mainUp = s.mainUp := rfl
@[simp] theorem setQueue_kernel (g c : Nat) (q : List Replica) (s : State) : (setQueue g c q s).kernel = s.kernel := rfl
@[simp] theorem setQueue_tables (g c : Nat) (q : List Replica) (s : State) : (setQueue g c q s).tables = s.tables := rfl
@[simp] theorem setQueue_policing (g c : Nat) (q : List Replica) (s : State) : (setQueue g c q s).policing = s.policing := rfl
@[simp] theorem setQueue_ports (g c : Nat) (q : List Replica) (s : State) : (setQueue g c q s).ports = s.ports := rfl
@[simp] theorem setQueue_gw (g c : Nat) (q : List Replica) (s : State) : (setQueue g c q s).gw = s.gw := rfl
@[simp] theorem setQueue_host (g c : Nat) (q : List Replica) (s : State) : (setQueue g c q s).host = s.host := rfl
@[simp] theorem setQueue_time (g c : Nat) (q : List Replica) (s : State) : (setQueue g c q s).time = s.time := rfl
@[simp] theorem setQueue_herax (g c : Nat) (q : List Replica) (s : State) : (setQueue g c q s).herax = s.herax := rfl
@[simp] theorem setQueue_cipher (g c : Nat) (q : List Replica) (s : State) : (setQueue g c q s).cipher = s.cipher := rfl
@[simp] theorem setQueue_power (g c : Nat) (q : List Replica) (s : State) : (setQueue g c q s).power = s.power := rfl
@[simp] theorem setQueue_sleep (g c : Nat) (q : List Replica) (s : State) : (setQueue g c q s).sleep = s.sleep := rfl
@[simp] theorem setQueue_links (g c : Nat) (q : List Replica) (s : State) : (setQueue g c q s).links = s.links := rfl
@[simp] theorem setQueue_pair (g c : Nat) (q : List Replica) (s : State) : (setQueue g c q s).pair = s.pair := rfl
@[simp] theorem setQueue_safety (g c : Nat) (q : List Replica) (s : State) : (setQueue g c q s).safety = s.safety := rfl
@[simp] theorem setQueue_lpddrUp (g c : Nat) (q : List Replica) (s : State) : (setQueue g c q s).lpddrUp = s.lpddrUp := rfl
@[simp] theorem setQueue_pending (g c : Nat) (q : List Replica) (s : State) : (setQueue g c q s).pending = s.pending := rfl

@[simp] theorem setAccount_clk (g c : Nat) (a : Account) (s : State) : (setAccount g c a s).clk = s.clk := rfl
@[simp] theorem setAccount_it (g c : Nat) (a : Account) (s : State) : (setAccount g c a s).it = s.it := rfl
@[simp] theorem setAccount_rateAdj (g c : Nat) (a : Account) (s : State) : (setAccount g c a s).rateAdj = s.rateAdj := rfl
@[simp] theorem setAccount_free (g c : Nat) (a : Account) (s : State) : (setAccount g c a s).free = s.free := rfl
@[simp] theorem setAccount_mode (g c : Nat) (a : Account) (s : State) : (setAccount g c a s).mode = s.mode := rfl
@[simp] theorem setAccount_mainUp (g c : Nat) (a : Account) (s : State) : (setAccount g c a s).mainUp = s.mainUp := rfl
@[simp] theorem setAccount_kernel (g c : Nat) (a : Account) (s : State) : (setAccount g c a s).kernel = s.kernel := rfl
@[simp] theorem setAccount_tables (g c : Nat) (a : Account) (s : State) : (setAccount g c a s).tables = s.tables := rfl
@[simp] theorem setAccount_policing (g c : Nat) (a : Account) (s : State) : (setAccount g c a s).policing = s.policing := rfl
@[simp] theorem setAccount_ports (g c : Nat) (a : Account) (s : State) : (setAccount g c a s).ports = s.ports := rfl
@[simp] theorem setAccount_gw (g c : Nat) (a : Account) (s : State) : (setAccount g c a s).gw = s.gw := rfl
@[simp] theorem setAccount_host (g c : Nat) (a : Account) (s : State) : (setAccount g c a s).host = s.host := rfl
@[simp] theorem setAccount_time (g c : Nat) (a : Account) (s : State) : (setAccount g c a s).time = s.time := rfl
@[simp] theorem setAccount_herax (g c : Nat) (a : Account) (s : State) : (setAccount g c a s).herax = s.herax := rfl
@[simp] theorem setAccount_cipher (g c : Nat) (a : Account) (s : State) : (setAccount g c a s).cipher = s.cipher := rfl
@[simp] theorem setAccount_power (g c : Nat) (a : Account) (s : State) : (setAccount g c a s).power = s.power := rfl
@[simp] theorem setAccount_sleep (g c : Nat) (a : Account) (s : State) : (setAccount g c a s).sleep = s.sleep := rfl
@[simp] theorem setAccount_links (g c : Nat) (a : Account) (s : State) : (setAccount g c a s).links = s.links := rfl
@[simp] theorem setAccount_pair (g c : Nat) (a : Account) (s : State) : (setAccount g c a s).pair = s.pair := rfl
@[simp] theorem setAccount_safety (g c : Nat) (a : Account) (s : State) : (setAccount g c a s).safety = s.safety := rfl
@[simp] theorem setAccount_lpddrUp (g c : Nat) (a : Account) (s : State) : (setAccount g c a s).lpddrUp = s.lpddrUp := rfl
@[simp] theorem setAccount_pending (g c : Nat) (a : Account) (s : State) : (setAccount g c a s).pending = s.pending := rfl

@[simp] theorem setBuilt_clk (i : Nat) (x : BuiltPdu) (s : State) : (setBuilt i x s).clk = s.clk := rfl
@[simp] theorem setBuilt_it (i : Nat) (x : BuiltPdu) (s : State) : (setBuilt i x s).it = s.it := rfl
@[simp] theorem setBuilt_rateAdj (i : Nat) (x : BuiltPdu) (s : State) : (setBuilt i x s).rateAdj = s.rateAdj := rfl
@[simp] theorem setBuilt_free (i : Nat) (x : BuiltPdu) (s : State) : (setBuilt i x s).free = s.free := rfl
@[simp] theorem setBuilt_mode (i : Nat) (x : BuiltPdu) (s : State) : (setBuilt i x s).mode = s.mode := rfl
@[simp] theorem setBuilt_mainUp (i : Nat) (x : BuiltPdu) (s : State) : (setBuilt i x s).mainUp = s.mainUp := rfl
@[simp] theorem setBuilt_kernel (i : Nat) (x : BuiltPdu) (s : State) : (setBuilt i x s).kernel = s.kernel := rfl
@[simp] theorem setBuilt_tables (i : Nat) (x : BuiltPdu) (s : State) : (setBuilt i x s).tables = s.tables := rfl
@[simp] theorem setBuilt_policing (i : Nat) (x : BuiltPdu) (s : State) : (setBuilt i x s).policing = s.policing := rfl
@[simp] theorem setBuilt_ports (i : Nat) (x : BuiltPdu) (s : State) : (setBuilt i x s).ports = s.ports := rfl
@[simp] theorem setBuilt_switch (i : Nat) (x : BuiltPdu) (s : State) : (setBuilt i x s).switch = s.switch := rfl
@[simp] theorem setBuilt_host (i : Nat) (x : BuiltPdu) (s : State) : (setBuilt i x s).host = s.host := rfl
@[simp] theorem setBuilt_time (i : Nat) (x : BuiltPdu) (s : State) : (setBuilt i x s).time = s.time := rfl
@[simp] theorem setBuilt_herax (i : Nat) (x : BuiltPdu) (s : State) : (setBuilt i x s).herax = s.herax := rfl
@[simp] theorem setBuilt_cipher (i : Nat) (x : BuiltPdu) (s : State) : (setBuilt i x s).cipher = s.cipher := rfl
@[simp] theorem setBuilt_power (i : Nat) (x : BuiltPdu) (s : State) : (setBuilt i x s).power = s.power := rfl
@[simp] theorem setBuilt_sleep (i : Nat) (x : BuiltPdu) (s : State) : (setBuilt i x s).sleep = s.sleep := rfl
@[simp] theorem setBuilt_links (i : Nat) (x : BuiltPdu) (s : State) : (setBuilt i x s).links = s.links := rfl
@[simp] theorem setBuilt_pair (i : Nat) (x : BuiltPdu) (s : State) : (setBuilt i x s).pair = s.pair := rfl
@[simp] theorem setBuilt_safety (i : Nat) (x : BuiltPdu) (s : State) : (setBuilt i x s).safety = s.safety := rfl
@[simp] theorem setBuilt_lpddrUp (i : Nat) (x : BuiltPdu) (s : State) : (setBuilt i x s).lpddrUp = s.lpddrUp := rfl
@[simp] theorem setBuilt_pending (i : Nat) (x : BuiltPdu) (s : State) : (setBuilt i x s).pending = s.pending := rfl

@[simp] theorem setSource_clk (i : Nat) (x : SourcePdu) (s : State) : (setSource i x s).clk = s.clk := rfl
@[simp] theorem setSource_it (i : Nat) (x : SourcePdu) (s : State) : (setSource i x s).it = s.it := rfl
@[simp] theorem setSource_rateAdj (i : Nat) (x : SourcePdu) (s : State) : (setSource i x s).rateAdj = s.rateAdj := rfl
@[simp] theorem setSource_free (i : Nat) (x : SourcePdu) (s : State) : (setSource i x s).free = s.free := rfl
@[simp] theorem setSource_mode (i : Nat) (x : SourcePdu) (s : State) : (setSource i x s).mode = s.mode := rfl
@[simp] theorem setSource_mainUp (i : Nat) (x : SourcePdu) (s : State) : (setSource i x s).mainUp = s.mainUp := rfl
@[simp] theorem setSource_kernel (i : Nat) (x : SourcePdu) (s : State) : (setSource i x s).kernel = s.kernel := rfl
@[simp] theorem setSource_tables (i : Nat) (x : SourcePdu) (s : State) : (setSource i x s).tables = s.tables := rfl
@[simp] theorem setSource_policing (i : Nat) (x : SourcePdu) (s : State) : (setSource i x s).policing = s.policing := rfl
@[simp] theorem setSource_ports (i : Nat) (x : SourcePdu) (s : State) : (setSource i x s).ports = s.ports := rfl
@[simp] theorem setSource_switch (i : Nat) (x : SourcePdu) (s : State) : (setSource i x s).switch = s.switch := rfl
@[simp] theorem setSource_host (i : Nat) (x : SourcePdu) (s : State) : (setSource i x s).host = s.host := rfl
@[simp] theorem setSource_time (i : Nat) (x : SourcePdu) (s : State) : (setSource i x s).time = s.time := rfl
@[simp] theorem setSource_herax (i : Nat) (x : SourcePdu) (s : State) : (setSource i x s).herax = s.herax := rfl
@[simp] theorem setSource_cipher (i : Nat) (x : SourcePdu) (s : State) : (setSource i x s).cipher = s.cipher := rfl
@[simp] theorem setSource_power (i : Nat) (x : SourcePdu) (s : State) : (setSource i x s).power = s.power := rfl
@[simp] theorem setSource_sleep (i : Nat) (x : SourcePdu) (s : State) : (setSource i x s).sleep = s.sleep := rfl
@[simp] theorem setSource_links (i : Nat) (x : SourcePdu) (s : State) : (setSource i x s).links = s.links := rfl
@[simp] theorem setSource_pair (i : Nat) (x : SourcePdu) (s : State) : (setSource i x s).pair = s.pair := rfl
@[simp] theorem setSource_safety (i : Nat) (x : SourcePdu) (s : State) : (setSource i x s).safety = s.safety := rfl
@[simp] theorem setSource_lpddrUp (i : Nat) (x : SourcePdu) (s : State) : (setSource i x s).lpddrUp = s.lpddrUp := rfl
@[simp] theorem setSource_pending (i : Nat) (x : SourcePdu) (s : State) : (setSource i x s).pending = s.pending := rfl

@[simp] theorem setCont_clk (i : Nat) (x : Cont) (s : State) : (setCont i x s).clk = s.clk := rfl
@[simp] theorem setCont_it (i : Nat) (x : Cont) (s : State) : (setCont i x s).it = s.it := rfl
@[simp] theorem setCont_rateAdj (i : Nat) (x : Cont) (s : State) : (setCont i x s).rateAdj = s.rateAdj := rfl
@[simp] theorem setCont_free (i : Nat) (x : Cont) (s : State) : (setCont i x s).free = s.free := rfl
@[simp] theorem setCont_mode (i : Nat) (x : Cont) (s : State) : (setCont i x s).mode = s.mode := rfl
@[simp] theorem setCont_mainUp (i : Nat) (x : Cont) (s : State) : (setCont i x s).mainUp = s.mainUp := rfl
@[simp] theorem setCont_kernel (i : Nat) (x : Cont) (s : State) : (setCont i x s).kernel = s.kernel := rfl
@[simp] theorem setCont_tables (i : Nat) (x : Cont) (s : State) : (setCont i x s).tables = s.tables := rfl
@[simp] theorem setCont_policing (i : Nat) (x : Cont) (s : State) : (setCont i x s).policing = s.policing := rfl
@[simp] theorem setCont_ports (i : Nat) (x : Cont) (s : State) : (setCont i x s).ports = s.ports := rfl
@[simp] theorem setCont_switch (i : Nat) (x : Cont) (s : State) : (setCont i x s).switch = s.switch := rfl
@[simp] theorem setCont_host (i : Nat) (x : Cont) (s : State) : (setCont i x s).host = s.host := rfl
@[simp] theorem setCont_time (i : Nat) (x : Cont) (s : State) : (setCont i x s).time = s.time := rfl
@[simp] theorem setCont_herax (i : Nat) (x : Cont) (s : State) : (setCont i x s).herax = s.herax := rfl
@[simp] theorem setCont_cipher (i : Nat) (x : Cont) (s : State) : (setCont i x s).cipher = s.cipher := rfl
@[simp] theorem setCont_power (i : Nat) (x : Cont) (s : State) : (setCont i x s).power = s.power := rfl
@[simp] theorem setCont_sleep (i : Nat) (x : Cont) (s : State) : (setCont i x s).sleep = s.sleep := rfl
@[simp] theorem setCont_links (i : Nat) (x : Cont) (s : State) : (setCont i x s).links = s.links := rfl
@[simp] theorem setCont_pair (i : Nat) (x : Cont) (s : State) : (setCont i x s).pair = s.pair := rfl
@[simp] theorem setCont_safety (i : Nat) (x : Cont) (s : State) : (setCont i x s).safety = s.safety := rfl
@[simp] theorem setCont_lpddrUp (i : Nat) (x : Cont) (s : State) : (setCont i x s).lpddrUp = s.lpddrUp := rfl
@[simp] theorem setCont_pending (i : Nat) (x : Cont) (s : State) : (setCont i x s).pending = s.pending := rfl

@[simp] theorem setLane_clk (n : Nat) (x : Lane) (s : State) : (setLane n x s).clk = s.clk := rfl
@[simp] theorem setLane_it (n : Nat) (x : Lane) (s : State) : (setLane n x s).it = s.it := rfl
@[simp] theorem setLane_rateAdj (n : Nat) (x : Lane) (s : State) : (setLane n x s).rateAdj = s.rateAdj := rfl
@[simp] theorem setLane_free (n : Nat) (x : Lane) (s : State) : (setLane n x s).free = s.free := rfl
@[simp] theorem setLane_mode (n : Nat) (x : Lane) (s : State) : (setLane n x s).mode = s.mode := rfl
@[simp] theorem setLane_mainUp (n : Nat) (x : Lane) (s : State) : (setLane n x s).mainUp = s.mainUp := rfl
@[simp] theorem setLane_kernel (n : Nat) (x : Lane) (s : State) : (setLane n x s).kernel = s.kernel := rfl
@[simp] theorem setLane_tables (n : Nat) (x : Lane) (s : State) : (setLane n x s).tables = s.tables := rfl
@[simp] theorem setLane_policing (n : Nat) (x : Lane) (s : State) : (setLane n x s).policing = s.policing := rfl
@[simp] theorem setLane_ports (n : Nat) (x : Lane) (s : State) : (setLane n x s).ports = s.ports := rfl
@[simp] theorem setLane_switch (n : Nat) (x : Lane) (s : State) : (setLane n x s).switch = s.switch := rfl
@[simp] theorem setLane_gw (n : Nat) (x : Lane) (s : State) : (setLane n x s).gw = s.gw := rfl
@[simp] theorem setLane_host (n : Nat) (x : Lane) (s : State) : (setLane n x s).host = s.host := rfl
@[simp] theorem setLane_time (n : Nat) (x : Lane) (s : State) : (setLane n x s).time = s.time := rfl
@[simp] theorem setLane_herax (n : Nat) (x : Lane) (s : State) : (setLane n x s).herax = s.herax := rfl
@[simp] theorem setLane_power (n : Nat) (x : Lane) (s : State) : (setLane n x s).power = s.power := rfl
@[simp] theorem setLane_sleep (n : Nat) (x : Lane) (s : State) : (setLane n x s).sleep = s.sleep := rfl
@[simp] theorem setLane_links (n : Nat) (x : Lane) (s : State) : (setLane n x s).links = s.links := rfl
@[simp] theorem setLane_pair (n : Nat) (x : Lane) (s : State) : (setLane n x s).pair = s.pair := rfl
@[simp] theorem setLane_safety (n : Nat) (x : Lane) (s : State) : (setLane n x s).safety = s.safety := rfl
@[simp] theorem setLane_lpddrUp (n : Nat) (x : Lane) (s : State) : (setLane n x s).lpddrUp = s.lpddrUp := rfl
@[simp] theorem setLane_pending (n : Nat) (x : Lane) (s : State) : (setLane n x s).pending = s.pending := rfl

@[simp] theorem setSecY_clk (g : Nat) (x : SecY) (s : State) : (setSecY g x s).clk = s.clk := rfl
@[simp] theorem setSecY_it (g : Nat) (x : SecY) (s : State) : (setSecY g x s).it = s.it := rfl
@[simp] theorem setSecY_rateAdj (g : Nat) (x : SecY) (s : State) : (setSecY g x s).rateAdj = s.rateAdj := rfl
@[simp] theorem setSecY_free (g : Nat) (x : SecY) (s : State) : (setSecY g x s).free = s.free := rfl
@[simp] theorem setSecY_mode (g : Nat) (x : SecY) (s : State) : (setSecY g x s).mode = s.mode := rfl
@[simp] theorem setSecY_mainUp (g : Nat) (x : SecY) (s : State) : (setSecY g x s).mainUp = s.mainUp := rfl
@[simp] theorem setSecY_kernel (g : Nat) (x : SecY) (s : State) : (setSecY g x s).kernel = s.kernel := rfl
@[simp] theorem setSecY_tables (g : Nat) (x : SecY) (s : State) : (setSecY g x s).tables = s.tables := rfl
@[simp] theorem setSecY_policing (g : Nat) (x : SecY) (s : State) : (setSecY g x s).policing = s.policing := rfl
@[simp] theorem setSecY_ports (g : Nat) (x : SecY) (s : State) : (setSecY g x s).ports = s.ports := rfl
@[simp] theorem setSecY_switch (g : Nat) (x : SecY) (s : State) : (setSecY g x s).switch = s.switch := rfl
@[simp] theorem setSecY_gw (g : Nat) (x : SecY) (s : State) : (setSecY g x s).gw = s.gw := rfl
@[simp] theorem setSecY_host (g : Nat) (x : SecY) (s : State) : (setSecY g x s).host = s.host := rfl
@[simp] theorem setSecY_time (g : Nat) (x : SecY) (s : State) : (setSecY g x s).time = s.time := rfl
@[simp] theorem setSecY_herax (g : Nat) (x : SecY) (s : State) : (setSecY g x s).herax = s.herax := rfl
@[simp] theorem setSecY_power (g : Nat) (x : SecY) (s : State) : (setSecY g x s).power = s.power := rfl
@[simp] theorem setSecY_sleep (g : Nat) (x : SecY) (s : State) : (setSecY g x s).sleep = s.sleep := rfl
@[simp] theorem setSecY_links (g : Nat) (x : SecY) (s : State) : (setSecY g x s).links = s.links := rfl
@[simp] theorem setSecY_pair (g : Nat) (x : SecY) (s : State) : (setSecY g x s).pair = s.pair := rfl
@[simp] theorem setSecY_safety (g : Nat) (x : SecY) (s : State) : (setSecY g x s).safety = s.safety := rfl
@[simp] theorem setSecY_lpddrUp (g : Nat) (x : SecY) (s : State) : (setSecY g x s).lpddrUp = s.lpddrUp := rfl
@[simp] theorem setSecY_pending (g : Nat) (x : SecY) (s : State) : (setSecY g x s).pending = s.pending := rfl

@[simp] theorem setPartner_clk (p : Nat) (x : Partner) (s : State) : (setPartner p x s).clk = s.clk := rfl
@[simp] theorem setPartner_it (p : Nat) (x : Partner) (s : State) : (setPartner p x s).it = s.it := rfl
@[simp] theorem setPartner_rateAdj (p : Nat) (x : Partner) (s : State) : (setPartner p x s).rateAdj = s.rateAdj := rfl
@[simp] theorem setPartner_free (p : Nat) (x : Partner) (s : State) : (setPartner p x s).free = s.free := rfl
@[simp] theorem setPartner_mode (p : Nat) (x : Partner) (s : State) : (setPartner p x s).mode = s.mode := rfl
@[simp] theorem setPartner_mainUp (p : Nat) (x : Partner) (s : State) : (setPartner p x s).mainUp = s.mainUp := rfl
@[simp] theorem setPartner_tables (p : Nat) (x : Partner) (s : State) : (setPartner p x s).tables = s.tables := rfl
@[simp] theorem setPartner_policing (p : Nat) (x : Partner) (s : State) : (setPartner p x s).policing = s.policing := rfl
@[simp] theorem setPartner_ports (p : Nat) (x : Partner) (s : State) : (setPartner p x s).ports = s.ports := rfl
@[simp] theorem setPartner_switch (p : Nat) (x : Partner) (s : State) : (setPartner p x s).switch = s.switch := rfl
@[simp] theorem setPartner_gw (p : Nat) (x : Partner) (s : State) : (setPartner p x s).gw = s.gw := rfl
@[simp] theorem setPartner_host (p : Nat) (x : Partner) (s : State) : (setPartner p x s).host = s.host := rfl
@[simp] theorem setPartner_time (p : Nat) (x : Partner) (s : State) : (setPartner p x s).time = s.time := rfl
@[simp] theorem setPartner_herax (p : Nat) (x : Partner) (s : State) : (setPartner p x s).herax = s.herax := rfl
@[simp] theorem setPartner_cipher (p : Nat) (x : Partner) (s : State) : (setPartner p x s).cipher = s.cipher := rfl
@[simp] theorem setPartner_power (p : Nat) (x : Partner) (s : State) : (setPartner p x s).power = s.power := rfl
@[simp] theorem setPartner_sleep (p : Nat) (x : Partner) (s : State) : (setPartner p x s).sleep = s.sleep := rfl
@[simp] theorem setPartner_links (p : Nat) (x : Partner) (s : State) : (setPartner p x s).links = s.links := rfl
@[simp] theorem setPartner_pair (p : Nat) (x : Partner) (s : State) : (setPartner p x s).pair = s.pair := rfl
@[simp] theorem setPartner_safety (p : Nat) (x : Partner) (s : State) : (setPartner p x s).safety = s.safety := rfl
@[simp] theorem setPartner_lpddrUp (p : Nat) (x : Partner) (s : State) : (setPartner p x s).lpddrUp = s.lpddrUp := rfl
@[simp] theorem setPartner_pending (p : Nat) (x : Partner) (s : State) : (setPartner p x s).pending = s.pending := rfl

@[simp] theorem updPartner_clk (p : Nat) (f : Partner → Partner) (s : State) : (updPartner p f s).clk = s.clk := rfl
@[simp] theorem updPartner_it (p : Nat) (f : Partner → Partner) (s : State) : (updPartner p f s).it = s.it := rfl
@[simp] theorem updPartner_rateAdj (p : Nat) (f : Partner → Partner) (s : State) : (updPartner p f s).rateAdj = s.rateAdj := rfl
@[simp] theorem updPartner_free (p : Nat) (f : Partner → Partner) (s : State) : (updPartner p f s).free = s.free := rfl
@[simp] theorem updPartner_mode (p : Nat) (f : Partner → Partner) (s : State) : (updPartner p f s).mode = s.mode := rfl
@[simp] theorem updPartner_mainUp (p : Nat) (f : Partner → Partner) (s : State) : (updPartner p f s).mainUp = s.mainUp := rfl
@[simp] theorem updPartner_tables (p : Nat) (f : Partner → Partner) (s : State) : (updPartner p f s).tables = s.tables := rfl
@[simp] theorem updPartner_policing (p : Nat) (f : Partner → Partner) (s : State) : (updPartner p f s).policing = s.policing := rfl
@[simp] theorem updPartner_ports (p : Nat) (f : Partner → Partner) (s : State) : (updPartner p f s).ports = s.ports := rfl
@[simp] theorem updPartner_switch (p : Nat) (f : Partner → Partner) (s : State) : (updPartner p f s).switch = s.switch := rfl
@[simp] theorem updPartner_gw (p : Nat) (f : Partner → Partner) (s : State) : (updPartner p f s).gw = s.gw := rfl
@[simp] theorem updPartner_host (p : Nat) (f : Partner → Partner) (s : State) : (updPartner p f s).host = s.host := rfl
@[simp] theorem updPartner_time (p : Nat) (f : Partner → Partner) (s : State) : (updPartner p f s).time = s.time := rfl
@[simp] theorem updPartner_herax (p : Nat) (f : Partner → Partner) (s : State) : (updPartner p f s).herax = s.herax := rfl
@[simp] theorem updPartner_cipher (p : Nat) (f : Partner → Partner) (s : State) : (updPartner p f s).cipher = s.cipher := rfl
@[simp] theorem updPartner_power (p : Nat) (f : Partner → Partner) (s : State) : (updPartner p f s).power = s.power := rfl
@[simp] theorem updPartner_sleep (p : Nat) (f : Partner → Partner) (s : State) : (updPartner p f s).sleep = s.sleep := rfl
@[simp] theorem updPartner_links (p : Nat) (f : Partner → Partner) (s : State) : (updPartner p f s).links = s.links := rfl
@[simp] theorem updPartner_pair (p : Nat) (f : Partner → Partner) (s : State) : (updPartner p f s).pair = s.pair := rfl
@[simp] theorem updPartner_safety (p : Nat) (f : Partner → Partner) (s : State) : (updPartner p f s).safety = s.safety := rfl
@[simp] theorem updPartner_lpddrUp (p : Nat) (f : Partner → Partner) (s : State) : (updPartner p f s).lpddrUp = s.lpddrUp := rfl
@[simp] theorem updPartner_pending (p : Nat) (f : Partner → Partner) (s : State) : (updPartner p f s).pending = s.pending := rfl

@[simp] theorem setTxn_clk (p : Nat) (x : Option Txn) (s : State) : (setTxn p x s).clk = s.clk := rfl
@[simp] theorem setTxn_it (p : Nat) (x : Option Txn) (s : State) : (setTxn p x s).it = s.it := rfl
@[simp] theorem setTxn_rateAdj (p : Nat) (x : Option Txn) (s : State) : (setTxn p x s).rateAdj = s.rateAdj := rfl
@[simp] theorem setTxn_free (p : Nat) (x : Option Txn) (s : State) : (setTxn p x s).free = s.free := rfl
@[simp] theorem setTxn_mode (p : Nat) (x : Option Txn) (s : State) : (setTxn p x s).mode = s.mode := rfl
@[simp] theorem setTxn_mainUp (p : Nat) (x : Option Txn) (s : State) : (setTxn p x s).mainUp = s.mainUp := rfl
@[simp] theorem setTxn_tables (p : Nat) (x : Option Txn) (s : State) : (setTxn p x s).tables = s.tables := rfl
@[simp] theorem setTxn_policing (p : Nat) (x : Option Txn) (s : State) : (setTxn p x s).policing = s.policing := rfl
@[simp] theorem setTxn_ports (p : Nat) (x : Option Txn) (s : State) : (setTxn p x s).ports = s.ports := rfl
@[simp] theorem setTxn_switch (p : Nat) (x : Option Txn) (s : State) : (setTxn p x s).switch = s.switch := rfl
@[simp] theorem setTxn_gw (p : Nat) (x : Option Txn) (s : State) : (setTxn p x s).gw = s.gw := rfl
@[simp] theorem setTxn_host (p : Nat) (x : Option Txn) (s : State) : (setTxn p x s).host = s.host := rfl
@[simp] theorem setTxn_time (p : Nat) (x : Option Txn) (s : State) : (setTxn p x s).time = s.time := rfl
@[simp] theorem setTxn_herax (p : Nat) (x : Option Txn) (s : State) : (setTxn p x s).herax = s.herax := rfl
@[simp] theorem setTxn_cipher (p : Nat) (x : Option Txn) (s : State) : (setTxn p x s).cipher = s.cipher := rfl
@[simp] theorem setTxn_power (p : Nat) (x : Option Txn) (s : State) : (setTxn p x s).power = s.power := rfl
@[simp] theorem setTxn_sleep (p : Nat) (x : Option Txn) (s : State) : (setTxn p x s).sleep = s.sleep := rfl
@[simp] theorem setTxn_links (p : Nat) (x : Option Txn) (s : State) : (setTxn p x s).links = s.links := rfl
@[simp] theorem setTxn_pair (p : Nat) (x : Option Txn) (s : State) : (setTxn p x s).pair = s.pair := rfl
@[simp] theorem setTxn_safety (p : Nat) (x : Option Txn) (s : State) : (setTxn p x s).safety = s.safety := rfl
@[simp] theorem setTxn_lpddrUp (p : Nat) (x : Option Txn) (s : State) : (setTxn p x s).lpddrUp = s.lpddrUp := rfl
@[simp] theorem setTxn_pending (p : Nat) (x : Option Txn) (s : State) : (setTxn p x s).pending = s.pending := rfl

@[simp] theorem bumpBy_clk (a n : Nat) (s : State) : (bumpBy a n s).clk = s.clk := rfl
@[simp] theorem bumpBy_it (a n : Nat) (s : State) : (bumpBy a n s).it = s.it := rfl
@[simp] theorem bumpBy_rateAdj (a n : Nat) (s : State) : (bumpBy a n s).rateAdj = s.rateAdj := rfl
@[simp] theorem bumpBy_free (a n : Nat) (s : State) : (bumpBy a n s).free = s.free := rfl
@[simp] theorem bumpBy_mode (a n : Nat) (s : State) : (bumpBy a n s).mode = s.mode := rfl
@[simp] theorem bumpBy_mainUp (a n : Nat) (s : State) : (bumpBy a n s).mainUp = s.mainUp := rfl
@[simp] theorem bumpBy_tables (a n : Nat) (s : State) : (bumpBy a n s).tables = s.tables := rfl
@[simp] theorem bumpBy_policing (a n : Nat) (s : State) : (bumpBy a n s).policing = s.policing := rfl
@[simp] theorem bumpBy_ports (a n : Nat) (s : State) : (bumpBy a n s).ports = s.ports := rfl
@[simp] theorem bumpBy_switch (a n : Nat) (s : State) : (bumpBy a n s).switch = s.switch := rfl
@[simp] theorem bumpBy_gw (a n : Nat) (s : State) : (bumpBy a n s).gw = s.gw := rfl
@[simp] theorem bumpBy_host (a n : Nat) (s : State) : (bumpBy a n s).host = s.host := rfl
@[simp] theorem bumpBy_time (a n : Nat) (s : State) : (bumpBy a n s).time = s.time := rfl
@[simp] theorem bumpBy_herax (a n : Nat) (s : State) : (bumpBy a n s).herax = s.herax := rfl
@[simp] theorem bumpBy_cipher (a n : Nat) (s : State) : (bumpBy a n s).cipher = s.cipher := rfl
@[simp] theorem bumpBy_power (a n : Nat) (s : State) : (bumpBy a n s).power = s.power := rfl
@[simp] theorem bumpBy_sleep (a n : Nat) (s : State) : (bumpBy a n s).sleep = s.sleep := rfl
@[simp] theorem bumpBy_links (a n : Nat) (s : State) : (bumpBy a n s).links = s.links := rfl
@[simp] theorem bumpBy_pair (a n : Nat) (s : State) : (bumpBy a n s).pair = s.pair := rfl
@[simp] theorem bumpBy_safety (a n : Nat) (s : State) : (bumpBy a n s).safety = s.safety := rfl
@[simp] theorem bumpBy_lpddrUp (a n : Nat) (s : State) : (bumpBy a n s).lpddrUp = s.lpddrUp := rfl
@[simp] theorem bumpBy_pending (a n : Nat) (s : State) : (bumpBy a n s).pending = s.pending := rfl

@[simp] theorem bump_clk (a : Nat) (s : State) : (bump a s).clk = s.clk := rfl
@[simp] theorem bump_it (a : Nat) (s : State) : (bump a s).it = s.it := rfl
@[simp] theorem bump_rateAdj (a : Nat) (s : State) : (bump a s).rateAdj = s.rateAdj := rfl
@[simp] theorem bump_free (a : Nat) (s : State) : (bump a s).free = s.free := rfl
@[simp] theorem bump_mode (a : Nat) (s : State) : (bump a s).mode = s.mode := rfl
@[simp] theorem bump_mainUp (a : Nat) (s : State) : (bump a s).mainUp = s.mainUp := rfl
@[simp] theorem bump_tables (a : Nat) (s : State) : (bump a s).tables = s.tables := rfl
@[simp] theorem bump_policing (a : Nat) (s : State) : (bump a s).policing = s.policing := rfl
@[simp] theorem bump_ports (a : Nat) (s : State) : (bump a s).ports = s.ports := rfl
@[simp] theorem bump_switch (a : Nat) (s : State) : (bump a s).switch = s.switch := rfl
@[simp] theorem bump_gw (a : Nat) (s : State) : (bump a s).gw = s.gw := rfl
@[simp] theorem bump_host (a : Nat) (s : State) : (bump a s).host = s.host := rfl
@[simp] theorem bump_time (a : Nat) (s : State) : (bump a s).time = s.time := rfl
@[simp] theorem bump_herax (a : Nat) (s : State) : (bump a s).herax = s.herax := rfl
@[simp] theorem bump_cipher (a : Nat) (s : State) : (bump a s).cipher = s.cipher := rfl
@[simp] theorem bump_power (a : Nat) (s : State) : (bump a s).power = s.power := rfl
@[simp] theorem bump_sleep (a : Nat) (s : State) : (bump a s).sleep = s.sleep := rfl
@[simp] theorem bump_links (a : Nat) (s : State) : (bump a s).links = s.links := rfl
@[simp] theorem bump_pair (a : Nat) (s : State) : (bump a s).pair = s.pair := rfl
@[simp] theorem bump_safety (a : Nat) (s : State) : (bump a s).safety = s.safety := rfl
@[simp] theorem bump_lpddrUp (a : Nat) (s : State) : (bump a s).lpddrUp = s.lpddrUp := rfl
@[simp] theorem bump_pending (a : Nat) (s : State) : (bump a s).pending = s.pending := rfl

@[simp] theorem raiseVec_clk (v : Nat) (s : State) : (raiseVec v s).clk = s.clk := rfl
@[simp] theorem raiseVec_it (v : Nat) (s : State) : (raiseVec v s).it = s.it := rfl
@[simp] theorem raiseVec_rateAdj (v : Nat) (s : State) : (raiseVec v s).rateAdj = s.rateAdj := rfl
@[simp] theorem raiseVec_free (v : Nat) (s : State) : (raiseVec v s).free = s.free := rfl
@[simp] theorem raiseVec_mode (v : Nat) (s : State) : (raiseVec v s).mode = s.mode := rfl
@[simp] theorem raiseVec_mainUp (v : Nat) (s : State) : (raiseVec v s).mainUp = s.mainUp := rfl
@[simp] theorem raiseVec_tables (v : Nat) (s : State) : (raiseVec v s).tables = s.tables := rfl
@[simp] theorem raiseVec_policing (v : Nat) (s : State) : (raiseVec v s).policing = s.policing := rfl
@[simp] theorem raiseVec_ports (v : Nat) (s : State) : (raiseVec v s).ports = s.ports := rfl
@[simp] theorem raiseVec_switch (v : Nat) (s : State) : (raiseVec v s).switch = s.switch := rfl
@[simp] theorem raiseVec_gw (v : Nat) (s : State) : (raiseVec v s).gw = s.gw := rfl
@[simp] theorem raiseVec_host (v : Nat) (s : State) : (raiseVec v s).host = s.host := rfl
@[simp] theorem raiseVec_time (v : Nat) (s : State) : (raiseVec v s).time = s.time := rfl
@[simp] theorem raiseVec_herax (v : Nat) (s : State) : (raiseVec v s).herax = s.herax := rfl
@[simp] theorem raiseVec_cipher (v : Nat) (s : State) : (raiseVec v s).cipher = s.cipher := rfl
@[simp] theorem raiseVec_power (v : Nat) (s : State) : (raiseVec v s).power = s.power := rfl
@[simp] theorem raiseVec_sleep (v : Nat) (s : State) : (raiseVec v s).sleep = s.sleep := rfl
@[simp] theorem raiseVec_links (v : Nat) (s : State) : (raiseVec v s).links = s.links := rfl
@[simp] theorem raiseVec_pair (v : Nat) (s : State) : (raiseVec v s).pair = s.pair := rfl
@[simp] theorem raiseVec_safety (v : Nat) (s : State) : (raiseVec v s).safety = s.safety := rfl
@[simp] theorem raiseVec_lpddrUp (v : Nat) (s : State) : (raiseVec v s).lpddrUp = s.lpddrUp := rfl
@[simp] theorem raiseVec_pending (v : Nat) (s : State) : (raiseVec v s).pending = s.pending := rfl

@[simp] theorem clearW1c_clk (w : W1cBit) (s : State) : (clearW1c w s).clk = s.clk := rfl
@[simp] theorem clearW1c_it (w : W1cBit) (s : State) : (clearW1c w s).it = s.it := rfl
@[simp] theorem clearW1c_rateAdj (w : W1cBit) (s : State) : (clearW1c w s).rateAdj = s.rateAdj := rfl
@[simp] theorem clearW1c_free (w : W1cBit) (s : State) : (clearW1c w s).free = s.free := rfl
@[simp] theorem clearW1c_mode (w : W1cBit) (s : State) : (clearW1c w s).mode = s.mode := rfl
@[simp] theorem clearW1c_mainUp (w : W1cBit) (s : State) : (clearW1c w s).mainUp = s.mainUp := rfl
@[simp] theorem clearW1c_tables (w : W1cBit) (s : State) : (clearW1c w s).tables = s.tables := rfl
@[simp] theorem clearW1c_policing (w : W1cBit) (s : State) : (clearW1c w s).policing = s.policing := rfl
@[simp] theorem clearW1c_ports (w : W1cBit) (s : State) : (clearW1c w s).ports = s.ports := rfl
@[simp] theorem clearW1c_switch (w : W1cBit) (s : State) : (clearW1c w s).switch = s.switch := rfl
@[simp] theorem clearW1c_gw (w : W1cBit) (s : State) : (clearW1c w s).gw = s.gw := rfl
@[simp] theorem clearW1c_host (w : W1cBit) (s : State) : (clearW1c w s).host = s.host := rfl
@[simp] theorem clearW1c_time (w : W1cBit) (s : State) : (clearW1c w s).time = s.time := rfl
@[simp] theorem clearW1c_herax (w : W1cBit) (s : State) : (clearW1c w s).herax = s.herax := rfl
@[simp] theorem clearW1c_cipher (w : W1cBit) (s : State) : (clearW1c w s).cipher = s.cipher := rfl
@[simp] theorem clearW1c_power (w : W1cBit) (s : State) : (clearW1c w s).power = s.power := rfl
@[simp] theorem clearW1c_sleep (w : W1cBit) (s : State) : (clearW1c w s).sleep = s.sleep := rfl
@[simp] theorem clearW1c_links (w : W1cBit) (s : State) : (clearW1c w s).links = s.links := rfl
@[simp] theorem clearW1c_pair (w : W1cBit) (s : State) : (clearW1c w s).pair = s.pair := rfl
@[simp] theorem clearW1c_safety (w : W1cBit) (s : State) : (clearW1c w s).safety = s.safety := rfl
@[simp] theorem clearW1c_lpddrUp (w : W1cBit) (s : State) : (clearW1c w s).lpddrUp = s.lpddrUp := rfl
@[simp] theorem clearW1c_pending (w : W1cBit) (s : State) : (clearW1c w s).pending = s.pending := rfl

@[simp] theorem takeFree_mode (w : Nat) (s : State) : (takeFree w s).2.mode = s.mode := rfl
@[simp] theorem takeFree_free (w : Nat) (s : State) : (takeFree w s).2.free = s.free + 1 := rfl
@[simp] theorem takeFreeBytes_free (n : Nat) (s : State) : (takeFreeBytes n s).2.free = s.free + n := rfl

/-- The memories of the machine after reset have the canonical form. -/
theorem reset_memories_wf : State.reset.host.mem.wf = true ∧ State.reset.host.internal.wf = true ∧
    State.reset.host.msixTable.wf = true ∧ State.reset.power.images = [] := by decide

/-! ### Reading back what was written -/

@[simp] theorem holdBase_self (s : State) : holdBase s s = s := rfl

end Sys2Proof.Machine
end

