-- ==== Sys2Proof/Laws/Clock.lean ====
section
/-!
SUPPORT. What does not read a clock is the same at every instant.
-/
namespace Sys2Proof.Machine

@[simp] theorem gateOf_atTime (t0 : Tick) (s : State) (stream : Bool) (n : Nat) :
    gateOf (atTime t0 s) stream n = gateOf s stream n := rfl
@[simp] theorem applyDue_atTime (t0 : Tick) (s : State) (l : GateList) (t : Tick) :
    applyDue (atTime t0 s) l t = applyDue s l t := rfl
@[simp] theorem gateOpen_atTime (t0 : Tick) (s : State) (g : Nat) (tc : Nat) (t : Tick) :
    gateOpen (atTime t0 s) g tc t = gateOpen s g tc t := rfl
@[simp] theorem gateFits_atTime (t0 : Tick) (s : State) (g : Nat) (tc : Nat) (t : Tick) (dur : Tick) :
    gateFits (atTime t0 s) g tc t dur = gateFits s g tc t dur := rfl
@[simp] theorem comparatorOf_atTime (t0 : Tick) (s : State) (c : Nat) :
    comparatorOf (atTime t0 s) c = comparatorOf s c := rfl
@[simp] theorem domain_atTime (t0 : Tick) (s : State) (d : Nat) : domain (atTime t0 s) d = domain s d := rfl
@[simp] theorem ringPort_atTime (t0 : Tick) (s : State) (g : Nat) : ringPort (atTime t0 s) g = ringPort s g := rfl
@[simp] theorem ethRow_atTime (t0 : Tick) (s : State) (g : Nat) (d : Bytes) (shown : Nat) :
    ethRow (atTime t0 s) g d shown = ethRow s g d shown := rfl
@[simp] theorem receivingOf_atTime (t0 : Tick) (s : State) (g : Nat) :
    receivingOf (atTime t0 s) g = receivingOf s g := rfl
@[simp] theorem imageSlot_atTime (t0 : Tick) (s : State) (i : Nat) : imageSlot (atTime t0 s) i = imageSlot s i := rfl
@[simp] theorem imageCheck_atTime (t0 : Tick) (s : State) (i : Nat) (unreadable : Bool) :
    imageCheck (atTime t0 s) i unreadable = imageCheck s i unreadable := rfl
@[simp] theorem enteringSleep_atTime (t0 : Tick) (s : State) : enteringSleep (atTime t0 s) = enteringSleep s := rfl
@[simp] theorem pduOf_atTime (t0 : Tick) (s : State) (gen : Nat) (i : Nat) (role : Nat) :
    pduOf (atTime t0 s) gen i role = pduOf s gen i role := rfl
@[simp] theorem builtOf_atTime (t0 : Tick) (s : State) (i : Nat) (b : Bytes) :
    builtOf (atTime t0 s) i b = builtOf s i b := rfl
@[simp] theorem contOf_atTime (t0 : Tick) (s : State) (c : Nat) : contOf (atTime t0 s) c = contOf s c := rfl
@[simp] theorem sourceOf_atTime (t0 : Tick) (s : State) (i : Nat) : sourceOf (atTime t0 s) i = sourceOf s i := rfl
@[simp] theorem rxHead_atTime (t0 : Tick) (s : State) (n : Nat) : rxHead (atTime t0 s) n = rxHead s n := rfl
@[simp] theorem rxBytes_atTime (t0 : Tick) (s : State) (n : Nat) (h : HeldFrame) :
    rxBytes (atTime t0 s) n h = rxBytes s n h := rfl
@[simp] theorem rxPick_atTime (t0 : Tick) (s : State) : rxPick (atTime t0 s) = rxPick s := rfl
@[simp] theorem clockRuns_atTime (t0 : Tick) (s : State) (n : Nat) : clockRuns (atTime t0 s) n = clockRuns s n := rfl
@[simp] theorem lpmSearch_atTime (t0 : Tick) (s : State) (family : Nat) (mode : Nat) (addr : Nat) :
    lpmSearch (atTime t0 s) family mode addr = lpmSearch s family mode addr := rfl
@[simp] theorem ringNode_atTime (t0 : Tick) (s : State) : ringNode (atTime t0 s) = ringNode s := rfl
@[simp] theorem tokenTimeout_atTime (t0 : Tick) (s : State) : tokenTimeout (atTime t0 s) = tokenTimeout s := rfl
@[simp] theorem objectTicks_atTime (t0 : Tick) (s : State) : objectTicks (atTime t0 s) = objectTicks s := rfl
@[simp] theorem falseWakeMs_atTime (t0 : Tick) (s : State) : falseWakeMs (atTime t0 s) = falseWakeMs s := rfl
@[simp] theorem awakeMaxS_atTime (t0 : Tick) (s : State) : awakeMaxS (atTime t0 s) = awakeMaxS s := rfl
@[simp] theorem isMaster_atTime (t0 : Tick) (s : State) : isMaster (atTime t0 s) = isMaster s := rfl
@[simp] theorem ownRank_atTime (t0 : Tick) (s : State) : ownRank (atTime t0 s) = ownRank s := rfl
@[simp] theorem wakePortRaw_atTime (t0 : Tick) (s : State) (g : Nat) :
    wakePortRaw (atTime t0 s) g = wakePortRaw s g := rfl
@[simp] theorem currentNum_atTime (t0 : Tick) (s : State) : currentNum (atTime t0 s) = currentNum s := rfl
@[simp] theorem curObj_atTime (t0 : Tick) (s : State) (k : Kind) (i : Nat) :
    curObj (atTime t0 s) k i = curObj s k i := rfl
@[simp] theorem stagingOf_atTime (t0 : Tick) (s : State) (o : Nat) : stagingOf (atTime t0 s) o = stagingOf s o := rfl
@[simp] theorem slotsOf_atTime (t0 : Tick) (s : State) (k : Kind) : slotsOf (atTime t0 s) k = slotsOf s k := rfl
@[simp] theorem seedOf_atTime (t0 : Tick) (s : State) (k : Kind) : seedOf (atTime t0 s) k = seedOf s k := rfl
@[simp] theorem flowEntry_atTime (t0 : Tick) (s : State) (gen : Nat) (f : Nat) :
    flowEntry (atTime t0 s) gen f = flowEntry s gen f := rfl
@[simp] theorem frameFlow_atTime (t0 : Tick) (s : State) (f : Frame) :
    frameFlow (atTime t0 s) f = frameFlow s f := rfl
@[simp] theorem aged_atTime (t0 : Tick) (s : State) (e : Learned) : aged (atTime t0 s) e = aged s e := rfl
@[simp] theorem mayStart_atTime (t0 : Tick) (s : State) : mayStart (atTime t0 s) = mayStart s := rfl
@[simp] theorem common_atTime (t0 : Tick) (s : State) (g : Nat) : common (atTime t0 s) g = common s g := rfl
@[simp] theorem canOf_atTime (t0 : Tick) (s : State) (g : Nat) : canOf (atTime t0 s) g = canOf s g := rfl
@[simp] theorem linOf_atTime (t0 : Tick) (s : State) (g : Nat) : linOf (atTime t0 s) g = linOf s g := rfl
@[simp] theorem ethOf_atTime (t0 : Tick) (s : State) (g : Nat) : ethOf (atTime t0 s) g = ethOf s g := rfl
@[simp] theorem linkOf_atTime (t0 : Tick) (s : State) (k : Nat) : linkOf (atTime t0 s) k = linkOf s k := rfl
@[simp] theorem operUp_atTime (t0 : Tick) (s : State) (g : Nat) : operUp (atTime t0 s) g = operUp s g := rfl
@[simp] theorem downForEgress_atTime (t0 : Tick) (s : State) (g : Nat) :
    downForEgress (atTime t0 s) g = downForEgress s g := rfl
@[simp] theorem paused_atTime (t0 : Tick) (s : State) (g : Nat) (tc : Nat) (t : Tick) :
    paused (atTime t0 s) g tc t = paused s g tc t := rfl
@[simp] theorem targetSafety_atTime (t0 : Tick) (s : State) (kind : Nat) (target : Nat) :
    targetSafety (atTime t0 s) kind target = targetSafety s kind target := rfl
@[simp] theorem profileOf_atTime (t0 : Tick) (s : State) (n : Nat) : profileOf (atTime t0 s) n = profileOf s n := rfl
@[simp] theorem cadOf_atTime (t0 : Tick) (s : State) (f : Nat) : cadOf (atTime t0 s) f = cadOf s f := rfl
@[simp] theorem itStep_atTime (t0 : Tick) (s : State) : itStep (atTime t0 s) = itStep s := rfl
@[simp] theorem counter_atTime (t0 : Tick) (s : State) (addr : Nat) :
    counter (atTime t0 s) addr = counter s addr := rfl
@[simp] theorem w1cIs_atTime (t0 : Tick) (s : State) (u : Nat) (o : Nat) (b : Nat) :
    w1cIs (atTime t0 s) u o b = w1cIs s u o b := rfl
@[simp] theorem standbyRole_atTime (t0 : Tick) (s : State) : standbyRole (atTime t0 s) = standbyRole s := rfl
@[simp] theorem standbyPort_atTime (t0 : Tick) (s : State) (g : Nat) :
    standbyPort (atTime t0 s) g = standbyPort s g := rfl
@[simp] theorem canMode_atTime (t0 : Tick) (s : State) (g : Nat) : canMode (atTime t0 s) g = canMode s g := rfl
@[simp] theorem leeRule_atTime (t0 : Tick) (s : State) : leeRule (atTime t0 s) = leeRule s := rfl
@[simp] theorem findAsync_atTime (t0 : Tick) (opcode : Nat) (f : AsyncCmd → Bool) (s : State) :
    findAsync opcode f (atTime t0 s) = findAsync opcode f s := rfl
@[simp] theorem freeCells_atTime (t0 : Tick) (s : State) : freeCells (atTime t0 s) = freeCells s := rfl
@[simp] theorem account_atTime (t0 : Tick) (s : State) (g : Nat) (c : Nat) :
    account (atTime t0 s) g c = account s g c := rfl
@[simp] theorem fcOf_atTime (t0 : Tick) (s : State) (g : Nat) : fcOf (atTime t0 s) g = fcOf s g := rfl
@[simp] theorem fcMode_atTime (t0 : Tick) (s : State) (g : Nat) : fcMode (atTime t0 s) g = fcMode s g := rfl
@[simp] theorem charge_atTime (t0 : Tick) (s : State) (src : Nat) (c : Nat) (n : Nat) (driven : Bool) :
    charge (atTime t0 s) src c n driven = charge s src c n driven := rfl
@[simp] theorem queueOf_atTime (t0 : Tick) (s : State) (g : Nat) (c : Nat) :
    queueOf (atTime t0 s) g c = queueOf s g c := rfl
@[simp] theorem heldOf_atTime (t0 : Tick) (s : State) (fid : Nat) : heldOf (atTime t0 s) fid = heldOf s fid := rfl
@[simp] theorem queueCfg_atTime (t0 : Tick) (s : State) (g : Nat) (c : Nat) :
    queueCfg (atTime t0 s) g c = queueCfg s g c := rfl
@[simp] theorem queueCells_atTime (t0 : Tick) (s : State) (g : Nat) (c : Nat) :
    queueCells (atTime t0 s) g c = queueCells s g c := rfl
@[simp] theorem findQuarantine_atTime (t0 : Tick) (s : State) (kind : Nat) (target : Nat) :
    findQuarantine (atTime t0 s) kind target = findQuarantine s kind target := rfl
@[simp] theorem ringOf_atTime (t0 : Tick) (s : State) (n : Nat) : ringOf (atTime t0 s) n = ringOf s n := rfl
@[simp] theorem ringServed_atTime (t0 : Tick) (s : State) (r : Ring) :
    ringServed (atTime t0 s) r = ringServed s r := rfl
@[simp] theorem ringGport_atTime (t0 : Tick) (s : State) (r : Ring) : ringGport (atTime t0 s) r = ringGport s r := rfl
@[simp] theorem windowAt_atTime (t0 : Tick) (s : State) (tr : Nat) (o : Nat) (n : Nat) :
    windowAt (atTime t0 s) tr o n = windowAt s tr o n := rfl
@[simp] theorem directOf_atTime (t0 : Tick) (s : State) (u : Nat) : directOf (atTime t0 s) u = directOf s u := rfl
@[simp] theorem drivenCharge_atTime (t0 : Tick) (s : State) (c : Nat) :
    drivenCharge (atTime t0 s) c = drivenCharge s c := rfl
@[simp] theorem canCommit_atTime (t0 : Tick) (s : State) : canCommit (atTime t0 s) = canCommit s := rfl
@[simp] theorem genInUse_atTime (t0 : Tick) (s : State) (n : Nat) : genInUse (atTime t0 s) n = genInUse s n := rfl
@[simp] theorem laneOf_atTime (t0 : Tick) (s : State) (n : Nat) : laneOf (atTime t0 s) n = laneOf s n := rfl
@[simp] theorem laneChoice_atTime (t0 : Tick) (s : State) (urgency : Nat) :
    laneChoice (atTime t0 s) urgency = laneChoice s urgency := rfl
@[simp] theorem preferred_atTime (t0 : Tick) (s : State) : preferred (atTime t0 s) = preferred s := rfl
@[simp] theorem holdOffS_atTime (t0 : Tick) (s : State) : holdOffS (atTime t0 s) = holdOffS s := rfl
@[simp] theorem hbPayload_atTime (t0 : Tick) (s : State) (x : Link) (stamp : Tick) :
    hbPayload (atTime t0 s) x stamp = hbPayload s x stamp := rfl
@[simp] theorem legalCheckS_atTime (t0 : Tick) (s : State) : legalCheckS (atTime t0 s) = legalCheckS s := rfl
@[simp] theorem captureOf_atTime (t0 : Tick) (s : State) (n : Nat) : captureOf (atTime t0 s) n = captureOf s n := rfl
@[simp] theorem spillCells_atTime (t0 : Tick) (s : State) : spillCells (atTime t0 s) = spillCells s := rfl
@[simp] theorem monoValue_atTime (t0 : Tick) (s : State) (id : Nat) :
    monoValue (atTime t0 s) id = monoValue s id := rfl
@[simp] theorem checkpointDue_atTime (t0 : Tick) (s : State) : checkpointDue (atTime t0 s) = checkpointDue s := rfl
@[simp] theorem preemptable_atTime (t0 : Tick) (s : State) (g : Nat) (tc : Nat) :
    preemptable (atTime t0 s) g tc = preemptable s g tc := rfl
@[simp] theorem pick_atTime (t0 : Tick) (s : State) (g : Nat) (ok : Nat → HeldFrame → Bool) :
    pick (atTime t0 s) g ok = pick s g ok := rfl
@[simp] theorem canServes_atTime (t0 : Tick) (s : State) (g : Nat) : canServes (atTime t0 s) g = canServes s g := rfl
@[simp] theorem jobOf_atTime (t0 : Tick) (s : State) (p : Nat) (tag : Nat) :
    jobOf (atTime t0 s) p tag = jobOf s p tag := rfl
@[simp] theorem slotGone_atTime (t0 : Tick) (s : State) (i : Nat) : slotGone (atTime t0 s) i = slotGone s i := rfl
@[simp] theorem inbandPartner_atTime (t0 : Tick) (s : State) (f : Frame) :
    inbandPartner (atTime t0 s) f = inbandPartner s f := rfl
@[simp] theorem sessionOf_atTime (t0 : Tick) (s : State) (n : Nat) : sessionOf (atTime t0 s) n = sessionOf s n := rfl

end Sys2Proof.Machine
end

