-- ==== Sys2Proof/Laws/Tab.lean ====
section
/-!
SUPPORT. Laws of tables and memories: an entry reads as written, other numbers are left alone, numbers keep rising,
and every memory operation keeps the canonical form.
-/
namespace Sys2Proof.Machine

variable {α : Type}

/-- Every number of a table is above `k`. -/
def tabove (k : Nat) (m : Tab α) : Prop := ∀ e ∈ m, k < e.1

@[simp] theorem tget?_nil (k : Nat) : tget? ([] : Tab α) k = none := rfl

theorem tget?_cons (j : Nat) (x : α) (m : Tab α) (k : Nat) :
    tget? ((j, x) :: m) k = if j = k then some x else tget? m k := rfl

theorem tsorted_cons {j : Nat} {x : α} {m : Tab α} :
    tsorted ((j, x) :: m) = true ↔ tabove j m ∧ tsorted m = true := by
  induction m generalizing j x with
  | nil => simp [tsorted, tabove]
  | cons e m ih =>
    obtain ⟨i, y⟩ := e
    simp only [tsorted, Bool.and_eq_true, decide_eq_true_eq]
    constructor
    · rintro ⟨h, hs⟩
      refine ⟨?_, hs⟩
      intro e he
      rcases List.mem_cons.1 he with rfl | he
      · exact h
      · exact Nat.lt_trans h ((ih.1 hs).1 e he)
    · rintro ⟨h, hs⟩
      exact ⟨h (i, y) (List.mem_cons_self ..), hs⟩

theorem tget?_of_above {k : Nat} {m : Tab α} (h : tabove k m) : tget? m k = none := by
  induction m with
  | nil => rfl
  | cons e m ih =>
    obtain ⟨j, x⟩ := e
    have hj : k < j := h (j, x) (List.mem_cons_self ..)
    rw [tget?_cons, if_neg (by omega)]
    exact ih fun e he => h e (List.mem_cons_of_mem _ he)

/-- An entry reads as written. -/
@[simp] theorem tget?_tset_self (m : Tab α) (k : Nat) (x : α) : tget? (tset m k x) k = some x := by
  induction m with
  | nil => simp [tset, tget?]
  | cons e m ih =>
    obtain ⟨j, y⟩ := e
    simp only [tset]
    split
    · simp [tget?]
    · split
      · simp [tget?]
      · rw [tget?_cons, if_neg (by omega)]; exact ih

/-- Another number is left alone. -/
theorem tget?_tset_ne (m : Tab α) {k j : Nat} (x : α) (h : j ≠ k) : tget? (tset m k x) j = tget? m j := by
  induction m with
  | nil => simp [tset, tget?]; omega
  | cons e m ih =>
    obtain ⟨i, y⟩ := e
    simp only [tset]
    split
    · rw [tget?_cons, if_neg (by omega)]
    · split
      · subst_vars; rw [tget?_cons, tget?_cons, if_neg (by omega), if_neg (by omega)]
      · rw [tget?_cons, tget?_cons, ih]

@[simp] theorem tget_tset_self (m : Tab α) (k : Nat) (x d : α) : tget (tset m k x) d k = x := by simp [tget]

theorem tget_tset_ne (m : Tab α) {k j : Nat} (x d : α) (h : j ≠ k) : tget (tset m k x) d j = tget m d j := by
  simp [tget, tget?_tset_ne m x h]

theorem tabove_tset {i : Nat} {m : Tab α} {k : Nat} {x : α} (h : tabove i m) (hk : i < k) :
    tabove i (tset m k x) := by
  induction m with
  | nil => intro e he; simp [tset] at he; subst he; exact hk
  | cons e m ih =>
    obtain ⟨j, y⟩ := e
    have hj : i < j := h (j, y) (List.mem_cons_self ..)
    have hm : tabove i m := fun e he => h e (List.mem_cons_of_mem _ he)
    simp only [tset]
    split
    · intro e he
      rcases List.mem_cons.1 he with rfl | he
      · exact hk
      · exact h e he
    · split
      · intro e he
        rcases List.mem_cons.1 he with rfl | he
        · exact hk
        · exact hm e he
      · intro e he
        rcases List.mem_cons.1 he with rfl | he
        · exact hj
        · exact ih hm e he

/-- Writing an entry keeps the numbers rising. -/
theorem tsorted_tset {m : Tab α} (h : tsorted m = true) (k : Nat) (x : α) : tsorted (tset m k x) = true := by
  induction m with
  | nil => rfl
  | cons e m ih =>
    obtain ⟨j, y⟩ := e
    have hc := tsorted_cons.1 h
    simp only [tset]
    split
    · rename_i hk
      refine tsorted_cons.2 ⟨?_, h⟩
      intro e he
      rcases List.mem_cons.1 he with rfl | he
      · exact hk
      · exact Nat.lt_trans hk (hc.1 e he)
    · split
      · subst_vars; exact tsorted_cons.2 hc
      · exact tsorted_cons.2 ⟨tabove_tset hc.1 (by omega), ih hc.2⟩

theorem mem_tdel {m : Tab α} {k : Nat} {e : Nat × α} (h : e ∈ tdel m k) : e ∈ m ∧ e.1 ≠ k := by
  induction m with
  | nil => simp [tdel] at h
  | cons a m ih =>
    obtain ⟨j, y⟩ := a
    simp only [tdel] at h
    split at h
    · exact ⟨List.mem_cons_of_mem _ (ih h).1, (ih h).2⟩
    · rcases List.mem_cons.1 h with rfl | h
      · exact ⟨List.mem_cons_self .., by assumption⟩
      · exact ⟨List.mem_cons_of_mem _ (ih h).1, (ih h).2⟩

/-- Removing a number keeps the others rising. -/
theorem tsorted_tdel {m : Tab α} (h : tsorted m = true) (k : Nat) : tsorted (tdel m k) = true := by
  induction m with
  | nil => rfl
  | cons e m ih =>
    obtain ⟨j, y⟩ := e
    have hc := tsorted_cons.1 h
    simp only [tdel]
    split
    · exact ih hc.2
    · exact tsorted_cons.2 ⟨fun e he => hc.1 e (mem_tdel he).1, ih hc.2⟩

/-- A removed number has no entry. -/
@[simp] theorem tget?_tdel_self (m : Tab α) (k : Nat) : tget? (tdel m k) k = none := by
  induction m with
  | nil => rfl
  | cons e m ih =>
    obtain ⟨j, y⟩ := e
    simp only [tdel]
    split
    · exact ih
    · rw [tget?_cons, if_neg (by assumption)]; exact ih

/-- Removing a number leaves the others alone. -/
theorem tget?_tdel_ne (m : Tab α) {k j : Nat} (h : j ≠ k) : tget? (tdel m k) j = tget? m j := by
  induction m with
  | nil => rfl
  | cons e m ih =>
    obtain ⟨i, y⟩ := e
    simp only [tdel]
    split
    · subst_vars; rw [tget?_cons, if_neg (by omega)]; exact ih
    · rw [tget?_cons, tget?_cons, ih]

theorem mem_tset {m : Tab α} {k : Nat} {x : α} {e : Nat × α} (h : e ∈ tset m k x) : e = (k, x) ∨ e ∈ m := by
  induction m with
  | nil => simpa [tset] using h
  | cons a m ih =>
    obtain ⟨j, y⟩ := a
    simp only [tset] at h
    split at h
    · exact List.mem_cons.1 h
    · split at h
      · rcases List.mem_cons.1 h with h | h
        · exact .inl h
        · exact .inr (List.mem_cons_of_mem _ h)
      · rcases List.mem_cons.1 h with h | h
        · exact .inr (h ▸ List.mem_cons_self ..)
        · exact (ih h).imp id (List.mem_cons_of_mem _)

/-! ### Memories -/

/-- A byte reads as written. -/
@[simp] theorem memRead_memWrite_self (m : Memory) (a : Nat) (b : Byte) : memRead (memWrite m a b) a = b := by
  unfold memRead memWrite
  split
  · simp [tget, *]
  · simp

/-- A write leaves every other byte alone. -/
theorem memRead_memWrite_ne (m : Memory) {a j : Nat} (b : Byte) (h : j ≠ a) :
    memRead (memWrite m a b) j = memRead m j := by
  unfold memRead memWrite
  split
  · simp [tget, tget?_tdel_ne m h]
  · exact tget_tset_ne m b memFill h

/-- A write keeps the canonical form. -/
theorem memory_wf_write {m : Memory} (h : Memory.wf m = true) (a : Nat) (b : Byte) : Memory.wf (memWrite m a b) = true := by
  simp only [Memory.wf, Bool.and_eq_true, List.all_eq_true] at h ⊢
  unfold memWrite
  split
  · exact ⟨tsorted_tdel h.1 a, fun e he => h.2 e (mem_tdel he).1⟩
  · refine ⟨tsorted_tset h.1 a b, fun e he => ?_⟩
    rcases mem_tset he with rfl | he
    · simpa using by assumption
    · exact h.2 e he

/-- A write of a byte string keeps the canonical form. -/
theorem memory_wf_writeBytes {m : Memory} (h : Memory.wf m = true) (a : Nat) (bs : Bytes) :
    Memory.wf (memWriteBytes m a bs) = true := by
  induction bs generalizing m a with
  | nil => exact h
  | cons b bs ih => exact ih (memory_wf_write h a b) (a + 1)

/-- A write of a byte string leaves every byte outside it alone. -/
theorem memRead_memWriteBytes_out (m : Memory) (a j : Nat) (bs : Bytes) (h : j < a ∨ a + bs.length ≤ j) :
    memRead (memWriteBytes m a bs) j = memRead m j := by
  induction bs generalizing m a with
  | nil => rfl
  | cons b bs ih =>
    have hl : (b :: bs).length = bs.length + 1 := rfl
    rw [hl] at h
    show memRead (memWriteBytes (memWrite m a b) (a + 1) bs) j = _
    rw [ih (memWrite m a b) (a + 1) (by omega), memRead_memWrite_ne m b (by omega)]

/-- A byte string reads as written. -/
theorem memRead_memWriteBytes_in (m : Memory) (a i : Nat) (bs : Bytes) (h : i < bs.length) :
    memRead (memWriteBytes m a bs) (a + i) = bs[i] := by
  induction bs generalizing m a i with
  | nil => exact absurd h (Nat.not_lt_zero i)
  | cons b bs ih =>
    show memRead (memWriteBytes (memWrite m a b) (a + 1) bs) (a + i) = _
    cases i with
    | zero =>
      show memRead (memWriteBytes (memWrite m a b) (a + 1) bs) a = b
      rw [memRead_memWriteBytes_out _ _ _ _ (.inl (by omega))]
      simp
    | succ i =>
      have := ih (memWrite m a b) (a + 1) i (by simpa using h)
      rw [show a + (i + 1) = a + 1 + i by omega, this]
      rfl

end Sys2Proof.Machine
end

