-- ==== Sys2Proof/Laws/Kernel.lean ====
section
/-!
SUPPORT. What the shared operations of the kernel can do at all: events, vectors, status bits, the Fault Ledger and
replies change the Sprinaz service and nothing else.
-/
namespace Sys2Proof.Machine

/-- A state that differs from another in the Sprinaz service only. -/
def kernelOnly (s s' : State) : Prop := s' = { s with kernel := s'.kernel }

theorem kernelOnly_refl (s : State) : kernelOnly s s := rfl

theorem kernelOnly_trans {a b c : State} (h : kernelOnly a b) (k : kernelOnly b c) : kernelOnly a c := by
  unfold kernelOnly at *
  rw [k, h]

theorem kernelOnly_foldl {β : Type} (f : State → β → State) (h : ∀ s b, kernelOnly s (f s b)) (l : List β) (s : State) :
    kernelOnly s (l.foldl f s) := by
  induction l generalizing s with
  | nil => exact kernelOnly_refl s
  | cons b l ih => exact kernelOnly_trans (h s b) (ih (f s b))

theorem kernelOnly_setPartner (p : Nat) (x : Partner) (s : State) : kernelOnly s (setPartner p x s) := rfl
theorem kernelOnly_updPartner (p : Nat) (f : Partner → Partner) (s : State) : kernelOnly s (updPartner p f s) := rfl
theorem kernelOnly_bumpBy (a n : Nat) (s : State) : kernelOnly s (bumpBy a n s) := rfl
theorem kernelOnly_bump (a : Nat) (s : State) : kernelOnly s (bump a s) := rfl
theorem kernelOnly_raiseVec (v : Nat) (s : State) : kernelOnly s (raiseVec v s) := rfl

theorem kernelOnly_ite {c : Prop} [Decidable c] {s a b : State} (h : kernelOnly s a) (k : kernelOnly s b) :
    kernelOnly s (if c then a else b) := by
  split
  · exact h
  · exact k

theorem kernelOnly_signalVectors (p : Nat) (x : Partner) (a b : EvQueue) (f : Bool) (s : State) :
    kernelOnly s (signalVectors p x a b f s) := by
  unfold signalVectors
  split
  · by_cases h : a.sig ≠ b.sig <;> cases f <;> simp [h] <;> exact kernelOnly_refl _
  · exact kernelOnly_refl s

theorem kernelOnly_writeEvent (p : Nat) (r : EventRecord) (s : State) : kernelOnly s (writeEvent p r s) := by
  unfold writeEvent
  simp only []
  repeat' split
  · exact kernelOnly_refl s
  · exact rfl
  · exact kernelOnly_trans (kernelOnly_setPartner ..) (kernelOnly_signalVectors ..)
  · exact kernelOnly_trans (kernelOnly_setPartner ..) (kernelOnly_signalVectors ..)
  · exact kernelOnly_trans (kernelOnly_setPartner ..) (kernelOnly_signalVectors ..)

theorem kernelOnly_commonEvent (p typ : Nat) (b : Bytes) (s : State) : kernelOnly s (commonEvent p typ b s) :=
  kernelOnly_writeEvent ..

theorem kernelOnly_raiseFull (u ty : Nat) (b : Bytes) (st : Tick) (sa le : Bool) (s : State) :
    kernelOnly s (raiseFull u ty b st sa le s) :=
  kernelOnly_foldl _ (fun _ _ => kernelOnly_ite (kernelOnly_writeEvent ..) (kernelOnly_refl _)) _ _

theorem kernelOnly_raiseEvent (u ty : Nat) (b : Bytes) (s : State) : kernelOnly s (raiseEvent u ty b s) :=
  kernelOnly_raiseFull ..

theorem kernelOnly_raiseSafety (u ty : Nat) (b : Bytes) (s : State) : kernelOnly s (raiseSafety u ty b s) :=
  kernelOnly_raiseFull ..

theorem kernelOnly_ledgerAdd (code u ob sev : Nat) (w : Bool) (d : Bytes) (s : State) :
    kernelOnly s (ledgerAdd code u ob sev w d s) := by
  unfold ledgerAdd
  dsimp only
  split
  · exact rfl
  · split
    · exact rfl
    · split
      · exact rfl
      · cases (!s.kernel.w1c.contains ledgerFullBit)
        · exact rfl
        · exact kernelOnly_trans (b := raiseVec (192 + 0x0A)
            { bump (safetyCounter 0x0120) s with
              kernel.w1c := (bump (safetyCounter 0x0120) s).kernel.w1c ++ [ledgerFullBit] })
            rfl (kernelOnly_raiseSafety ..)

theorem kernelOnly_setW1c (u o b ob : Nat) (s : State) : kernelOnly s (setW1c u o b ob s) := by
  unfold setW1c
  refine kernelOnly_trans ?_ (kernelOnly_ledgerAdd ..)
  split
  · exact kernelOnly_refl s
  · exact rfl

theorem kernelOnly_writeReply (p : Nat) (r : Reply) (s : State) : kernelOnly s (writeReply p r s) := by
  unfold writeReply
  dsimp only
  have h : kernelOnly s (if (partner s p).transport = 1 ∧ ((partner s p).putReply r).waiting = [] then
      raiseVec (128 + 8 * p) (setPartner p ((partner s p).putReply r) s)
      else setPartner p ((partner s p).putReply r) s) := kernelOnly_ite rfl rfl
  exact kernelOnly_ite (kernelOnly_trans h (kernelOnly_ledgerAdd ..)) h

theorem kernelOnly_cmdComplete (a : AsyncCmd) (st : Nat) (s : State) : kernelOnly s (cmdComplete a st s) := by
  unfold cmdComplete
  dsimp only
  refine kernelOnly_trans (b := { s with kernel.asyncs := s.kernel.asyncs.filter fun b => b != a }) rfl ?_
  exact kernelOnly_ite (kernelOnly_trans (kernelOnly_commonEvent ..) (kernelOnly_ledgerAdd ..)) (kernelOnly_commonEvent ..)

theorem kernelOnly_queueResetEvent (p q r d f : Nat) (s : State) : kernelOnly s (queueResetEvent p q r d f s) := by
  unfold queueResetEvent
  dsimp only
  have h := kernelOnly_trans (kernelOnly_commonEvent p 2 (le 1 q ++ le 1 r ++ zeros 2 ++ le 4 d ++ le 4 f) s)
    (kernelOnly_updPartner p (fun x => { x with
      resets := satAdd 0xFF x.resets 1
      resetRecs := if x.evq.wr = (partner s p).evq.wr then x.resetRecs else x.resetRecs ++ [x.evq.wr - 1] }) _)
  exact kernelOnly_ite (kernelOnly_trans h (kernelOnly_raiseVec ..)) h

theorem kernelOnly_resetCmdQueue (p r : Nat) (s : State) : kernelOnly s (resetCmdQueue p r s) :=
  kernelOnly_trans (kernelOnly_setPartner ..) (kernelOnly_queueResetEvent ..)

theorem kernelOnly_resetEvQueue (p r : Nat) (s : State) : kernelOnly s (resetEvQueue p r s) :=
  kernelOnly_trans (kernelOnly_setPartner ..) (kernelOnly_queueResetEvent ..)

theorem kernelOnly_clearW1c (w : W1cBit) (s : State) : kernelOnly s (clearW1c w s) := rfl

end Sys2Proof.Machine
end

