-- ==== Sys2Proof/Laws/Step.lean ====
section
/-!
SUPPORT. What a command of a partner and each kind of event does, said once: a command waits or is answered, an
event runs or does not occur, and both leave what holdBase holds.
-/
namespace Sys2Proof.Machine

/-! ### The wrappers of events -/

theorem whenRuns_on (t : Tick) (f : State → State) (s : State) (h : tsclkRuns s = true) :
    whenRuns t f s = holdBase (atTime t s) (f (atTime t s)) := by
  simp [whenRuns, h]

theorem whenRuns_off (t : Tick) (f : State → State) (s : State) (h : tsclkRuns s = false) :
    whenRuns t f s = atTime t s := by
  simp [whenRuns, h]

theorem whenPairB_on (t : Tick) (f : State → State) (s : State) (h : pairBRuns (atTime t s) = true)
    (ha : s.power.activating = none) : whenPairB t f s = holdBase (atTime t s) (f (atTime t s)) := by
  simp [whenPairB, h, ha]

theorem whenPairA_on (t : Tick) (f : State → State) (s : State) (h : pairARuns (atTime t s) = true) :
    whenPairA t f s = holdBase (atTime t s) (f (atTime t s)) := by
  simp [whenPairA, h]

/-! ### Commands -/

/-- Every command row is one run of `runCommand`. -/
theorem exec_commandOf_match (i : Instr) (s : State) :
    match commandOf i with
    | some (o, t, p, k) => exec i s = .next (runCommand o t p k s)
    | none => True := by
  cases i <;> first | exact rfl | exact trivial

theorem exec_commandOf (i : Instr) (o : CmdSpec) (t p : Nat) (k : Packet) (s : State)
    (h : commandOf i = some (o, t, p, k)) : exec i s = .next (runCommand o t p k s) := by
  have := exec_commandOf_match i s
  rw [h] at this
  exact this

/-- Where Pair A cannot fetch, the command waits (R58, R68). -/
theorem runCommand_waits (o : CmdSpec) (t p : Nat) (k : Packet) (s : State) (h : canFetch p k (atTime t s) = false) :
    runCommand o t p k s = atTime t s := by
  simp [runCommand, h]

/-- A fetched command that leaves no `REMOTE_READ` waiting is answered. -/
theorem runCommand_answers (o : CmdSpec) (t p : Nat) (k : Packet) (s : State) (a : Answer) (y : State)
    (h : canFetch p k (atTime t s) = true) (ho : o.opcode = 0x0911 → y.pair.remote = none)
    (hr : runFetched specOf o p k (fetched p k (atTime t s)) = (y, a)) :
    runCommand o t p k s = respond o t p k a s y := by
  simp only [runCommand, h, if_true, runCommandWith, hr, respond]
  split
  · rename_i ho'
    have hn := ho ho'
    have hy : { y with pair.remote := none } = y := by rw [← hn]
    simp only [hn, hy]
  · rfl

/-- Pair A fetches only while no `REMOTE_READ` waits (R68, R711). -/
theorem remote_of_canFetch (p : Nat) (k : Packet) (s : State) (h : canFetch p k s = true) : s.pair.remote = none := by
  simp only [canFetch, pairARuns, Bool.and_eq_true] at h
  exact Option.isNone_iff_eq_none.mp h.1.1.1.1.2.2

theorem partner_fetched (p : Nat) (k : Packet) (s : State) :
    partner (fetched p k s) p =
      { partner s p with reqHead := (partner s p).reqHead + BitVec.ofNat 16 (packetSlots k.plen.toNat) } := by
  simp [fetched, updPartner, setPartner, partner]

/-- A packet that passes steps 1 to 5 goes on to its member or to itself alone (R62). -/
theorem runFetched_framed (o : CmdSpec) (t p : Nat) (k : Packet) (s : State) (h : Framed o t p k s) :
    runFetched specOf o p k (fetched p k (atTime t s)) =
      if bit k.flags.toNat 0 then runMember specOf o p k (entered p k (atTime t s))
      else runSingle o p k (entered p k (atTime t s)) := by
  have hl : ¬ 4076 < k.plen.toNat := by have := h.len; omega
  have hq : (!(partner (fetched p k (atTime t s)) p).seqAny &&
      k.seq != (partner (fetched p k (atTime t s)) p).seqNext) = false := by
    rw [partner_fetched]
    rcases h.seq with h | h <;> simp [h]
  unfold runFetched
  simp only [hl, if_false, h.crc, Bool.not_true, Bool.false_eq_true, h.header, hq]
  rfl

theorem partner_entered (p : Nat) (k : Packet) (s : State) :
    partner (entered p k s) p =
      { partner s p with reqHead := (partner s p).reqHead + BitVec.ofNat 16 (packetSlots k.plen.toNat)
                         seqAny := false, seqNext := k.seq + 1 } := by
  simp [entered, fetched, updPartner, setPartner, partner]

/-- An accepted command takes effect and is answered. -/
theorem runCommand_accepted (o : CmdSpec) (t p : Nat) (k : Packet) (s : State) (ho : o.opcode ≠ 0x0911)
    (h : Accepted o t p k s) : runCommand o t p k s = completed o t p k s := by
  refine runCommand_answers o t p k s _ _ h.framed.fetch (fun e => absurd e ho) ?_
  have hn : (o.change && (partner (entered p k (atTime t s)) p).txn.isSome) = false := by
    rw [partner_entered]
    cases hc : o.change <;> simp [h.free, hc]
  have ha : (o.async && decide (16 ≤ (entered p k (atTime t s)).kernel.asyncs.length)) = false := by
    have : (entered p k (atTime t s)).kernel.asyncs = s.kernel.asyncs := rfl
    rw [this]
    cases hc : o.async
    · rfl
    · have := h.slots hc
      simp; omega
  rw [runFetched_framed _ _ _ _ _ h.framed]
  simp only [h.single, runSingle, h.checks, hn, ha, h.whole, Bool.or_self, Bool.false_eq_true, if_false]
  cases hc : o.async <;> simp [started, hc, ctxOf]

/-- A command whose last check meets an open value takes effect or is answered CHECK_FAIL. -/
theorem runCommand_presented (o : CmdSpec) (t p : Nat) (k : Packet) (s : State) (ho : o.opcode ≠ 0x0911)
    (h : Presented o t p k s) : runCommand o t p k s = judged o t p k s := by
  rcases h.checks with hc | hc
  · rw [runCommand_accepted o t p k s ho ⟨h.framed, h.single, h.whole, h.free, h.slots, hc⟩]
    simp only [judged, hc]
  · have hr := runCommand_answers o t p k s { status := stCheckFail }
      (o.onReject (ctxOf o p k) { status := stCheckFail } (entered p k (atTime t s))) h.framed.fetch (fun e => absurd e ho) (by
        rw [runFetched_framed _ _ _ _ _ h.framed]
        simp only [h.single, runSingle, hc, Bool.false_eq_true, if_false]
        rfl)
    rw [hr]
    simp only [judged, hc]

end Sys2Proof.Machine
end

