-- ==== Sys2Proof/Laws/Service.lean ====
section
/-!
SUPPORT. What events, resets, status bits and the Fault Ledger can do to the partners and to the status bits: an event
changes event queues alone, and a status bit once set stays set through them.
-/
namespace Sys2Proof.Machine

/-! ### Partners -/

theorem partner_setPartner (p j : Nat) (x : Partner) (s : State) :
    partner (setPartner p x s) j = if j = p then x else partner s j := by
  simp only [partner, setPartner]
  split
  · subst j; simp
  · rename_i h; rw [tget_tset_ne _ _ _ h]

@[simp] theorem partner_setPartner_self (p : Nat) (x : Partner) (s : State) : partner (setPartner p x s) p = x := by
  simp [partner_setPartner]

theorem partner_setPartner_ne {p j : Nat} (x : Partner) (s : State) (h : j ≠ p) :
    partner (setPartner p x s) j = partner s j := by
  simp [partner_setPartner, h]

@[simp] theorem partner_raiseVec (v : Nat) (s : State) (j : Nat) : partner (raiseVec v s) j = partner s j := rfl
@[simp] theorem partner_bump (a : Nat) (s : State) (j : Nat) : partner (bump a s) j = partner s j := rfl
@[simp] theorem partner_bumpBy (a n : Nat) (s : State) (j : Nat) : partner (bumpBy a n s) j = partner s j := rfl
@[simp] theorem partner_holdBase (a b : State) (j : Nat) : partner (holdBase a b) j = partner b j := rfl

@[simp] theorem partner_signalVectors (p : Nat) (x : Partner) (a b : EvQueue) (f : Bool) (s : State) (j : Nat) :
    partner (signalVectors p x a b f s) j = partner s j := by
  unfold signalVectors
  split
  · by_cases h : a.sig ≠ b.sig <;> cases f <;> simp [h]
  · rfl

/-- An event queue and its overflow count differ at most. -/
def evqOnly (x y : Partner) : Prop := y = { x with evq := y.evq, overflows := y.overflows }

theorem evqOnly_refl (x : Partner) : evqOnly x x := rfl

theorem evqOnly_trans {x y z : Partner} (h : evqOnly x y) (k : evqOnly y z) : evqOnly x z := by
  unfold evqOnly at *
  rw [k, h]

/-- An event changes the event queue of its partner and nothing else of any partner. -/
theorem partner_writeEvent (p : Nat) (r : EventRecord) (s : State) (j : Nat) :
    evqOnly (partner s j) (partner (writeEvent p r s) j) ∧ (j ≠ p → partner (writeEvent p r s) j = partner s j) := by
  unfold writeEvent
  simp only []
  repeat' split
  all_goals first
    | exact ⟨evqOnly_refl _, fun _ => rfl⟩
    | (refine ⟨?_, fun h => by simp [partner_setPartner, h]⟩
       simp only [partner_signalVectors, partner_setPartner]
       split
       · subst j; exact rfl
       · exact evqOnly_refl _)

theorem partner_commonEvent (p ty : Nat) (b : Bytes) (s : State) (j : Nat) :
    evqOnly (partner s j) (partner (commonEvent p ty b s) j) ∧
      (j ≠ p → partner (commonEvent p ty b s) j = partner s j) := partner_writeEvent ..

theorem partner_raiseFull (u ty : Nat) (b : Bytes) (st : Tick) (sa le : Bool) (s : State) (j : Nat) :
    evqOnly (partner s j) (partner (raiseFull u ty b st sa le s) j) := by
  unfold raiseFull
  generalize partnerIds = l
  induction l generalizing s with
  | nil => exact evqOnly_refl _
  | cons a l ih =>
    rw [List.foldl_cons]
    refine evqOnly_trans ?_ (ih _)
    split
    · exact (partner_writeEvent ..).1
    · exact evqOnly_refl _

theorem partner_raiseSafety (u ty : Nat) (b : Bytes) (s : State) (j : Nat) :
    evqOnly (partner s j) (partner (raiseSafety u ty b s) j) := partner_raiseFull ..

theorem partner_raiseEvent (u ty : Nat) (b : Bytes) (s : State) (j : Nat) :
    evqOnly (partner s j) (partner (raiseEvent u ty b s) j) := partner_raiseFull ..

theorem partner_ledgerAdd (code u ob sev : Nat) (w : Bool) (d : Bytes) (s : State) (j : Nat) :
    evqOnly (partner s j) (partner (ledgerAdd code u ob sev w d s) j) := by
  unfold ledgerAdd
  dsimp only
  split
  · exact rfl
  · split
    · exact rfl
    · split
      · exact rfl
      · cases (!s.kernel.w1c.contains ledgerFullBit)
        · exact rfl
        · exact evqOnly_trans (y := partner (raiseVec (192 + 0x0A)
            { bump (safetyCounter 0x0120) s with
              kernel.w1c := (bump (safetyCounter 0x0120) s).kernel.w1c ++ [ledgerFullBit] }) j)
            rfl (partner_raiseSafety ..)

theorem partner_setW1c (u o b ob : Nat) (s : State) (j : Nat) :
    evqOnly (partner s j) (partner (setW1c u o b ob s) j) := by
  unfold setW1c
  dsimp only
  refine evqOnly_trans ?_ (partner_ledgerAdd ..)
  split
  · exact evqOnly_refl _
  · exact rfl

/-! ### Status bits -/

/-- Every status bit that is set stays set. -/
def bitsStay (s s' : State) : Prop := ∀ w, w ∈ s.kernel.w1c → w ∈ s'.kernel.w1c

theorem bitsStay_refl (s : State) : bitsStay s s := fun _ h => h

theorem bitsStay_trans {a b c : State} (h : bitsStay a b) (k : bitsStay b c) : bitsStay a c := fun w m => k w (h w m)

theorem w1c_signalVectors (p : Nat) (x : Partner) (a b : EvQueue) (f : Bool) (s : State) :
    (signalVectors p x a b f s).kernel.w1c = s.kernel.w1c := by
  unfold signalVectors
  split
  · by_cases h : a.sig ≠ b.sig <;> cases f <;> simp [h, raiseVec]
  · rfl

theorem w1c_writeEvent (p : Nat) (r : EventRecord) (s : State) : (writeEvent p r s).kernel.w1c = s.kernel.w1c := by
  unfold writeEvent
  simp only []
  repeat' split
  all_goals first | rfl | (rw [w1c_signalVectors]; rfl)

theorem w1c_raiseFull (u ty : Nat) (b : Bytes) (st : Tick) (sa le : Bool) (s : State) :
    (raiseFull u ty b st sa le s).kernel.w1c = s.kernel.w1c := by
  unfold raiseFull
  generalize partnerIds = l
  induction l generalizing s with
  | nil => rfl
  | cons a l ih =>
    rw [List.foldl_cons, ih]
    split
    · exact w1c_writeEvent ..
    · rfl

theorem w1c_raiseSafety (u ty : Nat) (b : Bytes) (s : State) : (raiseSafety u ty b s).kernel.w1c = s.kernel.w1c := by
  rw [raiseSafety, w1c_raiseFull]

theorem bitsStay_ledgerAdd (code u ob sev : Nat) (w : Bool) (d : Bytes) (s : State) :
    bitsStay s (ledgerAdd code u ob sev w d s) := by
  unfold ledgerAdd
  dsimp only
  split
  · exact bitsStay_refl s
  · split
    · exact fun _ h => h
    · split
      · exact fun _ h => h
      · cases (!s.kernel.w1c.contains ledgerFullBit)
        · exact fun _ h => h
        · intro v h
          simp only [if_true, w1c_raiseSafety]
          exact List.mem_append_left _ h

/-- A status bit that is set is set (R747). -/
theorem w1cIs_setW1c (u o b ob : Nat) (s : State) : w1cIs (setW1c u o b ob s) u o b = true := by
  unfold setW1c w1cIs
  dsimp only
  rw [List.contains_iff_mem]
  apply bitsStay_ledgerAdd
  split
  · rename_i h; exact List.contains_iff_mem.mp h
  · simp [raiseVec]

theorem bitsStay_setW1c (u o b ob : Nat) (s : State) : bitsStay s (setW1c u o b ob s) := by
  unfold setW1c
  dsimp only
  intro w h
  apply bitsStay_ledgerAdd
  split
  · exact h
  · exact List.mem_append_left _ h

/-! ### What only the service's state is concerned with -/

/-- Holding the base of a state back does nothing to what only the service changes. -/
theorem holdBase_of_kernelOnly {a b : State} (h : kernelOnly a b) : holdBase a b = b := by
  rw [h]; rfl

theorem kernelOnly_host {a b : State} (h : kernelOnly a b) : b.host = a.host := by rw [h]

/-! ### Replies -/

theorem evqOnly_transport {x y : Partner} (h : evqOnly x y) : y.transport = x.transport := by
  rw [h]

theorem evqOnly_seq {x y : Partner} (h : evqOnly x y) : y.seqNext = x.seqNext ∧ y.seqAny = x.seqAny := by
  rw [h]; exact ⟨rfl, rfl⟩

/-- A reply goes into the ring, or waits. -/
theorem putReply_only (x : Partner) (r : Reply) : x.putReply r =
    { x with rplTail := (x.putReply r).rplTail, replies := (x.putReply r).replies, waiting := (x.putReply r).waiting } := by
  unfold Partner.putReply
  split <;> rfl

/-- Beside event queues a reply changes what `putReply` changes. -/
theorem partner_writeReply (p : Nat) (r : Reply) (s : State) :
    evqOnly ((partner s p).putReply r) (partner (writeReply p r s) p) := by
  have h : ∀ z : State, partner z p = (partner s p).putReply r → evqOnly ((partner s p).putReply r)
      (partner (if 0x0301 ≤ r.status then
        ledgerAdd 0x0002 0x0B00 p 1 false (le 2 r.opcode ++ le 2 r.status ++ le 1 p) z else z) p) := by
    intro z hz
    rw [← hz]
    split
    · exact partner_ledgerAdd ..
    · exact evqOnly_refl _
  unfold writeReply
  apply h
  split <;> simp

theorem partner_writeReply_ne (p j : Nat) (r : Reply) (s : State) (hj : j ≠ p) :
    evqOnly (partner s j) (partner (writeReply p r s) j) := by
  have h : ∀ z : State, partner z j = partner s j → evqOnly (partner s j)
      (partner (if 0x0301 ≤ r.status then
        ledgerAdd 0x0002 0x0B00 p 1 false (le 2 r.opcode ++ le 2 r.status ++ le 1 p) z else z) j) := by
    intro z hz
    rw [← hz]
    split
    · exact partner_ledgerAdd ..
    · exact evqOnly_refl _
  unfold writeReply
  apply h
  split <;> simp [partner_setPartner_ne _ _ hj]

theorem transport_writeReply (p j : Nat) (r : Reply) (s : State) :
    (partner (writeReply p r s) j).transport = (partner s j).transport := by
  by_cases h : j = p
  · subst h
    rw [evqOnly_transport (partner_writeReply ..), putReply_only]
  · exact evqOnly_transport (partner_writeReply_ne _ _ _ _ h)

/-- Only an in-band partner's replies leave in frames (R602). -/
theorem inbandReplies_off (p : Nat) (s : State) (h : (partner s p).transport ≠ 5) : inbandReplies p s = s := by
  unfold inbandReplies
  simp [h]

/-! ### What a command outside a transaction changes -/

/-- What every command's fetch and reply do, a relation that allows it, holds on to, or composes. -/
structure CommandFrame (R : State → State → Prop) : Prop where
  trans : ∀ {a b c}, R a b → R b c → R a c
  kernel : ∀ {a b}, kernelOnly a b → (∀ j, (partner b j).transport = (partner a j).transport) → R a b
  base : ∀ {a b}, R a b → holdBase a b = b
  pair : ∀ {a b}, R a b → b.pair = a.pair
  transport : ∀ {a b} j, R a b → (partner b j).transport = (partner a j).transport

theorem transport_updPartner (p : Nat) (f : Partner → Partner) (s : State) (h : ∀ x, (f x).transport = x.transport)
    (j : Nat) : (partner (updPartner p f s) j).transport = (partner s j).transport := by
  unfold updPartner
  rw [partner_setPartner]
  split
  · subst j; exact h _
  · rfl

/-- A command outside a transaction changes what its effect and its rejection change, and the service's state. -/
theorem runCommand_frame {R : State → State → Prop} (hR : CommandFrame R) (o : CmdSpec) (t p : Nat) (k : Packet) (s : State)
    (ha : ∀ c s, R s (o.apply c s).1) (hr : ∀ c r s, R s (o.onReject c r s)) (h0 : bit k.flags.toNat 0 = false)
    (ht : (partner s p).transport ≠ 5) : R (atTime t s) (runCommand o t p k s) := by
  have refl : ∀ x, R x x := fun x => hR.kernel (kernelOnly_refl x) (fun _ => rfl)
  unfold runCommand
  dsimp only
  split
  · rename_i hc
    have h1 : R (atTime t s) (fetched p k (atTime t s)) :=
      hR.kernel rfl (fun j => transport_updPartner p (fun x =>
        { x with reqHead := x.reqHead + BitVec.ofNat 16 (packetSlots k.plen.toNat) }) _ (fun _ => rfl) j)
    have h2 : ∀ x, R x (runFetched specOf o p k x).1 := by
      intro x
      have he : R x (updPartner p (fun y => { y with seqAny := false, seqNext := k.seq + 1 }) x) :=
        hR.kernel rfl (fun j => transport_updPartner p (fun y => { y with seqAny := false, seqNext := k.seq + 1 })
          _ (fun _ => rfl) j)
      unfold runFetched
      dsimp only
      split
      · exact refl x
      · split
        · exact refl x
        · split
          · exact refl x
          · split
            · exact refl x
            · rw [if_neg (by simp [h0])]
              refine hR.trans he ?_
              generalize updPartner p (fun y => { y with seqAny := false, seqNext := k.seq + 1 }) x = y
              unfold runSingle
              dsimp only
              split
              · exact hr ..
              · split
                · exact refl y
                · split
                  · exact refl y
                  · split
                    · refine hR.trans (b := { y with kernel.asyncs := y.kernel.asyncs ++ [_] }) ?_ (ha ..)
                      exact hR.kernel rfl (fun _ => rfl)
                    · exact ha ..
    have h3 := hR.trans h1 (h2 _)
    have h4 : R (atTime t s) (runCommandWith specOf o p k (atTime t s)) := by
      have hn : ({ (runFetched specOf o p k (fetched p k (atTime t s))).1 with pair.remote := none } : State) =
          (runFetched specOf o p k (fetched p k (atTime t s))).1 := by
        have e := remote_of_canFetch p k _ hc
        rw [← hR.pair h3] at e
        rw [← e]
      have hw : ∀ a, R (atTime t s) (writeReply p a (runFetched specOf o p k (fetched p k (atTime t s))).1) :=
        fun a => hR.trans h3 (hR.kernel (kernelOnly_writeReply ..) (fun j => transport_writeReply ..))
      unfold runCommandWith
      simp only [hn]
      split
      · split
        · rename_i r hs
          rw [hR.pair h3, remote_of_canFetch p k _ hc] at hs
          cases hs
        · exact hw _
      · exact hw _
    rw [inbandReplies_off, hR.base h4]
    · exact h4
    · rw [hR.transport p h4]; exact ht
  · exact refl _

end Sys2Proof.Machine
end

