-- ==== Sys2Proof/Tests/Slice0.lean ====
section
/-!
SUPPORT. Small tests: well-formedness refuses what it must, words of the opcode table spell their commands, and for
every statement a state and operands that meet its hypotheses.
-/
namespace Sys2Proof.Tests
set_option Elab.async false
open Sys2Proof Sys2Proof.Machine

theorem test_reset_idle : step State.reset = .next State.reset := rfl

/-! ### Small states and packets -/

/-- A string of `n` bytes, zero but for the given offsets, widths and values. -/
def params (n : Nat) (l : List (Nat × Nat × Nat)) : Bytes := l.foldl (fun b e => patch b e.1 (le e.2.1 e.2.2)) (zeros n)

/-- A packet with its trailer made good. -/
def sign (o : CmdSpec) (k : Packet) : Packet := { k with crc := crc32c (headerBytes o.opcode k ++ padTo k.plen.toNat k.params) }

/-- A packet of a command with VERSION 1, SEQ 1, its length and its trailer good. -/
def cmdPk (o : CmdSpec) (unit : Nat) (ps : Bytes) : Packet :=
  sign o { version := 1, flags := 0, tag := 7, unit := BitVec.ofNat 16 unit, plen := BitVec.ofNat 16 ps.length,
           txn := 0, seq := 1, params := ps, crc := 0 }

/-- A partner on HOSTP with every right and 64 request slots written. -/
def galeP : Partner := { Partner.detached with transport := 1, perm := 0x3FFF0FFF, reqTail := 64 }

/-- A device in Gale with one partner and one generation. -/
def gale : State := { State.reset with
  clk := 1000000000000, it := 1000000000000 * 2 ^ 33, mode := .gale, mainUp := true, lpddrUp := true
  kernel.partners := [(0, galeP)]
  tables.gens := [{ num := 1, commitAt := 0, objs := [] }] }

/-- It in Atelier, led by partner 0. -/
def atelier : State := { gale with mode := .atelier, power.atelierPartner := 0 }

/-- It with the given generation-bound objects. -/
def galeWith (l : Tab Bytes) : State := { gale with tables.gens := [{ num := 1, commitAt := 0, objs := l }] }

/-- A host ring of partner 0, disabled. -/
def ring0 : Ring :=
  { owner := 0, raw := params 28 [(3, 1, 3)], st := 0, tail := 0, head := 0, done := 0, cause := 0, faultDesc := 0,
    frameDesc := 0, offset := 0, drops := 0, frames := 0, fetch := none, writing := none, firstUnsig := none, stamps := [],
    stopping := false }

/-- The state with that ring, in a state and with a fault cause. -/
def galeRing (st cause : Nat) : State := { gale with host.rings := [(0, { ring0 with st := st, cause := cause })] }

def meter0 : Meter := Meter.start (params 32 [(4, 4, 1000), (12, 4, 1)]) 0 none
def learned0 : Learned := { gport := 0, stamp := 0, locked := false, hold := 0, flap := none }
def key4 : KeySlot := { KeySlot.empty with state := .active, level := 4, usage := 3, limit := 5, key := zeros 16 }
def job0 : Job :=
  { partner := 0, tag := 9, raw := zeros 64, st := .working, offset := 0, fed := [], written := 0, key := none, status := 0 }
def sa38 : Sa := { raw := params 32 [(0, 1, 38), (3, 1, 1), (4, 2, 16), (6, 1, 1)], pn := 1, exhausted := false }
def secy38 : SecY :=
  { SecY.off with raw := params 16 [(0, 1, 38), (1, 1, 1), (3, 1, 1)], rxsc := [(0, zeros 12)], sas := [(1, sa38)] }
def galeSecy : State := { gale with herax.bank := [(16, key4)], cipher.secys := [(38, secy38)] }
def galeCan : State := { gale with ports.can := [(0, { CanPort.reset with config := 0x01F40018 })] }
def linkUp : Link := { Link.reset with admin := true, lane0 := true, lane1 := true, aligned := true }

/-! ### Every command is accepted somewhere -/

/-- Steps 1 to 5 of R62 but the trailer, and the rest of what stands before the checks. -/
def framedB (o : CmdSpec) (t p : Nat) (k : Packet) (s : State) : Bool :=
  canFetch p k (atTime t s) && decide (k.plen.toNat ≤ 4076) && (headerCheck o k).isNone &&
    ((partner s p).seqAny || k.seq == (partner s p).seqNext) && !bit k.flags.toNat 0 && !bit k.flags.toNat 2 &&
    (!o.change || (partner s p).txn.isNone) && (!o.async || decide (s.kernel.asyncs.length < 16))

theorem crcGood_sign (o : CmdSpec) (k : Packet) : crcGood o.opcode (sign o k) = true := by
  simp [sign, crcGood, headerBytes]

theorem crcGood_cmdPk (o : CmdSpec) (u : Nat) (ps : Bytes) : crcGood o.opcode (cmdPk o u ps) = true := crcGood_sign o _

/-- Steps 1 to 5 of R62 but the trailer. -/
def frameB (o : CmdSpec) (t p : Nat) (k : Packet) (s : State) : Bool :=
  canFetch p k (atTime t s) && decide (k.plen.toNat ≤ 4076) && (headerCheck o k).isNone &&
    ((partner s p).seqAny || k.seq == (partner s p).seqNext)

theorem framed_sign (o : CmdSpec) (t p : Nat) (k : Packet) (s : State) (h : frameB o t p (sign o k) s = true) :
    Framed o t p (sign o k) s := by
  simp only [frameB, Bool.and_eq_true, decide_eq_true_eq, Option.isNone_iff_eq_none, Bool.or_eq_true, beq_iff_eq] at h
  obtain ⟨⟨⟨h1, h2⟩, h3⟩, h4⟩ := h
  exact ⟨h1, h2, crcGood_sign o k, h3, h4⟩

theorem presented_of_framedB (o : CmdSpec) (t p u : Nat) (ps : Bytes) (s : State)
    (h : framedB o t p (cmdPk o u ps) s = true) :
    Framed o t p (cmdPk o u ps) s ∧ bit (cmdPk o u ps).flags.toNat 0 = false ∧ bit (cmdPk o u ps).flags.toNat 2 = false ∧
      (o.change = true → (partner s p).txn = none) ∧ (o.async = true → s.kernel.asyncs.length < 16) := by
  simp only [framedB, Bool.and_eq_true, decide_eq_true_eq, Option.isNone_iff_eq_none, Bool.or_eq_true, beq_iff_eq,
    Bool.not_eq_true'] at h
  obtain ⟨⟨⟨⟨⟨⟨⟨h1, h2⟩, h3⟩, h4⟩, h5⟩, h6⟩, h7⟩, h8⟩ := h
  refine ⟨⟨h1, h2, crcGood_cmdPk o u ps, h3, h4⟩, h5, h6, fun c => ?_, fun c => ?_⟩
  · simpa [c] using h7
  · simpa [c] using h8

theorem accepted_of_framedB (o : CmdSpec) (t p u : Nat) (ps : Bytes) (s : State)
    (h : framedB o t p (cmdPk o u ps) s = true)
    (hc : o.check (ctxOf o p (cmdPk o u ps)) (entered p (cmdPk o u ps) (atTime t s)) = none) :
    Accepted o t p (cmdPk o u ps) s := by
  obtain ⟨h1, h2, h3, h4, h5⟩ := presented_of_framedB o t p u ps s h
  exact ⟨h1, h2, h3, h4, h5, hc⟩

/-- A command with its unit and parameters, and a state that accepts it from partner 0. -/
structure Witness where
  spec : CmdSpec
  unit : Nat
  ps : Bytes
  state : State

def Witness.packet (w : Witness) : Packet := cmdPk w.spec w.unit w.ps

def Witness.meets (w : Witness) : Bool :=
  framedB w.spec 0 0 w.packet w.state &&
    (w.spec.check (ctxOf w.spec 0 w.packet) (entered 0 w.packet (atTime 0 w.state))).isNone

theorem accepted_of_all (l : List Witness) (h : l.all Witness.meets = true) :
    ∀ w ∈ l, Accepted w.spec 0 0 w.packet w.state := by
  intro w hw
  have hm := List.all_eq_true.mp h w hw
  simp only [Witness.meets, Bool.and_eq_true, Option.isNone_iff_eq_none] at hm
  exact accepted_of_framedB _ _ _ _ _ _ hm.1 hm.2

/-! ### Well-formedness refuses an ill-formed term for each of its checks -/

def packet0 : Packet := { version := 1, flags := 0, tag := 0, unit := 0, plen := 4, txn := 0, seq := 0, params := zeros 4, crc := 0 }
def canOk : CanFrame :=
  { id := 0x7FF, ide := false, rtr := false, fmt := 0, brs := false, esi := false, sec := false, enh := false, dlc := 1,
    dlen := 1, af := 0, sdt := 0, vcid := 0, data := [1] }
def link0 : LinkPacket :=
  { typ := 0, vc := 0, lseq := 0, lack := 0, src := 0, dst := 0, hops := 0, pflags := 0, arg := 0, payload := [], good := true }

theorem test_wellFormed_accepts : ([.echo 0 7 packet0, .canRxFrame 9 23 canOk 0 9 0 0, .linRxFrame 9 31 true 0 0 0 true [] 9 0,
    .ethRxFrame 9 49 [] 0 9 false false, .ringDb 0 127 0 [], .lnkPacketRx 9 1 link0 (some canOk) [.lin 24 0 0 0] 9,
    .gwE2eFeed 0 7 4 0, .clockMonitor 0 13 true, .startUp 9 9 0 none [5] true true] : List Instr).all wellFormed = true := by decide

theorem test_wellFormed_packets : ([.echo 0 8 packet0, .echo 0 0 { packet0 with plen := 8 }] : List Instr).any wellFormed = false := by
  decide

theorem test_wellFormed_frames : ([.canRxFrame 0 0 { canOk with id := 0x800 } 0 0 0 0, .canRxFrame 0 0 { canOk with fmt := 4 } 0 0 0 0,
    .canRxFrame 0 0 { canOk with data := [] } 0 0 0 0, .canRxFrame 0 0 { canOk with dlc := 16 } 0 0 0 0,
    .linRxFrame 0 24 false 0 0 0 true (zeros 9) 0 0, .lnkPacketRx 0 0 link0 (some { canOk with fmt := 4 }) [] 0] :
      List Instr).any wellFormed = false := by decide

theorem test_wellFormed_ports : ([.canIntegrated 0 24, .linSlotStart 0 23 true 0, .linSlotStart 0 32 true 0, .plcaStatus 0 38 true,
    .ethRxFrame 0 31 [] 0 0 false false, .ethRxFrame 0 50 [] 0 0 false false, .wakeDetect 0 50 0 0 0, .egressSelect 0 56 0 false,
    .busIdle 0 32 0] : List Instr).any wellFormed = false := by decide

theorem test_wellFormed_numbers : ([.ringDb 0 128 0 [], .ringCoalesceExpiry 0 128, .pcieCompletionTimeout 0 (some 128),
    .gwE2eCtrl 0 5 0, .gwE2eFeed 0 6 3 0, .syncTimeout 0 2, .gptpSyncTx 0 0 [(31, [])], .tamperDetect 0 5, .segmentOff 0 16,
    .imageEraseComplete 0 6 true, .comparatorDetect 0 8 true, .lockstepMismatch 0 3, .clockMonitor 0 2 true, .clockMonitor 0 14 true,
    .lnkReplayTimeout 0 2, .eventWindowRead 0 0 32, .registerWrite 0 false 2 0] : List Instr).any wellFormed = false := by decide

theorem test_wellFormed_lengths : ([.zephyrResume 0 0 0 [] none, .ringMessageRx 0 38 (zeros 7) 0, .bar0Access 0 0 0 4 (some [1])] :
    List Instr).any wellFormed = false := by decide

theorem test_wellFormed_times : ([.startUp 0 1 0 none [] true true, .startUp 0 0 0 none [6] true true,
    .canRxFrame 0 0 canOk 0 1 0 0, .lbistSlot 0 1000001 true] : List Instr).any wellFormed = false := by decide

theorem test_wellFormed_links : ([.lnkPacketRx 0 0 { link0 with typ := 256 } none [] 0,
    .lnkPacketRx 0 0 link0 none [.lin 32 0 0 0] 0, .lnkPacketRx 0 0 link0 none [.quarantine 2 0 0 0 true] 0,
    .lnkPacketRx 0 0 link0 none [.ownAddress 24 0 0] 0, .lnkPacketRx 0 0 link0 none [.ownAddress 0 256 0] 0] :
      List Instr).any wellFormed = false := by decide

/-! ### Words, CRCs and hashes from the spec's text -/

theorem test_no_word_spells_a_command (nbits w : Nat) : decodeTableWord nbits w = none := rfl

/-- The check value of R56. -/
theorem test_crc32c : crc32c [0x31, 0x32, 0x33, 0x34, 0x35, 0x36, 0x37, 0x38, 0x39] = 0xE3069283 := by decide +kernel

def serviceHostAndPowerCommands1 : List Witness :=
  [ ⟨echoSpec, 0xb00, zeros 0, gale⟩,
    ⟨versionQuerySpec, 0xb00, zeros 0, gale⟩,
    ⟨partnerSetSpec, 0xb00, params 32 [(0, 1, 1), (1, 1, 2), (2, 2, 64)], gale⟩,
    ⟨partnerQuerySpec, 0xb00, zeros 4, gale⟩,
    ⟨eventSubscribeSpec, 0xb00, zeros 4, gale⟩,
    ⟨evqConfigSpec, 0xb00, params 12 [(0, 2, 32)], gale⟩,
    ⟨txnAbortSpec, 0xb00, params 4 [(0, 2, 5)], { gale with kernel.partners := [(0, { galeP with txn := some { id := 5, failed := false, members := [], last := 0 } })] }⟩,
    ⟨evqResetSpec, 0xb00, zeros 4, gale⟩,
    ⟨ringConfigSpec, 0xb00, params 28 [(3, 1, 3)], gale⟩,
    ⟨ringEnableSpec, 0xb00, params 4 [(1, 1, 1)], galeRing 0 0⟩,
    ⟨ringRestartSpec, 0xb00, zeros 4, galeRing 2 6⟩,
    ⟨ringFreeSpec, 0xb00, zeros 4, galeRing 0 0⟩,
    ⟨ringQuerySpec, 0xb00, zeros 4, gale⟩,
    ⟨dmmuCtxSetSpec, 0xb00, params 4 [(0, 1, 16)], { gale with host.ctxs := [(16, { owner := some 0, enabled := true, pages := [] })] }⟩,
    ⟨dmmuUnmapSpec, 0xb00, params 20 [(12, 4, 1)], gale⟩,
    ⟨dmmuQuerySpec, 0xb00, zeros 12, { gale with host.ctxs := [(0, { owner := some 0, enabled := true, pages := [(0, { big := false, perm := 3, host := false, pa := 0, pinned := false })] })] }⟩,
    ⟨windowSetSpec, 0xb00, zeros 24, gale⟩,
    ⟨windowQuerySpec, 0xb00, zeros 4, gale⟩,
    ⟨modeRequestSpec, 0x700, params 12 [(0, 1, 2), (1, 1, 3)], gale⟩,
    ⟨modeQuerySpec, 0x700, zeros 0, gale⟩,
    ⟨breezeConfigSpec, 0x700, params 12 [(8, 2, 3)], gale⟩,
    ⟨powerBankSetSpec, 0x700, params 4 [(0, 1, 9), (1, 1, 2)], gale⟩,
    ⟨fbSegmentSetSpec, 0x700, params 4 [(0, 2, 3)], gale⟩,
    ⟨comparatorSetSpec, 0x700, params 12 [(4, 2, 100), (8, 4, 10)], gale⟩,
    ⟨deviceResetSpec, 0x700, zeros 4, gale⟩ ]

def serviceHostAndPowerCommands2 : List Witness :=
  [ ⟨imageEraseSpec, 0x700, params 4 [(0, 1, 1)], atelier⟩,
    ⟨imageVerifySpec, 0x700, params 4 [(0, 1, 1)], atelier⟩,
    ⟨fwActivateSpec, 0x700, params 4 [(0, 1, 1)], { gale with mode := .atelier, power.images := [(1, { ImageSlot.empty with state := 2 })] }⟩,
    ⟨cfgActivateSpec, 0x700, params 4 [(0, 1, 2)], { gale with mode := .atelier, power.images := [(2, { ImageSlot.empty with state := 2 })] }⟩,
    ⟨imageConfirmSpec, 0x700, params 4 [(0, 1, 1)], { gale with mode := .atelier, power.images := [(1, { ImageSlot.empty with state := 3 })] }⟩,
    ⟨imageQuerySpec, 0x700, zeros 4, gale⟩,
    ⟨cfgAuthoritySetSpec, 0x700, zeros 64, atelier⟩,
    ⟨pwrCountersSpec, 0x700, zeros 0, gale⟩ ]

/-- Every command of Obligations.ServiceHostAndPowerCommandsComplete but those that the next theorems name is accepted by its state. -/
theorem witness_ServiceHostAndPowerCommandsComplete :
    (∀ w ∈ serviceHostAndPowerCommands1, Accepted w.spec 0 0 w.packet w.state) ∧
    (∀ w ∈ serviceHostAndPowerCommands2, Accepted w.spec 0 0 w.packet w.state) := by
  refine ⟨?_, ?_⟩ <;> exact accepted_of_all _ (by decide +kernel)

def portAndSwitchCommands1 : List Witness :=
  [ ⟨hostportQuerySpec, 0x35, zeros 0, gale⟩,
    ⟨hostsConfigSpec, 0x35, params 4 [(0, 1, 8)], gale⟩,
    ⟨portAdminSpec, 0x0, zeros 4, gale⟩,
    ⟨portQuerySpec, 0x0, zeros 0, gale⟩,
    ⟨portCountersSpec, 0x0, zeros 0, gale⟩,
    ⟨portTsCorrSpec, 0x0, zeros 4, gale⟩,
    ⟨trxModeSetSpec, 0x0, zeros 4, gale⟩,
    ⟨wakeDetectSetSpec, 0x0, zeros 8, gale⟩,
    ⟨canConfigSpec, 0x0, params 8 [(0, 4, 32768016)], gale⟩,
    ⟨canBittimeSpec, 0x0, params 16 [(0, 4, 126828033)], gale⟩,
    ⟨canRestrictSpec, 0x0, zeros 4, gale⟩,
    ⟨canRecoverSpec, 0x0, zeros 4, { gale with ports.can := [(0, { CanPort.reset with config := 0x01F40000, busOff := true })] }⟩,
    ⟨linConfigSpec, 0x18, params 36 [(1, 1, 13), (2, 2, 1000)], gale⟩,
    ⟨linScheduleSetSpec, 0x18, params 8 [(1, 1, 1), (4, 1, 3), (6, 1, 10)], gale⟩,
    ⟨linScheduleSelectSpec, 0x18, params 4 [(0, 1, 255)], gale⟩,
    ⟨ethConfigSpec, 0x26, params 8 [(0, 1, 5), (4, 2, 1522)], gale⟩,
    ⟨ethFlowctlSpec, 0x26, params 4 [(0, 1, 2), (1, 1, 255)], gale⟩,
    ⟨t1sPlcaSpec, 0x20, params 4 [(1, 1, 8)], gale⟩,
    ⟨mdioAccessSpec, 0x26, params 8 [(3, 1, 1)], gale⟩,
    ⟨bufAccountSetSpec, 0x100, params 16 [(4, 4, 1000), (8, 4, 126976)], gale⟩,
    ⟨bufFcSetSpec, 0x100, params 12 [(0, 1, 38)], gale⟩,
    ⟨bufQuerySpec, 0x100, zeros 4, gale⟩,
    ⟨queueSetSpec, 0x100, params 12 [(4, 4, 1)], gale⟩,
    ⟨spillQueueSpec, 0x100, params 8 [(0, 1, 38)], gale⟩,
    ⟨cutThroughSetSpec, 0x100, params 4 [(0, 1, 32), (1, 1, 1)], gale⟩ ]

def portAndSwitchCommands2 : List Witness :=
  [ ⟨preemptClassesSpec, 0x100, params 4 [(0, 1, 38), (1, 1, 1)], gale⟩,
    ⟨gateListSetSpec, 0x100, params 40 [(2, 2, 1), (4, 4, 1000), (32, 1, 255), (36, 4, 1000)], gale⟩,
    ⟨gateEnableSpec, 0x100, zeros 4, gale⟩,
    ⟨gateQuerySpec, 0x100, zeros 4, gale⟩,
    ⟨replSetSpec, 0x100, zeros 12, gale⟩,
    ⟨replQuerySpec, 0x100, zeros 4, gale⟩,
    ⟨frerSeqgenSetSpec, 0x100, zeros 4, gale⟩,
    ⟨frerRecoverySetSpec, 0x100, params 8 [(3, 1, 2), (4, 2, 1)], gale⟩,
    ⟨frerQuerySpec, 0x100, zeros 4, gale⟩,
    ⟨frerResetSpec, 0x100, zeros 4, gale⟩,
    ⟨swCountersSpec, 0x100, zeros 4, gale⟩,
    ⟨lnkConfigSpec, 0x32, params 4 [(0, 1, 1), (1, 1, 3)], gale⟩,
    ⟨lnkQuerySpec, 0x32, zeros 0, gale⟩,
    ⟨lnkCountersSpec, 0x33, zeros 0, gale⟩ ]

/-- Every command of Obligations.PortAndSwitchCommandsComplete but those that the next theorems name is accepted by its state. -/
theorem witness_PortAndSwitchCommandsComplete :
    (∀ w ∈ portAndSwitchCommands1, Accepted w.spec 0 0 w.packet w.state) ∧
    (∀ w ∈ portAndSwitchCommands2, Accepted w.spec 0 0 w.packet w.state) := by
  refine ⟨?_, ?_⟩ <;> exact accepted_of_all _ (by decide +kernel)

def tableGatewayAndPolicingCommands1 : List Witness :=
  [ ⟨pduDefineSpec, 0x300, params 48 [(4, 2, 8)], gale⟩,
    ⟨pduRemoveSpec, 0x300, zeros 4, galeWith [(okey .pdu 0, params 48 [(4, 2, 8)])]⟩,
    ⟨pduQuerySpec, 0x300, zeros 4, galeWith [(okey .pdu 0, params 48 [(4, 2, 8)])]⟩,
    ⟨mapAddSpec, 0x300, params 20 [(2, 2, 1), (6, 2, 1), (12, 2, 1)], galeWith [(okey .pdu 0, params 48 [(4, 2, 8)]), (okey .pdu 1, params 48 [(0, 2, 1), (2, 1, 1), (4, 2, 8)])]⟩,
    ⟨mapRemoveSpec, 0x300, params 4 [(2, 2, 1)], gale⟩,
    ⟨mapQuerySpec, 0x300, params 4 [(2, 2, 1)], gale⟩,
    ⟨contDefineSpec, 0x300, params 96 [(2, 1, 2), (4, 1, 38), (6, 2, 64)], gale⟩,
    ⟨contRemoveSpec, 0x300, zeros 4, galeWith [(okey .cont 0, params 96 [(6, 2, 64), (30, 2, 1)])]⟩,
    ⟨contQuerySpec, 0x300, zeros 4, galeWith [(okey .cont 0, params 96 [(6, 2, 64), (30, 2, 1)])]⟩,
    ⟨contFlushSpec, 0x300, zeros 4, galeWith [(okey .cont 0, params 96 [(6, 2, 64), (30, 2, 1)])]⟩,
    ⟨e2eProfileSetSpec, 0x300, params 32 [(0, 1, 1)], gale⟩,
    ⟨e2eComputeSpec, 0x300, params 12 [(0, 1, 1), (2, 2, 4), (8, 4, 67305985)], galeWith [(okey .e2e 1, params 32 [(0, 1, 1)])]⟩,
    ⟨tpChannelSetSpec, 0x300, params 32 [(16, 2, 1785), (4, 1, 0)], galeCan⟩,
    ⟨tpChannelRemoveSpec, 0x300, zeros 4, galeWith [(okey .tpChannel 0, params 32 [(16, 2, 1785)])]⟩,
    ⟨tpSessionQuerySpec, 0x300, zeros 4, gale⟩,
    ⟨tpAbortSpec, 0x300, zeros 4, gale⟩,
    ⟨j1939BindSpec, 0x300, zeros 12, galeCan⟩,
    ⟨j1939UnbindSpec, 0x300, zeros 4, galeWith [(okey .bind 0, params 13 [])]⟩,
    ⟨j1939ClaimsSpec, 0x300, zeros 4, gale⟩,
    ⟨j1939RewriteSetSpec, 0x300, params 16 [(14, 1, 0)], galeCan⟩,
    ⟨j1939OwnAddressSpec, 0x300, params 12 [(1, 1, 253)], galeCan⟩,
    ⟨gwCountersSpec, 0x300, zeros 0, gale⟩,
    ⟨tableCommitSpec, 0x200, zeros 8, gale⟩,
    ⟨tableDiscardSpec, 0x200, zeros 4, gale⟩,
    ⟨tableGenQuerySpec, 0x200, zeros 0, gale⟩ ]

def tableGatewayAndPolicingCommands2 : List Witness :=
  [ ⟨tableRehashSpec, 0x200, zeros 8, gale⟩,
    ⟨sieveRuleSetSpec, 0x200, zeros 88, gale⟩,
    ⟨sieveRuleQuerySpec, 0x200, zeros 4, gale⟩,
    ⟨sievePortSetSpec, 0x200, params 8 [(4, 2, 1)], gale⟩,
    ⟨flowSetSpec, 0x200, params 32 [(16, 2, 65535), (18, 2, 65535), (20, 2, 65535), (22, 2, 65535)], gale⟩,
    ⟨flowQuerySpec, 0x200, zeros 4, gale⟩,
    ⟨fdbAddSpec, 0x200, params 12 [(0, 1, 2), (6, 2, 1)], gale⟩,
    ⟨fdbDeleteSpec, 0x200, params 8 [(6, 2, 1)], galeWith [(okey .fdb (fdbKey 0 1), params 12 [(6, 2, 1)])]⟩,
    ⟨fdbSearchSpec, 0x200, params 8 [(6, 2, 1)], { gale with tables.learned := [(fdbKey 0 1, learned0)] }⟩,
    ⟨fdbNextSpec, 0x200, zeros 8, gale⟩,
    ⟨fdbFlushSpec, 0x200, zeros 8, gale⟩,
    ⟨fdbAgeSetSpec, 0x200, params 12 [(0, 2, 30), (2, 1, 10), (3, 1, 4), (6, 2, 10)], gale⟩,
    ⟨fdbUnlockSpec, 0x200, params 8 [(6, 2, 1)], { gale with tables.learned := [(fdbKey 0 1, learned0)] }⟩,
    ⟨canRouteAddSpec, 0x200, zeros 20, gale⟩,
    ⟨canRouteDeleteSpec, 0x200, params 8 [(4, 4, 291)], galeWith [(okey .canExact (canKey 0 0x123), params 20 [(4, 4, 0x123)])]⟩,
    ⟨canRouteSearchSpec, 0x200, params 8 [(4, 4, 291)], galeWith [(okey .canExact (canKey 0 0x123), params 20 [(4, 4, 0x123)])]⟩,
    ⟨canRouteNextSpec, 0x200, zeros 4, gale⟩,
    ⟨canMaskSetSpec, 0x200, zeros 28, gale⟩,
    ⟨lpmAddSpec, 0x200, params 36 [(0, 1, 4), (1, 1, 32)], gale⟩,
    ⟨lpmDeleteSpec, 0x200, params 20 [(0, 1, 4)], galeWith [(okey .lpm (lpmKey 4 0 0), params 36 [(0, 1, 4)])]⟩,
    ⟨lpmSearchSpec, 0x200, params 20 [(0, 1, 4)], galeWith [(okey .lpm (lpmKey 4 0 0), params 36 [(0, 1, 4)])]⟩,
    ⟨lpmNextSpec, 0x200, zeros 4, gale⟩,
    ⟨maquetteSetSpec, 0x200, params 16 [(4, 4, 10)], gale⟩,
    ⟨tblCountersSpec, 0x200, zeros 0, gale⟩,
    ⟨policerSetSpec, 0x400, params 32 [(4, 4, 1000), (12, 4, 1)], gale⟩ ]

def tableGatewayAndPolicingCommands3 : List Witness :=
  [ ⟨policerQuerySpec, 0x400, zeros 4, { gale with policing.meters := [(0, meter0)] }⟩,
    ⟨policerResetSpec, 0x400, zeros 4, { gale with policing.meters := [(0, meter0)] }⟩,
    ⟨sfSetSpec, 0x400, zeros 16, gale⟩,
    ⟨sgateListSetSpec, 0x400, params 44 [(2, 2, 1), (4, 4, 1000), (32, 1, 1), (36, 4, 1000)], gale⟩,
    ⟨sfQuerySpec, 0x400, zeros 4, gale⟩,
    ⟨sfResetSpec, 0x400, zeros 4, gale⟩,
    ⟨cadenceProfileSetSpec, 0x400, params 32 [(1, 1, 4), (2, 1, 1), (3, 1, 1), (10, 2, 2), (12, 4, 1), (16, 4, 10)], gale⟩,
    ⟨cadenceSetSpec, 0x400, zeros 4, gale⟩,
    ⟨cadenceQuerySpec, 0x400, zeros 4, gale⟩,
    ⟨cadenceRelearnSpec, 0x400, zeros 4, gale⟩,
    ⟨sourceSetSpec, 0x400, params 16 [(3, 1, 255), (6, 2, 1), (12, 4, 10)], gale⟩,
    ⟨containBudgetSetSpec, 0x400, params 8 [(4, 2, 100)], gale⟩,
    ⟨containReleaseSpec, 0x400, zeros 4, { gale with policing.quarantines := [{ kind := 0, target := 0, cause := 1, start := 0, holdMs := 1000, holdStart := 0, again := false, dropped := 0 }] }⟩,
    ⟨containQuerySpec, 0x400, zeros 4, gale⟩,
    ⟨polCountersSpec, 0x400, zeros 0, gale⟩,
    ⟨flowCountersSpec, 0x400, params 4 [(2, 2, 509)], gale⟩ ]

/-- Every command of Obligations.TableGatewayAndPolicingCommandsComplete but those that the next theorems name is accepted by its state. -/
theorem witness_TableGatewayAndPolicingCommandsComplete :
    (∀ w ∈ tableGatewayAndPolicingCommands1, Accepted w.spec 0 0 w.packet w.state) ∧
    (∀ w ∈ tableGatewayAndPolicingCommands2, Accepted w.spec 0 0 w.packet w.state) ∧
    (∀ w ∈ tableGatewayAndPolicingCommands3, Accepted w.spec 0 0 w.packet w.state) := by
  refine ⟨?_, ?_, ?_⟩ <;> exact accepted_of_all _ (by decide +kernel)

def timeKeyAndCipherCommands1 : List Witness :=
  [ ⟨timeQuerySpec, 0x500, zeros 0, gale⟩,
    ⟨timeDomainSetSpec, 0x500, params 32 [(1, 1, 1), (2, 1, 1), (20, 2, 100)], gale⟩,
    ⟨timeRefSelectSpec, 0x500, zeros 4, gale⟩,
    ⟨timeRtcSetSpec, 0x500, zeros 16, gale⟩,
    ⟨legalSourceSetSpec, 0x500, zeros 16, atelier⟩,
    ⟨legalTimeProposeSpec, 0x500, zeros 8, gale⟩,
    ⟨legalTimeForceSpec, 0x500, zeros 12, atelier⟩,
    ⟨tcapSetSpec, 0x500, zeros 4, gale⟩,
    ⟨tcapQuerySpec, 0x500, zeros 4, gale⟩,
    ⟨tcmpSetSpec, 0x500, params 32 [(16, 4, 1000), (20, 4, 8)], gale⟩,
    ⟨motionInputSetSpec, 0x500, params 8 [(1, 1, 1), (2, 2, 100)], gale⟩,
    ⟨motionSourceSetSpec, 0x500, params 20 [(0, 1, 2), (6, 1, 1), (16, 2, 10)], gale⟩,
    ⟨motionPairSetSpec, 0x500, params 12 [(2, 1, 1), (4, 2, 1), (8, 4, 100)], gale⟩,
    ⟨motionQuerySpec, 0x500, zeros 0, gale⟩,
    ⟨timeCountersSpec, 0x500, zeros 0, gale⟩,
    ⟨lcQuerySpec, 0x600, zeros 0, gale⟩,
    ⟨lcAdvanceSpec, 0x600, params 4 [(0, 1, 1)], atelier⟩,
    ⟨lcChallengeSpec, 0x600, zeros 0, atelier⟩,
    ⟨tamperConfigSpec, 0x600, params 4 [(0, 2, 512)], gale⟩,
    ⟨keyDeriveSpec, 0x600, params 64 [(0, 2, 17), (2, 2, 16), (5, 1, 1)], { gale with herax.bank := [(16, { KeySlot.empty with state := .active, level := 3, usage := 4, limit := 5, key := zeros 16 })] }⟩,
    ⟨keyDiscardSpec, 0x600, params 4 [(0, 2, 16)], gale⟩,
    ⟨keyRevokeSpec, 0x600, params 4 [(0, 2, 16)], gale⟩,
    ⟨keyEraseSpec, 0x600, params 4 [(0, 2, 16)], gale⟩,
    ⟨keyQuerySpec, 0x600, params 4 [(0, 2, 4095)], gale⟩,
    ⟨attestSpec, 0x600, zeros 32, { gale with herax.lc := 2 }⟩ ]

def timeKeyAndCipherCommands2 : List Witness :=
  [ ⟨identityQuerySpec, 0x600, zeros 0, { gale with herax.lc := 2 }⟩,
    ⟨sealReadSpec, 0x600, params 8 [(6, 2, 63)], gale⟩,
    ⟨sealAckSpec, 0x600, zeros 8, gale⟩,
    ⟨sealCheckpointSpec, 0x600, zeros 4, gale⟩,
    ⟨sealConfigSpec, 0x600, zeros 4, gale⟩,
    ⟨sealNoteSpec, 0x600, zeros 20, gale⟩,
    ⟨heraxCountersSpec, 0x600, zeros 0, gale⟩,
    ⟨protProfileSetSpec, 0x600, zeros 32, gale⟩,
    ⟨protProfileQuerySpec, 0x600, zeros 4, gale⟩,
    ⟨macsecSecySetSpec, 0x600, params 16 [(0, 1, 32), (5, 1, 1)], gale⟩,
    ⟨macsecRxscSetSpec, 0x600, params 12 [(0, 1, 32), (2, 1, 1)], gale⟩,
    ⟨macsecSaSetSpec, 0x600, params 32 [(0, 1, 38), (4, 2, 16), (6, 1, 1)], galeSecy⟩,
    ⟨macsecTxSwitchSpec, 0x600, params 4 [(0, 1, 38), (1, 1, 1)], galeSecy⟩,
    ⟨macsecQuerySpec, 0x600, params 4 [(0, 1, 49)], gale⟩,
    ⟨secpduFvSetSpec, 0x600, zeros 16, gale⟩,
    ⟨cipherJobSpec, 0x600, params 64 [(0, 1, 4), (2, 2, 16), (8, 4, 16)], galeSecy⟩,
    ⟨cipherJobResumeSpec, 0x600, params 4 [(0, 2, 9)], { gale with cipher.jobs := [{ job0 with st := .stopped }] }⟩,
    ⟨cipherJobCancelSpec, 0x600, params 4 [(0, 2, 9)], { gale with cipher.jobs := [{ job0 with st := .stopped }] }⟩,
    ⟨inbandBindSpec, 0x600, params 20 [(0, 1, 1), (1, 1, 38)], galeSecy⟩,
    ⟨cipherCountersSpec, 0x600, zeros 0, gale⟩ ]

/-- Every command of Obligations.TimeKeyAndCipherCommandsComplete but those that the next theorems name is accepted by its state. -/
theorem witness_TimeKeyAndCipherCommandsComplete :
    (∀ w ∈ timeKeyAndCipherCommands1, Accepted w.spec 0 0 w.packet w.state) ∧
    (∀ w ∈ timeKeyAndCipherCommands2, Accepted w.spec 0 0 w.packet w.state) := by
  refine ⟨?_, ?_⟩ <;> exact accepted_of_all _ (by decide +kernel)

def sleepPairAndSafetyCommands : List Witness :=
  [ ⟨sleepRingSetSpec, 0x800, params 40 [(28, 1, 1)], gale⟩,
    ⟨pnSetSpec, 0x800, zeros 12, gale⟩,
    ⟨sleepHoldSpec, 0x800, zeros 4, gale⟩,
    ⟨wakePortSetSpec, 0x800, zeros 16, gale⟩,
    ⟨wakeFrameSetSpec, 0x800, zeros 16, gale⟩,
    ⟨wakeNetworkSpec, 0x800, zeros 12, gale⟩,
    ⟨sleepQuerySpec, 0x800, zeros 0, gale⟩,
    ⟨consentRingQuerySpec, 0x800, zeros 0, gale⟩,
    ⟨sleepCountersSpec, 0x800, zeros 0, gale⟩,
    ⟨cascadeSetSpec, 0x900, zeros 36, gale⟩,
    ⟨pairConfigSpec, 0x900, zeros 20, gale⟩,
    ⟨pairQuerySpec, 0x900, zeros 0, gale⟩,
    ⟨pairSwitchSpec, 0x900, zeros 4, { gale with pair.st := .active, pair.peerFlags := 4 }⟩,
    ⟨pairHoldSpec, 0x900, zeros 4, gale⟩,
    ⟨pairCountersSpec, 0x900, zeros 0, gale⟩,
    ⟨remoteWriteSpec, 0x900, params 20 [(0, 1, 1), (12, 4, 4)], { gale with pair.routes := params 32 [(1, 1, 1)], links := [(0, linkUp)] }⟩,
    ⟨safetyQuerySpec, 0xa00, zeros 0, gale⟩,
    ⟨leeConfigSpec, 0xa00, zeros 8, gale⟩,
    ⟨leeEnterSpec, 0xa00, zeros 4, gale⟩,
    ⟨leeExitSpec, 0xa00, zeros 4, { gale with mode := .lee }⟩,
    ⟨ledgerReadSpec, 0xa00, params 4 [(2, 2, 127)], gale⟩,
    ⟨ledgerClearSpec, 0xa00, params 4 [(0, 2, 65535), (2, 1, 1)], gale⟩,
    ⟨safetyCountersSpec, 0xa00, zeros 0, gale⟩,
    ⟨remoteReadSpec, 0x900, params 16 [(0, 1, 1), (12, 4, 4)], { gale with pair.routes := params 32 [(1, 1, 1)] }⟩ ]

/-- Every command of Obligations.SleepPairAndSafetyCommandsComplete but those that the next theorems name is accepted by its state. -/
theorem witness_SleepPairAndSafetyCommandsComplete :
    (∀ w ∈ sleepPairAndSafetyCommands, Accepted w.spec 0 0 w.packet w.state) := by
  exact accepted_of_all _ (by decide +kernel)

/-! ### Commands whose checks meet a value that the manual leaves open -/

theorem check_of (o : CmdSpec) (c : Ctx) (s : State) (he : o.early c s = none) (hc : o.conds c s = none) :
    o.check c s = none := by
  simp only [CmdSpec.check, he, hc]

theorem leAt_le4 (v : Nat) (h : v < 2 ^ 32) (bs : Bytes) (o : Nat) (h0 : byteAt bs o = v % 256)
    (h1 : byteAt bs (o + 1) = v / 256 % 256) (h2 : byteAt bs (o + 1 + 1) = v / 256 / 256 % 256)
    (h3 : byteAt bs (o + 1 + 1 + 1) = v / 256 / 256 / 256 % 256) : leAt bs o 4 = v := by
  simp only [leAt, h0, h1, h2, h3]; omega

theorem kcvOf_lt (key : Bytes) : kcvOf key < 2 ^ 32 := by
  have hb : ∀ bs i, byteAt bs i < 256 := fun bs i => (bs.getD i 0).isLt
  simp only [kcvOf, leAt]
  have := hb (cmac key (zeros 16)) 0
  have := hb (cmac key (zeros 16)) (0 + 1)
  have := hb (cmac key (zeros 16)) (0 + 1 + 1)
  have := hb (cmac key (zeros 16)) (0 + 1 + 1 + 1)
  omega

theorem firstOf_none (l : List Check) (h : l.all Option.isNone = true) : firstOf l = none := by
  induction l with
  | nil => rfl
  | cons x l ih =>
    simp only [List.all_cons, Bool.and_eq_true, Option.isNone_iff_eq_none] at h
    rw [h.1]; exact ih h.2

theorem need_none (b : Bool) (st : Nat) (h : b = true) : need b st = none := by rw [h]; rfl
theorem range_none (b : Bool) (o : Nat) (h : b = true) : range b o = none := by rw [h]; rfl

theorem firstOf_cons (x : Check) (l : List Check) (hx : x = none) (h : firstOf l = none) : firstOf (x :: l) = none := by
  rw [hx]; exact h

/-- The checks of steps 4 to 8, and those of step 9. -/
theorem early_of (o : CmdSpec) (c : Ctx) (s : State)
    (h : [need (unitExists c.unit) stBadUnit, need (unitClass o.opcode == unitClass c.unit && o.units c.unit) stBadOpcode,
      need (o.permits s (partner s c.p) c.unit) stDenied, need (o.accepted s) stWrongMode,
      need (c.ps.length % 4 == 0 && o.len c.ps) stBadLength].all Option.isNone = true)
    (hv : o.values c s = none) : o.early c s = none := by
  simp only [List.all_cons, List.all_nil, Bool.and_true, Bool.and_eq_true, Option.isNone_iff_eq_none] at h
  simp only [CmdSpec.early, h, hv, firstOf]

def spillParams : Bytes := params 16 [(4, 4, 16), (8, 8, lpddrBase + 2 ^ 28)]

theorem spill_values (c : Ctx) (s : State) (a : Nat) (h0 : c.upto 0 1 1 = none) (h1 : c.zero 1 3 = none)
    (h2 : c.btw 4 4 16 1024 = none) (ha : c.u64 8 = a) (hm : a % 2 ^ 21 = 0) (hl : lpddrBase ≤ a) (hu : a < lpddrEnd) :
    spillConfigSpec.values c s = none := by
  subst ha
  have h3 : (c.u64 8 % 2 ^ 21 == 0 && isLpddr (c.u64 8)) = true := by
    rw [hm]; simp [isLpddr, hl, hu]
  simp only [spillConfigSpec, h0, h1, h2, range_none _ _ h3, firstOf]

theorem spill_conds (c : Ctx) (s : State) (a : Nat) (h0 : (!anySpilled s) = true) (ha : c.u64 8 = a)
    (hn : c.u32 4 = 16) (hl : lpddrBase + 2 ^ 28 ≤ a) (hu : a + 2 ^ 24 ≤ lpddrEnd) : spillConfigSpec.conds c s = none := by
  have h1 : (decide (lpddrBase + 2 ^ 28 ≤ c.u64 8) && decide (c.u64 8 + c.u32 4 * 2 ^ 20 ≤ lpddrEnd)) = true := by
    subst ha; rw [hn]; exact Bool.and_eq_true_iff.mpr ⟨decide_eq_true hl, decide_eq_true hu⟩
  simp only [spillConfigSpec, need_none _ _ h0, need_none _ _ h1, firstOf]

theorem spill_room (b e : Nat) (h : b + 2 ^ 30 ≤ e) : b ≤ b + 2 ^ 28 ∧ b + 2 ^ 28 < e ∧ b + 2 ^ 28 + 2 ^ 24 ≤ e := by omega

theorem spill_size (b g : Nat) (hb : b = 64 * 2 ^ 30) (hg : 1 ≤ g) : b + 2 ^ 30 ≤ (64 + g) * 2 ^ 30 := by omega

theorem lpddrEnd_ge : lpddrBase + 2 ^ 30 ≤ lpddrEnd :=
  spill_size lpddrBase Config.lpddrGiB (by decide) (Nat.le_add_left 1 (Config.lpddrPick % 8))

theorem witness_spillConfig : Accepted spillConfigSpec 0 0 (cmdPk spillConfigSpec 0x100 spillParams) gale := by
  have hl := spill_room _ _ lpddrEnd_ge
  have hu : (ctxOf spillConfigSpec 0 (cmdPk spillConfigSpec 0x100 spillParams)).u64 8 = lpddrBase + 2 ^ 28 := by decide +kernel
  exact accepted_of_framedB _ _ _ _ _ _ (by decide +kernel) (check_of _ _ _ (early_of _ _ _ (by decide +kernel)
    (spill_values _ _ (lpddrBase + 2 ^ 28) (by decide +kernel) (by decide +kernel) (by decide +kernel) hu (by decide +kernel)
      hl.1 hl.2.1))
    (spill_conds _ _ (lpddrBase + 2 ^ 28) (by decide +kernel) hu (by decide +kernel) (Nat.le_refl _) hl.2.2))

def mapPk : Packet := cmdPk dmmuMapSpec 0xB00 (params 24 [(2, 1, 1), (12, 4, 0x1000), (20, 4, 1)])
def galeCtx : State := { gale with host.ctxs := [(0, { owner := some 0, enabled := true, pages := [] })] }

theorem map_conds (c : Ctx) (s : State)
    (ha : range (c.u64 4 % pageBytes (c.u8 1) == 0 && decide (c.u64 4 + c.u32 20 * pageBytes (c.u8 1) ≤ 2 ^ 39)) 4 = none)
    (hb : range (c.u64 12 % pageBytes (c.u8 1) == 0 && (c.u8 3 == 1 ||
      decide (c.u64 12 + c.u32 20 * pageBytes (c.u8 1) ≤ 2 ^ 40))) 12 = none) (h0 : ownCtx c (c.u8 0) s = none) (h1 : range (c.u8 3 == 1 ||
      !(decide (c.u64 12 < lpddrBase + 2 ^ 28) && decide (lpddrBase < c.u64 12 + c.u32 20 * pageBytes (c.u8 1)))) 12 = none)
    (h2 : range (!mapsOverlap (ctxOfNum s (c.u8 0)) (c.u64 4) (c.u32 20 * pageBytes (c.u8 1))) 4 = none)
    (h3 : pageCount s = 0) (h4 : c.u32 20 = 1) : dmmuMapSpec.conds c s = none := by
  have hr : need (decide (0 + 1 ≤ Config.pageRoom)) stNoRoom = none :=
    need_none _ _ (decide_eq_true (by unfold Config.pageRoom; omega))
  rw [h4] at ha hb h1 h2
  simp only [dmmuMapSpec, ha, hb, h0, h1, h2, h3, h4, hr, firstOf]

theorem witness_dmmuMap : Accepted dmmuMapSpec 0 0 mapPk galeCtx :=
  accepted_of_framedB _ _ _ _ _ _ (by decide +kernel) (check_of _ _ _ (by decide +kernel)
    (map_conds _ _ (by decide +kernel) (by decide +kernel) (by decide +kernel) (by decide +kernel) (by decide +kernel) (by decide +kernel) (by decide +kernel)))

/-- A KEK in the clear with its check value. -/
def kekParams : Bytes := zeros 32 ++ le 4 (kcvOf (zeros 32))
def kekPk : Packet := cmdPk kekLoadClearSpec 0x600 kekParams

theorem witness_kekLoadClear : Accepted kekLoadClearSpec 0 0 kekPk atelier := by
  have hk : (ctxOf kekLoadClearSpec 0 kekPk).raw 0 32 = zeros 32 := by rfl
  have hv : (ctxOf kekLoadClearSpec 0 kekPk).u32 32 = kcvOf (zeros 32) := leAt_le4 _ (kcvOf_lt _) _ _ rfl rfl rfl rfl
  refine accepted_of_framedB _ _ _ _ _ _ (by decide +kernel) (check_of _ _ _ (by decide +kernel) ?_)
  refine firstOf_cons _ _ (by decide +kernel) (firstOf_cons _ _ (need_none _ _ ?_) rfl)
  change (kcvOf ((ctxOf kekLoadClearSpec 0 kekPk).raw 0 32) == (ctxOf kekLoadClearSpec 0 kekPk).u32 32) = true
  rw [hk, hv, beq_self_eq_true]

/-- A new KEK wrapped under one of zeros, with its tag and check value. -/
def newKek : Bytes := padTo 32 (Config.gcmText (zeros 32) (zeros 12) [] (zeros 32) false)
def rotateParams : Bytes :=
  zeros 44 ++ be 16 (Config.gcmTag (zeros 32) (zeros 12) [] newKek).toNat ++ le 4 (kcvOf newKek)
def rotatePk : Packet := cmdPk kekRotateSpec 0x600 rotateParams
def atelierKek : State := { atelier with herax.kek := some (zeros 32) }

theorem witness_kekRotate : Accepted kekRotateSpec 0 0 rotatePk atelierKek := by
  have h1 : (ctxOf kekRotateSpec 0 rotatePk).raw 0 12 = zeros 12 := by rfl
  have h2 : (ctxOf kekRotateSpec 0 rotatePk).raw 12 32 = zeros 32 := by rfl
  have h3 : (ctxOf kekRotateSpec 0 rotatePk).raw 44 16 =
    be 16 (Config.gcmTag (zeros 32) (zeros 12) [] newKek).toNat := by rfl
  have hv : (ctxOf kekRotateSpec 0 rotatePk).u32 60 = kcvOf newKek := leAt_le4 _ (kcvOf_lt _) _ _ rfl rfl rfl rfl
  refine accepted_of_framedB _ _ _ _ _ _ (by decide +kernel) (check_of _ _ _ (by decide +kernel) ?_)
  refine firstOf_cons _ _ (by decide +kernel) (firstOf_cons _ _ (need_none _ _ ?_) rfl)
  change ((gcmOpen (zeros 32) ((ctxOf kekRotateSpec 0 rotatePk).raw 0 12) [] ((ctxOf kekRotateSpec 0 rotatePk).raw 12 32)
    ((ctxOf kekRotateSpec 0 rotatePk).raw 44 16)).filter fun n => kcvOf n == (ctxOf kekRotateSpec 0 rotatePk).u32 60).isSome = true
  rw [h1, h2, h3, hv]
  simp [gcmOpen, newKek, zeros, Option.filter]

/-- A key wrapped under a KEK of zeros: slot 16, TYPE 1, level 3. -/
def stageAad : Bytes := params 16 [(0, 2, 16), (2, 1, 1), (3, 1, 3), (8, 1, 9)]
def newKey : Bytes := padTo 32 (Config.gcmText (zeros 32) (zeros 12) stageAad (zeros 32) false)
def stageParams : Bytes :=
  stageAad ++ le 4 (kcvOf (newKey.take 32)) ++ zeros 44 ++ be 16 (Config.gcmTag (zeros 32) (zeros 12) stageAad newKey).toNat
def stagePk : Packet := cmdPk keyStageSpec 0x600 stageParams
def galeKek : State := { gale with herax.kek := some (zeros 32) }

theorem witness_keyStage : Accepted keyStageSpec 0 0 stagePk galeKek := by
  have h1 : (ctxOf keyStageSpec 0 stagePk).raw 0x14 12 = zeros 12 := by rfl
  have h2 : (ctxOf keyStageSpec 0 stagePk).raw 0 16 = stageAad := by rfl
  have h3 : (ctxOf keyStageSpec 0 stagePk).raw 0x20 32 = zeros 32 := by rfl
  have h4 : (ctxOf keyStageSpec 0 stagePk).raw 0x40 16 =
    be 16 (Config.gcmTag (zeros 32) (zeros 12) stageAad newKey).toNat := by rfl
  have ht : (ctxOf keyStageSpec 0 stagePk).u8 2 = 1 := by rfl
  have hv : (ctxOf keyStageSpec 0 stagePk).u32 0x10 = kcvOf (newKey.take 32) := leAt_le4 _ (kcvOf_lt _) _ _ rfl rfl rfl rfl
  refine accepted_of_framedB _ _ _ _ _ _ (by decide +kernel) (check_of _ _ _ (by decide +kernel) ?_)
  refine firstOf_cons _ _ (by decide +kernel) (firstOf_cons _ _ (by decide +kernel) (firstOf_cons _ _ (by decide +kernel)
    (firstOf_cons _ _ (by decide +kernel) (firstOf_cons _ _ (by decide +kernel) (firstOf_cons _ _ (need_none _ _ ?_) rfl)))))
  have hg : gcmOpen (zeros 32) (zeros 12) stageAad (zeros 32)
      (be 16 (Config.gcmTag (zeros 32) (zeros 12) stageAad newKey).toNat) = some newKey := by
    simp [gcmOpen, newKey, zeros]
  change (match gcmOpen (zeros 32) ((ctxOf keyStageSpec 0 stagePk).raw 0x14 12) ((ctxOf keyStageSpec 0 stagePk).raw 0 16)
      ((ctxOf keyStageSpec 0 stagePk).raw 0x20 32) ((ctxOf keyStageSpec 0 stagePk).raw 0x40 16) with
    | none => none
    | some plain =>
      let key := plain.take (keyLen ((ctxOf keyStageSpec 0 stagePk).u8 2))
      if ((ctxOf keyStageSpec 0 stagePk).u8 2 != 0 || zeroAt plain 16 16) &&
        kcvOf key == (ctxOf keyStageSpec 0 stagePk).u32 0x10 then some key else none).isSome = true
  rw [h1, h2, h3, h4, hg, ht, hv]
  simp [keyLen]

/-- A slot whose key of zeros waits for its commit. -/
def galePend : State := { gale with
  herax.bank := [(16, { key4 with pending := some { key := zeros 16, kcv := kcvOf (zeros 16), parent := 0xFFFF } })] }
def commitPk : Packet := cmdPk keyCommitSpec 0x600 ([16, 0, 0, 0] ++ le 4 (kcvOf (zeros 16)))

theorem witness_keyCommit : Accepted keyCommitSpec 0 0 commitPk galePend := by
  have hv : (ctxOf keyCommitSpec 0 commitPk).u32 4 = kcvOf (zeros 16) := leAt_le4 _ (kcvOf_lt _) _ _ rfl rfl rfl rfl
  refine accepted_of_framedB _ _ _ _ _ _ (by decide +kernel) (check_of _ _ _ (by decide +kernel) ?_)
  refine firstOf_cons _ _ (by decide +kernel) (firstOf_cons _ _ (by decide +kernel)
    (firstOf_cons _ _ (need_none _ _ ?_) rfl))
  change (kcvOf (zeros 16) == (ctxOf keyCommitSpec 0 commitPk).u32 4) = true
  rw [hv, beq_self_eq_true]

/-- The data of an image slot, written. -/
def writePk : Packet := cmdPk imageWriteSpec 0x700 (params 20 [(0, 1, 1), (8, 4, 4)])

theorem witness_imageWrite : Presented imageWriteSpec 0 0 writePk atelier := by
  obtain ⟨h1, h2, h3, h4, h5⟩ := presented_of_framedB imageWriteSpec 0 0 0x700 (params 20 [(0, 1, 1), (8, 4, 4)]) atelier
    (by decide +kernel)
  refine ⟨h1, h2, h3, h4, h5, ?_⟩
  change imageWriteSpec.check (ctxOf imageWriteSpec 0 writePk) (entered 0 writePk (atTime 0 atelier)) = none ∨ 
    imageWriteSpec.check (ctxOf imageWriteSpec 0 writePk) (entered 0 writePk (atTime 0 atelier)) = _
  simp only [CmdSpec.check, imageWriteSpec]
  by_cases h : Config.freeValue 1 (entered 0 writePk (atTime 0 atelier)).free == 0
  · left; simp only [h]; rfl
  · right; simp only [h]; rfl

/-! ### States of the statements about events -/

/-- A held Ethernet frame of 60 bytes from gport 38, and the state that holds it as frame 5. -/
def ethFrame : Frame := Frame.arrived none (zeros 60) 38 0
def held0 : HeldFrame :=
  { frame := ethFrame, src := 38, cls := 0, res := 0, shared := 1, segs := [(0, 1)], at_ := 0, refs := 1, driven := false,
    faulted := false, receiving := false, secured := none }
def galeHeld : State := { gale with switch.held := [(5, held0)] }

/-- The context of partner 0: 2 MiB of host memory at 0 and 2 MiB of unit registers above. -/
def ctx0 : Context :=
  { owner := some 0, enabled := true
    pages := [(0, { big := true, perm := 3, host := true, pa := 0, pinned := true }),
              (0x200000, { big := true, perm := 3, host := false, pa := 0x0800000000, pinned := true })] }

/-- The PCIe link up, one descriptor of 64 bytes in host memory, and a ring of partner 0. -/
def galeHost (r : Ring) : State := { gale with
  host.linkUp := true, host.ctxs := [(0, ctx0)], host.mem := [(8, 64), (10, 3)], host.rings := [(0, r)] }
def txRing : Ring := { ring0 with st := 1, tail := 1 }
def rxRing : Ring := { ring0 with st := 1, tail := 1, raw := params 28 [(1, 1, 1), (3, 1, 3), (6, 2, 256)] }
def galeRx : State := { galeHost rxRing with switch.held := [(5, held0)], switch.ringIn := [(0, [5])] }
def window0 (mode : Nat) : Window := { owner := 0, raw := params 24 [(2, 1, 20), (3, 1, mode), (16, 4, 0x200000)] }
def bridgeWrite (posted spi : Bool) : BridgeWrite :=
  { partner := 0, window := 0, va := 0x200000, data := [1, 2, 3, 4], posted := posted, spi := spi }
def galeWindow (mode : Nat) (w : List BridgeWrite) : State := { galeHost ring0 with
  host.windows := [(0, window0 mode)], host.writes := w }
def galeHosts : State := { gale with kernel.partners := [(0, { galeP with transport := 2 })] }
def kept0 : Kept := { addr := 0, len := 4, data := [], till := 0, sensitive := none }

/-- A CAN frame of 8 bytes with identifier 0x123. -/
def can8 : CanFrame :=
  { id := 0x123, ide := false, rtr := false, fmt := 0, brs := false, esi := false, sec := false, enh := false, dlc := 8,
    dlen := 8, af := 0, sdt := 0, vcid := 0, data := zeros 8 }
def canUp : CanPort := { CanPort.reset with integrated := true, trxMode := 0 }
def canHeld (sof : Option Tick) : CanHeld := { fid := 5, tc := 0, frame := can8, sof := sof }
def heldCan : HeldFrame := { held0 with frame := Frame.arrived (some can8) [] 0 0, src := 0 }
def linUp : LinPort := { LinPort.reset with en := true, commander := true, syncSeen := true }
def linRow : LinEntry := { fid := 3, kind := 0, delayMs := 10, resolve := 0 }
def ethUp (g : Nat) : EthPort := { EthPort.reset g with lock := true, prst := false, preempt := true }

/-- Gport `g` enabled, every CAN, LIN and Ethernet port as given. -/
def galePort (g : Nat) (c : CanPort) (l : LinPort) (e : EthPort) : State := { gale with
  ports.common := [(g, { PortCommon.reset with admin := true, wakeSrc := 3 })], ports.can := [(g, c)],
  ports.lin := [(g, l)], ports.eth := [(g, e)] }
def galeCan0 (c : CanPort) : State := { galePort 0 c linUp (ethUp 0) with switch.held := [(5, heldCan)] }
def galeLin (l : LinPort) : State := galePort 24 canUp l (ethUp 24)
def galeEth (g : Nat) (e : EthPort) : State := galePort g canUp linUp e
/-- Gports 38 and 39 cut through, and flow 0 leads to gport 39. -/
def galeCut : State := { galeEth 38 (ethUp 38) with
  switch.cutThrough := [(38, true), (39, true)]
  tables.gens := [{ num := 1, commitAt := 0, objs := [(okey .flow 0, params 32 [(6, 2, 39), (16, 4, 0xFFFFFFFF), (20, 4, 0xFFFFFFFF)])] }] }

/-- Frame 5 waits as class 0 of gport `g`, admitted now. -/
def rep5 : Replica := { fid := 5, mark := false, spilled := false }
def heldNow : HeldFrame := { held0 with at_ := gale.now }
def heldCanNow : HeldFrame := { heldCan with at_ := gale.now }
def heldLin : HeldFrame := { heldNow with
  frame := Frame.arrived (some { can8 with id := 3, fmt := 3 }) [] 24 0, src := 24 }
def queued (g : Nat) (h : HeldFrame) (s : State) : State := { s with
  switch.held := [(5, h)], switch.queues := [(8 * g, [rep5])] }
def linkFull : Link := { linkUp with credits := [(0, 1000)] }
def sending5 : Sending :=
  { fid := 5, tc := 0, bytes := zeros 200, start := 0, begun := true, fragments := 0, sent := 0, slot := none }
def gateList : GateList :=
  { clock := 0, cycleNs := 1000, baseNs := 0, changeNs := 0
    entries := [{ states := 0, interval := 250, octetMax := 0 }, { states := 1, interval := 250, octetMax := 0 }], raw := [] }
def gateRun : GateRun := { GateRun.none with oper := some gateList, entry := 7 }
def gateWait : GateRun := { GateRun.none with admin := some gateList, waiting := some 0 }
def galeGate (r : GateRun) : State := { galeEth 38 (ethUp 38) with switch.gates := [(38, r)] }
def galeSpill (r : Replica) (h : HeldFrame) : State := { gale with
  switch.held := [(5, h)], switch.queues := [(8 * 38, [r])], switch.spillOn := true, switch.spillMib := 16
  switch.spillBase := 0x1010000000, switch.spillUsed := 1, switch.queueCfg := [(8 * 38, { QueueCfg.reset 38 with hi := 10, lo := 5 })] }

def async0 (op : Nat) (ps : Bytes) : AsyncCmd := { partner := 0, opcode := op, unit := 0, tag := 7, seq := 1, params := ps, started := 0 }
def galeAsync (op : Nat) (ps : Bytes) : State := { gale with kernel.asyncs := [async0 op ps] }
def slot0 : Slot := { key := fdbKey 0 1, use := .learned }
def galeLearned : State := { gale with
  tables.learned := [(fdbKey 0 1, learned0)], tables.fdbSlots := [(8, slot0)], tables.epoch := 20 }
/-- Both buckets of the key under seed 1, full of slots that cannot move. -/
def fullWay : Tab Slot := [0, 1].foldl (fun m c => [0, 1, 2, 3].foldl (fun m w =>
  tset m (slotPos fdbShape c (bucketOf fdbShape 1 slot0.key c) w) slot0) m) []
def rehash0 : Rehash := { table := 0, seed := 1, placed := [] }
/-- Context 0 over LPDDR5 unit registers at 2 MiB, where the host table reads as zeros and ones. -/
def galeMaq (n : Nat) : State := { galeHost ring0 with
  tables.gens := [{ num := n, commitAt := 0, objs := [] }]
  tables.maqEnable := true, tables.maqPeriodMs := 10, tables.maqBase := 0x1000 }
def quarantine0 (again : Bool) : Quarantine :=
  { kind := 0, target := 0, cause := 1, start := 0, holdMs := 1000, holdStart := 0, again := again, dropped := 0 }
def cad0 : CadFlow := { CadFlow.fresh 0 with state := .monitoring, period := 1000 }
def galeCad : State := { gale with
  policing.flows := [(0, cad0)]
  tables.gens := [{ num := 1, commitAt := 0, objs := [(okey .flow 0, params 32 [(3, 1, 4)])] }] }
def builtPdu (due deferred : Option Tick) : BuiltPdu :=
  { image := zeros 8, counter := 0, lastTrig := 0, lastEmit := none, due := due, deferred := deferred }
/-- PDU 0 with a role and a mode. -/
def galePdu (role mode : Nat) : State := galeWith [(okey .pdu 0, params 48 [(2, 1, role), (3, 1, mode), (4, 2, 8), (0x1C, 2, 10)])]
def session0 (w : TpWait) (proto : Nat) : TpSession :=
  { channel := 0, raw := params 32 [(2, 1, proto)], peer := 0, dst := 0, pgn := 0, wait := w, total := 20, data := zeros 20, done := 8, seq := 1,
    block := 0, maxPackets := 0, stmin := 0, waits := 0, timer := 0, gen := 1, trig := 0, res := 0, shared := 0, segs := [] }
def follow0 : Follow := { binding := 0, gport := 0, old := 1, new := 2, name := 3, stamp := 0, deferred := false }

def dom0 : Domain :=
  { Domain.reset with state := .locked, raw := params 32 [(1, 1, 1), (2, 1, 1), (20, 2, 100)], identity := false, utc := some 37 }
def galeDom (x : Domain) : State := { gale with
  time.domains := [(0, x)], time.legalCfg := params 16 [(0, 1, 1)] }
/-- Legal time one second before midnight. -/
def leapEve (x : Domain) : State := { galeDom x with
  it := 0, clk := 0, time.legal := 86399000 * msFine, time.legalAnchor := 0, time.leapDay := 5 }

def msg0 (job : Option (Nat × Nat)) : LaneMsg :=
  { job := job, gport := 38, flow := 0, slot := 16, urgency := 1, hardened := false, begun := false }
def jobIn (st : JobState) (status : Nat) : Job := { job0 with st := st, status := status }
def galeJob (st : JobState) (status : Nat) : State := { gale with cipher.jobs := [jobIn st status] }
/-- A job with its key that an uncorrectable error meets. -/
def jobKey : Job := { job0 with raw := params 64 [(8, 4, 64)], key := some (zeros 16) }
def inbandFrame0 (op : Nat) : Frame :=
  { Frame.arrived none (zeros 6 ++ zeros 6 ++ [0x88, 0xB5, BitVec.ofNat 8 op, 0, 0, 0]) 38 0 with verified := true, sc := some 0 }
/-- Partner 0 in-band at gport 38, and a frame for CPUP. -/
def galeInband (f : Frame) : State := { gale with
  kernel.partners := [(0, { galeP with transport := 5 })]
  cipher.inband := [(0, params 20 [(1, 1, 38)])], switch.cpuIn := [f] }

def turn (m : Mode) : Transition := { target := m, cause := 1, source := 0, started := 0, partner := 0 }
/-- The supplies are up and the main domain waits to start, from Calm or Zephyr. -/
def waiting (m : Mode) (x : Option Transition) : State := { State.reset with
  mode := m, power.mainEn := true, power.pwrGood := true, power.transition := x, power.kept := m == .zephyr }
def turning (old new : Mode) : State := { gale with mode := old, power.transition := some (turn new) }
def entry0 : LedgerEntry :=
  { id := 0, code := 2, unit := 0, object := 0, first := 0, severity := 1, persisted := false, restored := false, w1c := false,
    count := 1, detail := zeros 8 }
def galeLedger : State := { gale with kernel.ledger.entries := [entry0], kernel.ledger.unpersisted := [0], kernel.ledger.nextId := 1 }

/-- A consent ring with the given bytes of its setting, in a state. -/
def galeRing0 (st : SleepSt) (node : Nat) (present : List Nat) : State := { gale with
  sleep.st := st, sleep.raw := params 40 [(0, 2, node), (4, 8, 2 ^ 38 + 2 ^ 39), (24, 4, 60)], sleep.present := present }
/-- The message of node 9 that joins. -/
def joinMsg : Bytes := [0x11, 0, 0, 9, 0xFF, 0xFF, 0, 0]
def tc100 (at0 : Tick) : Tc10 := { written := at0, status := 0 }
def pktIn (typ : Nat) (good : Bool) : LinkPacket :=
  { typ := typ, vc := 0, lseq := 1, lack := 0, src := 1, dst := 0xFF, hops := 31, pflags := 0, arg := 0, payload := zeros 60, good := good }
def galeLink (x : Link) : State := { gale with links := [(0, x)] }
def remote0 : Remote := { partner := 0, pkt := none, params := zeros 16, tag := 0, started := 0, retried := true }
def galePair (st : PairSt) : State := { gale with pair.st := st }

/-! ### Values from the spec's tables and examples -/

/-- The check values of R308. -/
theorem test_e2eCrc_checkValues : ([(0, 0x4B), (1, 0xDF), (2, 0x29B1), (3, 0xCBF43926), (4, 0xE3069283), (5, 0x995DC9BBDF1939FA)] :
    List (Nat × Nat)).all (fun e => e2eCrc (params 32 [(1, 1, e.1), (2, 1, 16)])
      [0x31, 0x32, 0x33, 0x34, 0x35, 0x36, 0x37, 0x38, 0x39] == e.2) = true := by decide +kernel

/-- The ingress stamp of the example under R225: 400,002,000 − 232 − 412 ns on GE2. -/
theorem test_ingressStamp : ingressStamp { galeEth 44 { ethUp 44 with speed := 2 } with
    clk := 200001000, it := 400002000 * 2 ^ 32
    ports.common := [(44, { PortCommon.reset with admin := true, rxExt := 412 })] } 44 200001000 false = 400001356 / 2 := by
  decide +kernel

/-- The speed of the example under R523: 16 pulses in 93,750,000 ns at K = 8,000 are 72 km/h. -/
theorem test_pulseSpeed : pulseSpeed { Pulse.off with raw := params 8 [(2, 2, 8000)], edges := 16, first := 0, last := 46875000 } 50000000 =
    72000000 := by decide +kernel

/-- The unit blocks of the example under R38. -/
theorem test_unitBase : unitBase 0x0004 = 0x0800040000 ∧ unitBase 0x0100 = 0x0801000000 ∧ unitBase 0x0A00 = 0x080A000000 := by decide

/-! ### The machine and the command runner -/

def echoPk : Packet := cmdPk echoSpec 0xB00 [1, 2, 3, 4]
def echo0 : Instr := .echo 0 0 echoPk

theorem witness_StepRunsTheFrontCommand : ∃ (c : Instr) (rest : List Instr) (s : State), s.pending = c :: rest :=
  ⟨echo0, [.porst 0 false], { gale with pending := [echo0, .porst 0 false] }, rfl⟩

theorem witness_EmptyQueueIdles : ∃ s : State, s.pending = [] := ⟨State.reset, rfl⟩

theorem witness_StepKeepsInv : ∃ s s' : State, StateInv s ∧ step s = .next s' ∧ s'.mode = .breeze :=
  ⟨{ turning .gale .breeze with pending := [.modeTransitionDone 0] }, _, by unfold StateInv rateOk modeOk; decide +kernel, rfl,
   by decide +kernel⟩

theorem witness_CommandsLeaveTheQueue : ∃ (i : Instr) (s s' : State), exec i s = .next s' := ⟨echo0, gale, _, rfl⟩

theorem witness_ModeChangesOnlyAsAllowed : ∃ (i : Instr) (s s' : State), exec i s = .next s' ∧ s'.mode ≠ s.mode :=
  ⟨.modeTransitionDone 0, turning .gale .breeze, _, rfl, by decide +kernel⟩

theorem witness_OnlyTheServoWritesRateAdj : ∃ (i : Instr) (s s' : State), exec i s = .next s' ∧ s'.rateAdj ≠ s.rateAdj :=
  ⟨.porst 0 true, { gale with rateAdj := 5 }, _, rfl, by decide +kernel⟩

theorem witness_NoCommandSetsTheInternalTime : ∃ (i : Instr) (s s' : State), exec i s = .next s' ∧ s'.it ≠ s.it :=
  ⟨.wipeComplete 1000000000001, gale, _, rfl, by decide +kernel⟩

theorem witness_CommandsWaitToBeFetched : ∃ (i : Instr) (o : CmdSpec) (t p : Nat) (k : Packet) (s : State),
    commandOf i = some (o, t, p, k) ∧ canFetch p k (atTime t s) = false :=
  ⟨echo0, echoSpec, 0, 0, echoPk, State.reset, rfl, by decide +kernel⟩

theorem witness_PacketsFailTheFirstChecks :
    (∃ (i : Instr) (o : CmdSpec) (t p : Nat) (k : Packet) (s : State), commandOf i = some (o, t, p, k) ∧
      canFetch p k (atTime t s) = true ∧ 4076 < k.plen.toNat) ∧
    (∃ (i : Instr) (o : CmdSpec) (t p : Nat) (k : Packet) (s : State), commandOf i = some (o, t, p, k) ∧
      canFetch p k (atTime t s) = true ∧ k.plen.toNat ≤ 4076 ∧ crcGood o.opcode k = false) ∧
    (∃ (i : Instr) (o : CmdSpec) (t p : Nat) (k : Packet) (s : State), commandOf i = some (o, t, p, k) ∧
      canFetch p k (atTime t s) = true ∧ k.plen.toNat ≤ 4076 ∧ crcGood o.opcode k = true ∧ k.version ≠ 1) :=
  ⟨⟨.echo 0 0 { echoPk with plen := 4077 }, echoSpec, 0, 0, _, gale, rfl, by decide +kernel, by decide +kernel⟩,
   ⟨.echo 0 0 { echoPk with crc := 0 }, echoSpec, 0, 0, _, gale, rfl, by decide +kernel, by decide +kernel, by decide +kernel⟩,
   ⟨.echo 0 0 (sign echoSpec { echoPk with version := 2 }), echoSpec, 0, 0, _, gale, rfl, by decide +kernel, by decide +kernel,
    crcGood_sign _ _, by decide +kernel⟩⟩

/-- `PORT_ADMIN` of gport 38 with a value that is not 0 or 1. -/
def badPk : Packet := cmdPk portAdminSpec 38 (params 4 [(0, 1, 2)])
def adminPk (flags txn : Nat) (v : Nat) : Packet :=
  sign portAdminSpec { cmdPk portAdminSpec 38 (params 4 [(0, 1, v)]) with
    flags := BitVec.ofNat 8 flags, txn := BitVec.ofNat 16 txn }

theorem witness_RejectionsApplyNothing : ∃ (i : Instr) (o : CmdSpec) (t p : Nat) (k : Packet) (s : State) (r : Reject),
    commandOf i = some (o, t, p, k) ∧ Framed o t p k s ∧ bit k.flags.toNat 0 = false ∧
      o.check (ctxOf o p k) (entered p k (atTime t s)) = some r :=
  ⟨.portAdmin 0 0 badPk, portAdminSpec, 0, 0, badPk, gale, { status := 0x0103, off := 0 }, rfl,
   framed_sign _ _ _ _ _ (by decide +kernel), by decide +kernel, by decide +kernel⟩

def galeTxn : State := { gale with
  kernel.partners := [(0, { galeP with txn := some { id := 5, failed := false, members := [], last := 0 } })] }
def txn5 : Txn := { id := 5, failed := false, members := [], last := 0 }

theorem witness_ChecksWithoutEffect :
    (∃ (i : Instr) (o : CmdSpec) (t p : Nat) (k : Packet) (s : State), commandOf i = some (o, t, p, k) ∧
      Framed o t p k s ∧ bit k.flags.toNat 0 = false ∧ o.check (ctxOf o p k) (entered p k (atTime t s)) = none ∧
      (o.change = true ∧ (partner s p).txn ≠ none ∨ o.async = true ∧ 16 ≤ s.kernel.asyncs.length)) ∧
    (∃ (i : Instr) (o : CmdSpec) (t p : Nat) (k : Packet) (s : State), commandOf i = some (o, t, p, k) ∧
      Framed o t p k s ∧ bit k.flags.toNat 0 = false ∧ o.check (ctxOf o p k) (entered p k (atTime t s)) = none ∧
      (o.change = true → (partner s p).txn = none) ∧ (o.async = true → s.kernel.asyncs.length < 16) ∧
      bit k.flags.toNat 2 = true) :=
  ⟨⟨.portAdmin 0 0 (adminPk 0 0 1), portAdminSpec, 0, 0, adminPk 0 0 1, galeTxn, rfl,
    framed_sign _ _ _ _ _ (by decide +kernel), by decide +kernel, by decide +kernel, by decide +kernel⟩,
   ⟨.portAdmin 0 0 (adminPk 4 0 1), portAdminSpec, 0, 0, adminPk 4 0 1, gale, rfl,
    framed_sign _ _ _ _ _ (by decide +kernel), by decide +kernel, by decide +kernel, by decide +kernel, by decide +kernel,
    by decide +kernel⟩⟩

theorem witness_MembersAreHeld :
    (∃ (i : Instr) (o : CmdSpec) (t p : Nat) (k : Packet) (s : State) (x : Txn), commandOf i = some (o, t, p, k) ∧
      Framed o t p k s ∧ bit k.flags.toNat 0 = true ∧ bit k.flags.toNat 1 = false ∧ (partner s p).txn = some x ∧
      x.id = k.txn.toNat ∧ x.failed = false ∧ x.members.length < 256 ∧
      (x.members.map fun m => m.params.length).sum + (ctxOf o p k).ps.length ≤ 65536 ∧
      o.check (ctxOf o p k) (entered p k (atTime t s)) = none) ∧
    (∃ (i : Instr) (o : CmdSpec) (t p : Nat) (k : Packet) (s : State) (x : Txn) (r : Reject),
      commandOf i = some (o, t, p, k) ∧
      Framed o t p k s ∧ bit k.flags.toNat 0 = true ∧ bit k.flags.toNat 1 = false ∧ (partner s p).txn = some x ∧
      x.id = k.txn.toNat ∧ x.failed = false ∧ x.members.length < 256 ∧
      (x.members.map fun m => m.params.length).sum + (ctxOf o p k).ps.length ≤ 65536 ∧
      o.check (ctxOf o p k) (entered p k (atTime t s)) = some r) ∧
    (∃ (i : Instr) (o : CmdSpec) (t p : Nat) (k : Packet) (s : State) (x : Txn), commandOf i = some (o, t, p, k) ∧
      Framed o t p k s ∧ bit k.flags.toNat 0 = true ∧ bit k.flags.toNat 1 = false ∧ (partner s p).txn = some x ∧
      x.id ≠ k.txn.toNat ∧ o.check (ctxOf o p k) (entered p k (atTime t s)) = none) :=
  ⟨⟨.portAdmin 0 0 (adminPk 1 5 1), portAdminSpec, 0, 0, adminPk 1 5 1, galeTxn, txn5, rfl,
    framed_sign _ _ _ _ _ (by decide +kernel), by decide +kernel⟩,
   ⟨.portAdmin 0 0 (adminPk 1 5 2), portAdminSpec, 0, 0, adminPk 1 5 2, galeTxn, txn5, { status := 0x0103, off := 0 }, rfl,
    framed_sign _ _ _ _ _ (by decide +kernel), by decide +kernel⟩,
   ⟨.portAdmin 0 0 (adminPk 1 6 1), portAdminSpec, 0, 0, adminPk 1 6 1, galeTxn, txn5, rfl,
    framed_sign _ _ _ _ _ (by decide +kernel), by decide +kernel⟩⟩

theorem exists_ok {α β : Type} (x : Except α (State × β)) (h : x.isOk = true) : ∃ y out, x = .ok (y, out) := by
  cases x with
  | ok a => exact ⟨a.1, a.2, rfl⟩
  | error e => simp [Except.isOk, Except.toBool] at h

theorem exists_error {α β γ δ : Type} (x : Except (α × β × γ) δ) (h : x.isOk = false) : ∃ n r e, x = .error (n, r, e) := by
  cases x with
  | ok a => simp [Except.isOk, Except.toBool] at h
  | error e => exact ⟨e.1, e.2.1, e.2.2, rfl⟩

/-- The last member of transaction 5, one that passes and one that fails. -/
def last5 (v : Nat) : State := entered 0 (adminPk 3 5 v) (atTime 0 galeTxn)
def member5 (v : Nat) : Member :=
  { opcode := portAdminSpec.opcode, unit := 38, tag := 7, seq := 1, params := (ctxOf portAdminSpec 0 (adminPk 3 5 v)).ps }

theorem witness_TransactionsApplyWholly :
    (∀ v, v = 1 ∨ v = 2 → commandOf (.portAdmin 0 0 (adminPk 3 5 v)) = some (portAdminSpec, 0, 0, adminPk 3 5 v) ∧
      portAdminSpec.opcode ≠ 0x0911 ∧ Framed portAdminSpec 0 0 (adminPk 3 5 v) galeTxn ∧ (adminPk 3 5 v).flags = 3 ∧
      (partner galeTxn 0).txn = some txn5 ∧ txn5.id = (adminPk 3 5 v).txn.toNat ∧ txn5.failed = false ∧
      txn5.members.length < 256 ∧
      (txn5.members.map fun m => m.params.length).sum + (ctxOf portAdminSpec 0 (adminPk 3 5 v)).ps.length ≤ 65536) ∧
    (∃ y' out, applyMembers specOf 0 0 (txn5.members ++ [member5 1]) [] (last5 1) = .ok (y', out)) ∧
    (∃ n r e, applyMembers specOf 0 0 (txn5.members ++ [member5 2]) [] (last5 2) = .error (n, r, e)) := by
  refine ⟨fun v hv => ?_, ?_, ?_⟩
  · rcases hv with rfl | rfl <;> exact ⟨rfl, by decide +kernel, framed_sign _ _ _ _ _ (by decide +kernel), by decide +kernel⟩
  · exact exists_ok _ (by decide +kernel)
  · exact exists_error _ (by decide +kernel)

def remotePk : Packet := cmdPk remoteReadSpec 0x900 (params 16 [(0, 1, 1), (12, 4, 4)])
def galeRoute : State := { gale with pair.routes := params 32 [(1, 1, 1)], links := [(0, linkFull)] }

theorem witness_RemoteReadWaitsForItsCompletion : ∃ (t p : Nat) (k : Packet) (s : State) (r : Remote),
    Accepted remoteReadSpec t p k s ∧
      (remoteReadSpec.apply (ctxOf remoteReadSpec p k) (entered p k (atTime t s))).1.pair.remote = some r :=
  ⟨0, 0, remotePk, galeRoute, _, accepted_of_framedB _ _ _ _ _ _ (by decide +kernel) (by decide +kernel), rfl⟩

/-! ### Rules -/

def reply0 : Reply :=
  { version := 1, flags := 0x80, opcode := 0x0B01, tag := 7, unit := 0x0B00, status := 0, seq := 1, plen := 0, params := [] }
/-- The reply ring is full. -/
def fullRing : State := { gale with kernel.partners := [(0, { galeP with rplTail := 64 })] }
def record0 : EventRecord := EventRecord.idle 0
/-- The event queue of partner 0 with WR, its records and the count of lost ones. -/
def galeEvents (wr : Half) (l : List EventRecord) (lost : Nat) : State := { gale with
  kernel.partners := [(0, { galeP with evq.wr := wr, evq.records := l, evq.lost := lost })] }
/-- A full ledger, the first entry of a severity. -/
def fullLedger (sev : Nat) : State := { gale with
  kernel.ledger.entries := { entry0 with severity := sev } :: List.replicate 255 entry0 }

def galeSeq : State := { gale with kernel.partners := [(0, { galeP with seqAny := false, seqNext := 9 })] }

theorem witness_BadSequenceKeepsTheExpectedOne : ∃ (i : Instr) (o : CmdSpec) (t p : Nat) (k : Packet) (s : State),
    commandOf i = some (o, t, p, k) ∧ canFetch p k (atTime t s) = true ∧ k.plen.toNat ≤ 4076 ∧
      crcGood o.opcode k = true ∧ headerCheck o k = none ∧ (partner s p).seqAny = false ∧
      k.seq ≠ (partner s p).seqNext ∧ (partner s p).transport ≠ 5 :=
  ⟨echo0, echoSpec, 0, 0, echoPk, galeSeq, rfl, by decide +kernel, by decide +kernel, crcGood_cmdPk _ _ _, by decide +kernel⟩

theorem witness_FetchAndReplyRoom :
    (∃ (i : Instr) (o : CmdSpec) (t p : Nat) (k : Packet) (s : State), commandOf i = some (o, t, p, k) ∧
      ((partner s p).reqTail - (partner s p).reqHead).toNat < packetSlots k.plen.toNat) ∧
    (∃ (i : Instr) (o : CmdSpec) (t p : Nat) (k : Packet) (s : State), commandOf i = some (o, t, p, k) ∧
      (partner s p).replyRoom = 0) ∧
    (∃ (p : Nat) (r : Reply) (s : State), packetSlots r.params.length ≤ (partner s p).replyRoom ∧
      (partner s p).waiting = []) ∧
    (∃ (p : Nat) (r : Reply) (s : State), (partner s p).replyRoom < packetSlots r.params.length) :=
  ⟨⟨echo0, echoSpec, 0, 0, echoPk, State.reset, rfl, by decide +kernel⟩,
   ⟨echo0, echoSpec, 0, 0, echoPk, fullRing, rfl, by decide +kernel⟩,
   ⟨0, reply0, gale, by decide +kernel⟩, ⟨0, reply0, fullRing, by decide +kernel⟩⟩

theorem witness_EventWindowReads :
    (∃ (_ p : Nat) (s : State), tsclkRuns s = true ∧ (partner s p).attached = true ∧
      (partner s p).evq.rd = (partner s p).evq.wr) ∧
    (∃ (_ p : Nat) (s : State) (r : EventRecord), tsclkRuns s = true ∧ (partner s p).attached = true ∧
      (partner s p).evq.rd ≠ (partner s p).evq.wr ∧
      (partner s p).evq.records[((partner s p).evq.rd - (partner s p).evq.rel).toNat]? = some r) ∧
    ∃ k, k < 7 :=
  ⟨⟨0, 0, gale, by decide +kernel⟩, ⟨0, 0, galeEvents 1 [record0] 0, record0, by decide +kernel⟩, ⟨6, by decide⟩⟩

theorem witness_EventsNeedRoom :
    let free (q : EvQueue) (wr : Half) := (wr - q.rel).toNat < 2 * q.half ∧ (wr.toNat % q.half = 0 → (wr - q.rel).toNat ≤ q.half)
    (∃ s : State, (partner s 0).attached = true ∧ ¬ free (partner s 0).evq (partner s 0).evq.wr) ∧
    (∃ s : State, (partner s 0).attached = true ∧ free (partner s 0).evq (partner s 0).evq.wr ∧ (partner s 0).evq.lost = 0) ∧
    (∃ s : State, (partner s 0).attached = true ∧ free (partner s 0).evq (partner s 0).evq.wr ∧ (partner s 0).evq.lost ≠ 0 ∧
      free (partner s 0).evq ((partner s 0).evq.wr + 1)) ∧
    (∃ s : State, (partner s 0).attached = true ∧ free (partner s 0).evq (partner s 0).evq.wr ∧ (partner s 0).evq.lost ≠ 0 ∧
      ¬ free (partner s 0).evq ((partner s 0).evq.wr + 1)) ∧
    (∃ (s : State) (ptr : Half), (partner s 0).attached = true ∧ (partner s 0).evq.inRange ptr = true) :=
  ⟨⟨galeEvents 64 [] 0, by decide +kernel⟩, ⟨gale, by decide +kernel⟩, ⟨galeEvents 1 [] 2, by decide +kernel⟩,
   ⟨galeEvents 63 [] 2, by decide +kernel⟩, ⟨gale, 0, by decide +kernel⟩⟩

theorem witness_ArbitersGrantRoundRobin : [1, 3].Pairwise (· < ·) ∧ 7 < 8 := by decide

theorem witness_LedgerRecordsOccurrences :
    (∃ (e : LedgerEntry) (s : State), (s.kernel.ledger.entries.map (·.id)).Nodup ∧
      s.kernel.ledger.entries.find? (fun e => e.same 2 0 0 (padTo 8 (zeros 8))) = some e) ∧
    (∃ s : State, (∀ e ∈ s.kernel.ledger.entries, ¬ (e.code = 9 ∧ e.unit = 0 ∧ e.object = 0)) ∧
      s.kernel.ledger.entries.length < 256) ∧
    (∃ (s : State) (a : List LedgerEntry) (e : LedgerEntry) (b : List LedgerEntry),
      s.kernel.ledger.entries = a ++ e :: b ∧ e.severity = 0 ∧ (∀ x ∈ a, x.severity ≠ 0) ∧
      256 ≤ s.kernel.ledger.entries.length ∧ (∀ x ∈ s.kernel.ledger.entries, x.code ≠ 9)) ∧
    (∃ s : State, 256 ≤ s.kernel.ledger.entries.length ∧ (∀ x ∈ s.kernel.ledger.entries, x.severity ≠ 0) ∧
      ∀ x ∈ s.kernel.ledger.entries, x.code ≠ 9) :=
  ⟨⟨entry0, galeLedger, by decide +kernel⟩, ⟨galeLedger, by decide +kernel⟩,
   ⟨fullLedger 0, [], { entry0 with severity := 0 }, List.replicate 255 entry0, by decide +kernel⟩,
   ⟨fullLedger 1, by decide +kernel⟩⟩

/-! ### Frames -/

/-- A command outside a transaction whose partner is not in-band completes. -/
def outside (i : Instr) (o : CmdSpec) (k : Packet) (s : State) : Prop :=
  commandOf i = some (o, 0, 0, k) ∧ bit k.flags.toNat 0 = false ∧ (partner s 0).transport ≠ 5 ∧ ∃ s', exec i s = .next s'

theorem witness_QueriesChangeOnlyTheService : outside echo0 echoSpec echoPk gale ∧ echoSpec.change = false ∧
    echoSpec.opcode ≠ 0x0631 :=
  ⟨⟨rfl, by decide +kernel, by decide +kernel, _, rfl⟩, by decide +kernel⟩

theorem witness_StagedChangesTouchOnlyTheStaging :
    outside (.flowSet 0 0 echoPk) flowSetSpec echoPk gale ∧ flowSetSpec.opcode = 0x0221 :=
  ⟨⟨rfl, by decide +kernel, by decide +kernel, _, rfl⟩, rfl⟩

theorem witness_SettingsTouchOnlyTheirUnit :
    (outside (.portTsCorr 0 0 echoPk) portTsCorrSpec echoPk gale ∧ portTsCorrSpec.opcode = 0x0004) ∧
    (outside (.queueSet 0 0 echoPk) queueSetSpec echoPk gale ∧ queueSetSpec.opcode = 0x0104) ∧
    (outside (.policerSet 0 0 echoPk) policerSetSpec echoPk gale ∧ policerSetSpec.opcode = 0x0401) ∧
    (outside (.tcapSet 0 0 echoPk) tcapSetSpec echoPk gale ∧ tcapSetSpec.opcode = 0x0521) ∧
    (outside (.tamperConfig 0 0 echoPk) tamperConfigSpec echoPk gale ∧ tamperConfigSpec.opcode = 0x0604) ∧
    (outside (.macsecSecySet 0 0 echoPk) macsecSecySetSpec echoPk gale ∧ macsecSecySetSpec.opcode = 0x0691) ∧
    (outside (.modeRequest 0 0 echoPk) modeRequestSpec echoPk gale ∧ modeRequestSpec.opcode = 0x0701) ∧
    (outside (.pnSet 0 0 echoPk) pnSetSpec echoPk gale ∧ pnSetSpec.opcode = 0x0802) ∧
    (outside (.ringConfig 0 0 echoPk) ringConfigSpec echoPk gale ∧ ringConfigSpec.opcode = 0x0B41) := by
  refine ⟨?_, ?_, ?_, ?_, ?_, ?_, ?_, ?_, ?_⟩ <;>
    exact ⟨⟨rfl, by decide +kernel, by decide +kernel, _, rfl⟩, rfl⟩

theorem witness_EchoReturnsItsParameters : ∃ (t p : Nat) (k : Packet) (s : State), Accepted echoSpec t p k s ∧
    (partner s p).transport ≠ 5 ∧ packetSlots k.plen.toNat ≤ (partner s p).replyRoom :=
  ⟨0, 0, echoPk, gale, accepted_of_framedB _ _ _ _ _ _ (by decide +kernel) (by decide +kernel), by decide +kernel⟩

theorem witness_DoorbellsMoveTheirPointers :
    (∃ (p : Nat) (v : Word) (ptr : Half) (s : State),
      let x := partner s p
      tsclkRuns s = true ∧ (partner s p).attached = true ∧ v.extractLsb' 0 16 = ptr ∧ v.extractLsb' 16 16 = ~~~ptr ∧ x.waiting = []) ∧
    (∃ (p : Nat) (v : Word) (ptr : Half) (s : State),
      let x := partner s p
      let q := x.evq
      let n := (ptr - q.rel).toNat
      tsclkRuns s = true ∧ (partner s p).attached = true ∧ v.extractLsb' 0 16 = ptr ∧ v.extractLsb' 16 16 = ~~~ptr ∧ n ≤ (q.wr - q.rel).toNat) ∧
    (∃ (p : Nat) (v : Word) (ptr : Half) (s : State),
      let x := partner s p
      let q := x.evq
      tsclkRuns s = true ∧ (partner s p).attached = true ∧ v.extractLsb' 0 16 = ptr ∧ v.extractLsb' 16 16 = ~~~ptr ∧ ptr = q.mark ∧ x.transport ≠ 1) ∧
    (∃ (p : Nat) (v : Word) (ptr : Half) (s : State),
      let x := partner s p
      let q := x.evq
      tsclkRuns s = true ∧ (partner s p).attached = true ∧ v.extractLsb' 0 16 = ptr ∧ v.extractLsb' 16 16 = ~~~ptr ∧ ptr = q.mark ∧ x.transport = 1) :=
  ⟨⟨0, 0xFFBF0040, 0x40, gale, by decide +kernel⟩,
   ⟨0, 0xFFFF0000, 0, gale, by decide +kernel⟩,
   ⟨0, 0xFFFF0000, 0, ({ gale with kernel.partners := [(0, { galeP with transport := 2 })] }), by decide +kernel⟩,
   ⟨0, 0xFFFF0000, 0, gale, by decide +kernel⟩⟩

theorem witness_BadDoorbells :
    (∃ (t : Nat) (p : Nat) (v : Word) (s : State) (i : Instr),
      let ptr := v.extractLsb' 0 16
      tsclkRuns s = true ∧ (partner s p).attached = true ∧ v.extractLsb' 16 16 ≠ ~~~ptr ∧ (i = Instr.hostCmdDb t p v ∨ i = .hostRplDb t p v)) ∧
    (∃ (t : Nat) (p : Nat) (v : Word) (s : State) (i : Instr),
      let ptr := v.extractLsb' 0 16
      tsclkRuns s = true ∧ (partner s p).attached = true ∧ v.extractLsb' 16 16 ≠ ~~~ptr ∧ (i = Instr.hostEvqMarkDb t p v ∨ i = .hostEvqRewindDb t p v ∨ i = .hostEvqReleaseDb t p v)) ∧
    (∃ (t : Nat) (p : Nat) (v : Word) (s : State) (i : Instr),
      let x := partner s p
      let ptr := v.extractLsb' 0 16
      tsclkRuns s = true ∧ (partner s p).attached = true ∧ v.extractLsb' 16 16 = ~~~ptr ∧ ((x.evq.wr - x.evq.rel).toNat < (ptr - x.evq.rel).toNat ∧ (i = .hostEvqMarkDb t p v ∨ i = .hostEvqReleaseDb t p v) ∨ ptr ≠ x.evq.mark ∧ i = .hostEvqRewindDb t p v)) :=
  ⟨⟨0, 0, 0x00000001, gale, (Instr.hostCmdDb 0 0 1), by decide +kernel⟩,
   ⟨0, 0, 1, gale, (Instr.hostEvqMarkDb 0 0 1), by decide +kernel⟩,
   ⟨0, 0, 0xFFFE0001, gale, (Instr.hostEvqMarkDb 0 0 0xFFFE0001), by decide +kernel⟩⟩

theorem witness_ServiceEvents :
    (∃ (t : Nat) (p : Nat) (s : State) (y : _),
      let s0 := atTime t s
      let x := partner s p
      tsclkRuns s = true ∧ x.txn = some y ∧ y.last + ticksPerSec ≤ s0.now) ∧
    (∃ (t : Nat) (p : Nat) (s : State) (f : _),
      let s0 := atTime t s
      let x := partner s p
      let q := x.evq
      tsclkRuns s = true ∧ q.firstUnsig = some f ∧ f + us q.coalUs ≤ s0.now) ∧
    (∃ (s : State) (g : _),
      tsclkRuns s = true ∧ g < 50) :=
  ⟨⟨0, 0, ({ gale with kernel.partners := [(0, { galeP with txn := some { id := 5, failed := false, members := [], last := 0 } })] }), _, by decide +kernel, rfl, by decide +kernel⟩,
   ⟨0, 0, ({ gale with kernel.partners := [(0, { galeP with evq.firstUnsig := some 0 })] }), _, by decide +kernel, rfl, by decide +kernel⟩,
   ⟨gale, 49, by decide +kernel⟩⟩

theorem witness_RingEventsComplete :
    (∃ (n : Nat) (s : State) (r : Ring) (v : Word) (ptr : Half),
      tsclkRuns s = true ∧ ringOf s n = some r ∧ ringServed s r = true ∧ v.extractLsb' 0 16 = ptr ∧ v.extractLsb' 16 16 = ~~~ptr ∧ (ptr - r.done).toNat ≤ min r.size 65535) ∧
    (∃ (n : Nat) (s : State) (r : Ring) (v : Word),
      tsclkRuns s = true ∧ ringOf s n = some r ∧ ringServed s r = true ∧ r.st = 1 ∧ v.extractLsb' 16 16 ≠ ~~~v.extractLsb' 0 16) ∧
    (∃ (t : Nat) (n : Nat) (s : State) (r : Ring) (ds : List Bytes) (c : Credit),
      let s0 := atTime t s
      tsclkRuns s = true ∧ txPick s0 = some (n, r) ∧ txNext s0 r = .frame ds ∧ r.fetch = none ∧ txCredit s0 r (descTotal ds) = some c) ∧
    (∃ (t : Nat) (n : Nat) (s : State) (r : Ring) (fid : Nat) (h : HeldFrame),
      let s0 := atTime t s
      tsclkRuns s = true ∧ rxPick s0 = some (n, r) ∧ r.writing = none ∧ rxHead s0 n = some (fid, h) ∧ r.need (rxBytes s0 n h).length ≤ min r.size 65535) ∧
    (∃ (t : Nat) (n : Nat) (s : State) (r : Ring) (f : _),
      let s0 := atTime t s
      tsclkRuns s = true ∧ ringOf s n = some r ∧ r.firstUnsig = some f ∧ f + us r.coalUs ≤ s0.now) :=
  ⟨⟨0, (galeHost ring0), ring0, 0xFFF70008, 8, by decide +kernel⟩,
   ⟨0, (galeHost { ring0 with st := 1 }), ({ ring0 with st := 1 }), 0, by decide +kernel⟩,
   ⟨0, 0, (galeHost txRing), txRing, _, _, by decide +kernel, by decide +kernel, rfl, by decide +kernel, rfl⟩,
   ⟨0, 0, galeRx, rxRing, _, _, by decide +kernel, by decide +kernel, by decide +kernel, rfl, by decide +kernel⟩,
   ⟨0, 0, (galeHost { ring0 with firstUnsig := some 0 }), ({ ring0 with firstUnsig := some 0 }), 0, by decide +kernel⟩⟩

theorem witness_PcieEventsComplete :
    (∃ (s : State),
      tsclkRuns s = true ∧ s.host.linkUp = false ∧ s.host.perst = false) ∧
    (∃ (s : State) (o : _) (n : _),
      tsclkRuns s = true ∧ s.host.linkUp = true ∧ o + n ≤ 0x10000) ∧
    (∃ (s : State) (o : _),
      tsclkRuns s = true ∧ s.host.linkUp = true ∧ o + 4 ≤ 0x10000 ∧ o % 4 = 0) :=
  ⟨⟨gale, by decide +kernel⟩,
   ⟨({ gale with host.linkUp := true }), 0xFFFC, 4, by decide +kernel⟩,
   ⟨({ gale with host.linkUp := true }), 0xFFFC, by decide +kernel⟩⟩

theorem witness_WindowEventsComplete :
    (∃ (s : State) (k : _) (n : _),
      tsclkRuns s = true ∧ s.host.linkUp = true ∧ k + n ≤ 0x1000 ∧ k < 0x1000) ∧
    (∃ (t : Nat) (s : State) (o : _) (n : _) (i : _) (w : _) (d : Bytes) (y : _),
      let s0 := atTime t s
      tsclkRuns s = true ∧ s.host.linkUp = true ∧ o + n ≤ 0x0FFF0000 ∧ 0 < n ∧ windowAt s 1 o n = some (i, w) ∧ w.prefetched = false ∧ tget? s.host.prefetch w.owner = none ∧ s.host.writes = [] ∧ s.host.abortNext = [] ∧ readPieces false w.owner w.ctx (piecesOf (w.target + (o - w.offset)) n) s0 = (0, d, y)) ∧
    (∃ (s : State) (o : _) (d : Bytes) (i : _) (w : _),
      tsclkRuns s = true ∧ s.host.linkUp = true ∧ o + d.length ≤ 0x0FFF0000 ∧ 0 < d.length ∧ windowAt s 1 o d.length = some (i, w) ∧ w.mode ≠ 0 ∧ s.host.writes = [] ∧ tget? s.host.prefetch w.owner = none) ∧
    (∃ (t : Nat) (s : State) (p : _) (b : _),
      let s0 := atTime t s
      tsclkRuns s = true ∧ tget? s.host.prefetch p = some b ∧ b.last + us 2 ≤ s0.now ∧ b.lines = []) ∧
    (∃ (t : Nat) (s : State) (x : _) (y : _) (rest : _),
      let s0 := atTime t s
      tsclkRuns s = true ∧ s.host.writes = x :: rest ∧ x.posted = true ∧ (performWrite x { s0 with host.writes := rest } = (0, y))) ∧
    (∃ (t : Nat) (s : State) (x : _) (y : _) (rest : _),
      let s0 := atTime t s
      tsclkRuns s = true ∧ s.host.writes = x :: rest ∧ x.posted = false ∧ x.spi = false ∧ (performWrite x { s0 with host.writes := rest } = (0, y))) ∧
    (∃ (t : Nat) (s : State) (x : _) (y : _) (st : _) (rest : _),
      let s0 := atTime t s
      tsclkRuns s = true ∧ s.host.writes = x :: rest ∧ x.posted = false ∧ x.spi = true ∧ (performWrite x { s0 with host.writes := rest } = (st, y))) :=
  ⟨⟨({ gale with host.linkUp := true }), 0xFFF, 1, by decide +kernel⟩,
   ⟨0, (galeWindow 0 []), 0, 4, 0, (window0 0), ((readPieces false 0 0 [(0x200000, 4)] (atTime 0 (galeWindow 0 []))).2.1), ((readPieces false 0 0 [(0x200000, 4)] (atTime 0 (galeWindow 0 []))).2.2), by decide +kernel⟩,
   ⟨(galeWindow 1 []), 0, ([1, 2, 3, 4]), _, _, by decide +kernel, by decide +kernel, by decide +kernel, by decide +kernel, rfl, by decide +kernel, by decide +kernel, by decide +kernel⟩,
   ⟨0, ({ gale with host.prefetch := [(0, { window := 0, next := 0, lines := [], last := 0 })] }), 0, _, by decide +kernel, rfl, by decide +kernel, by decide +kernel⟩,
   ⟨0, (galeWindow 1 [bridgeWrite true false]), (bridgeWrite true false), _, [], by decide +kernel, by decide +kernel, by decide +kernel, rfl⟩,
   ⟨0, (galeWindow 1 [bridgeWrite false false]), (bridgeWrite false false), _, [], by decide +kernel, by decide +kernel, by decide +kernel, by decide +kernel, rfl⟩,
   ⟨0, (galeWindow 1 [bridgeWrite false true]), (bridgeWrite false true), _, _, [], by decide +kernel, by decide +kernel, by decide +kernel, by decide +kernel, rfl⟩⟩

theorem witness_OctalSpiEventsComplete :
    (∃ (p : Nat) (s : State) (a : _) (n : _),
      tsclkRuns s = true ∧ p < 8 ∧ (partner s p).transport = 2 ∧ tget? s.host.kept p = none ∧ s.host.writes = [] ∧ a + n ≤ 0x10000) ∧
    (∃ (p : Nat) (s : State) (a : _) (d : Bytes),
      tsclkRuns s = true ∧ p < 8 ∧ (partner s p).transport = 2 ∧ tget? s.host.kept p = none ∧ s.host.writes = [] ∧ 0x20000 ≤ a ∧ a + d.length ≤ 0x28000 ∧ a + d.length ≤ 0x20000 + 64 * (partner s p).slots) ∧
    (∃ (t : Nat) (p : Nat) (s : State) (k : _),
      tsclkRuns s = true ∧ tget? s.host.kept p = some k ∧ k.till ≤ (atTime t s).now ∧ k.sensitive = none) :=
  ⟨⟨0, galeHosts, 0xFFFC, 4, by decide +kernel⟩,
   ⟨0, galeHosts, 0x20000, ([1, 2]), by decide +kernel⟩,
   ⟨0, 0, ({ galeHosts with host.kept := [(0, kept0)] }), kept0, by decide +kernel⟩⟩

theorem witness_CanEventsComplete :
    (∃ (g : Nat) (s : State),
      let x := canOf s g
      tsclkRuns s = true ∧ g < 24 ∧ (common s g).admin = true ∧ x.integrated = false) ∧
    (∃ (g : Nat) (s : State) (c : CanFrame),
      let x := canOf s g
      tsclkRuns s = true ∧ g < 24 ∧ (common s g).admin = true ∧ operUp s g = true ∧ x.deaf = false ∧ x.config.getLsbD 2 = false ∧ canRow x c 0 = none) ∧
    (∃ (g : Nat) (s : State),
      let x := canOf s g
      tsclkRuns s = true ∧ g < 24 ∧ (common s g).admin = true ∧ operUp s g = true ∧ x.deaf = false ∧ canMode s g ≠ 0) ∧
    (∃ (t : Nat) (g : Nat) (s : State) (h : _) (tdc : _) (f : _),
      let s0 := atTime t s
      let x := canOf s g
      let y := measureTdc g h.frame tdc (bump (portCtr g 0x0140) s0)
      let z := canConfine g (fun z => { z with txErr := z.txErr - 1 }) (setCan g { canOf y g with held := none } y)
      tsclkRuns s = true ∧ g < 24 ∧ x.held = some h ∧ h.sof.isSome = true ∧ heldOf s h.fid = some f ∧ heldOf z h.fid = some f) ∧
    (∃ (g : Nat) (s : State),
      let x := canOf s g
      tsclkRuns s = true ∧ g < 24 ∧ (common s g).admin = true ∧ x.busOff = true ∧ x.recovering = true) ∧
    (∃ (t : Nat) (g : Nat) (s : State) (v : Nat),
      let s0 := atTime t s
      let x := canOf s g
      tsclkRuns s = true ∧ g < 24 ∧ x.trailer = true ∧ x.lastValid = some v ∧ v + ms (x.config.toNat / 2 ^ 16) ≤ s0.now) ∧
    (∃ (t : Nat) (g : Nat) (s : State) (e : Nat),
      let s0 := atTime t s
      let x := canOf s g
      tsclkRuns s = true ∧ g < 24 ∧ x.gtsEnd = some e ∧ e ≤ s0.clk ∧ x.trxMode = 3) ∧
    (∃ (g : Nat) (s : State),
      let x := canOf s g
      tsclkRuns s = true ∧ g < 24 ∧ (common s g).admin = true ∧ x.opmodeNext = none ∧ x.trxNext = none) ∧
    (∃ (g : Nat) (s : State),
      tsclkRuns s = true ∧ g < 24 ∧ bit (common s g).wakeSrc 0 = true ∧ s.mode = .gale) :=
  ⟨⟨0, (galeCan0 { canUp with integrated := false }), by decide +kernel⟩,
   ⟨0, (galeCan0 canUp), can8, by decide +kernel⟩,
   ⟨0, (galeCan0 { canUp with opmode := 1 }), by decide +kernel⟩,
   ⟨0, 0, (galeCan0 { canUp with held := some (canHeld (some 0)) }), (canHeld (some 0)), 0, heldCan, by decide +kernel⟩,
   ⟨0, (galeCan0 { canUp with busOff := true, recovering := true }), by decide +kernel⟩,
   ⟨0, 0, (galeCan0 { canUp with trailer := true, lastValid := some 0 }), 0, by decide +kernel⟩,
   ⟨0, 0, (galeCan0 { canUp with trxMode := 3, gtsEnd := some 0 }), 0, by decide +kernel⟩,
   ⟨0, (galeCan0 canUp), by decide +kernel⟩,
   ⟨0, (galeCan0 canUp), by decide +kernel⟩⟩

theorem witness_LinEventsComplete :
    (∃ (t : Nat) (g : Nat) (s : State) (a : Nat) (i : _) (k : _),
      let s0 := atTime t s
      let x := linOf s g
      tsclkRuns s = true ∧ 24 ≤ g ∧ g < 32 ∧ x.active = some a ∧ x.commander = true ∧ operUp s g = true ∧ standbyPort s g = false ∧ tget? s.sleep.linAfter g = none ∧ x.slotEnd ≤ s0.now ∧ x.select = none ∧ linNext x a = some (i, k)) ∧
    (∃ (g : Nat) (s : State) (id : Nat),
      let x := linOf s g
      tsclkRuns s = true ∧ 24 ≤ g ∧ g < 32 ∧ (common s g).admin = true ∧ x.en = true ∧ x.commander = false ∧ linPublished x id = none) ∧
    (∃ (g : Nat) (s : State) (id : Nat),
      let x := linOf s g
      tsclkRuns s = true ∧ 24 ≤ g ∧ g < 32 ∧ operUp s g = true ∧ x.awaiting = some id) ∧
    (∃ (g : Nat) (s : State),
      let x := linOf s g
      tsclkRuns s = true ∧ 24 ≤ g ∧ g < 32 ∧ operUp s g = true ∧ x.awaiting.isSome = true) ∧
    (∃ (g : Nat) (s : State),
      let x := linOf s g
      tsclkRuns s = true ∧ 24 ≤ g ∧ g < 32 ∧ x.enNext = none) :=
  ⟨⟨0, 24, (galeLin { linUp with active := some 1, tables := [(1, [linRow])] }), 1, _, _, by decide +kernel, by decide +kernel, by decide +kernel, by decide +kernel, by decide +kernel, by decide +kernel, by decide +kernel, by decide +kernel, by decide +kernel, by decide +kernel, rfl⟩,
   ⟨24, (galeLin { linUp with commander := false }), 3, by decide +kernel⟩,
   ⟨24, (galeLin { linUp with awaiting := some 3 }), 3, by decide +kernel⟩,
   ⟨24, (galeLin { linUp with awaiting := some 3 }), by decide +kernel⟩,
   ⟨24, (galeLin linUp), by decide +kernel⟩⟩

theorem witness_EthernetEventsComplete :
    (∃ (g : Nat) (s : State) (d : Bytes),
      tsclkRuns s = true ∧ 32 ≤ g ∧ g < 50 ∧ operUp s g = true ∧ receivingOf s g = none ∧ ethRow s g d 0 = 0 ∧ beAt d 0 6 ≠ 0x0180C2000001) ∧
    (∃ (g : Nat) (s : State) (d : Bytes),
      tsclkRuns s = true ∧ 32 ≤ g ∧ g < 50 ∧ operUp s g = true ∧ receivingOf s g = none ∧ ethRow s g d 4 = 4) ∧
    (∃ (t : Nat) (g : Nat) (s : State) (d : Bytes) (cap : _) (lane4 : Bool),
      let s0 := atTime t s
      tsclkRuns s = true ∧ 32 ≤ g ∧ g < 50 ∧ operUp s g = true ∧ receivingOf s g = none ∧ byteAt d 6 % 2 = 0 ∧ beAt d 0 6 ≠ 0x0180C2000001 ∧ mayCut s0 g (Frame.arrived none d g (ingressStamp s0 g cap lane4)) = true) ∧
    (∃ (g : Nat) (s : State) (lock : _),
      let x := ethOf s g
      tsclkRuns s = true ∧ 32 ≤ g ∧ g < 50 ∧ (common s g).admin = true ∧ x.lock ≠ lock) ∧
    (∃ (g : Nat) (s : State) (ok : Bool),
      let x := ethOf s g
      tsclkRuns s = true ∧ 32 ≤ g ∧ g < 50 ∧ g < 38 ∧ (common s g).admin = true ∧ x.plcaOk ≠ ok) ∧
    (∃ (g : Nat) (s : State),
      let x := ethOf s g
      tsclkRuns s = true ∧ 32 ≤ g ∧ g < 50 ∧ x.preemptSt = 1) ∧
    (∃ (t : Nat) (g : Nat) (s : State),
      let s0 := atTime t s
      let x := ethOf s g
      tsclkRuns s = true ∧ 32 ≤ g ∧ g < 50 ∧ (common s g).admin = true ∧ x.prst = true ∧ x.prstSince + us x.prstUs ≤ s0.clk) ∧
    (∃ (g : Nat) (s : State) (src : _),
      tsclkRuns s = true ∧ 32 ≤ g ∧ g < 50 ∧ bit (common s g).wakeSrc src = true ∧ s.mode = .gale ∧ 38 ≤ g) ∧
    (∃ (g : Nat) (s : State) (src : _),
      tsclkRuns s = true ∧ 32 ≤ g ∧ g < 50 ∧ bit (common s g).wakeSrc src = true ∧ s.mode = .gale ∧ g < 38) :=
  ⟨⟨38, (galeEth 38 (ethUp 38)), (zeros 60), by decide +kernel⟩,
   ⟨38, (galeEth 38 (ethUp 38)), (zeros 60), by decide +kernel⟩,
   ⟨0, 38, galeCut, (zeros 60), 0, false, by decide +kernel⟩,
   ⟨38, (galeEth 38 (ethUp 38)), false, by decide +kernel⟩,
   ⟨32, (galeEth 32 (ethUp 32)), true, by decide +kernel⟩,
   ⟨38, (galeEth 38 { ethUp 38 with preemptSt := 1 }), by decide +kernel⟩,
   ⟨0, 38, (galeEth 38 { ethUp 38 with prst := true }), by decide +kernel⟩,
   ⟨38, (galeEth 38 (ethUp 38)), 1, by decide +kernel⟩,
   ⟨37, (galeEth 37 (ethUp 37)), 0, by decide +kernel⟩⟩

theorem witness_EgressSelectCompletes :
    (∃ (t : Nat) (g : Nat) (s : State) (c : _) (r : _) (h : _) (k : _),
      let s0 := atTime t s
      let y := sweepPort g s0
      tsclkRuns s = true ∧ g < 24 ∧ canServes y g = true ∧ (canOf y g).held = none ∧ pick y g (fun c h => decide (0 ≤ c) && (match h.frame.bus with | some k => gateFits y g c y.now (canTmax (canOf y g) k) | none => gateOpen y g c y.now)) = some (c, r, h) ∧ h.faulted = false ∧ h.frame.bus = some k ∧ busProtected r.fid h g k y = (some k, y) ∧ canSendable (canOf y g) k = true) ∧
    (∃ (t : Nat) (g : Nat) (s : State) (c : _) (r : _) (h : _) (k : _),
      let s0 := atTime t s
      let y := sweepPort g s0
      tsclkRuns s = true ∧ 24 ≤ g ∧ g < 32 ∧ downForEgress y g = false ∧ pick y g (fun _ _ => true) = some (c, r, h) ∧ h.faulted = false ∧ h.frame.bus = some k ∧ busProtected r.fid h g k y = (some k, y) ∧ h.frame.txRing = none ∧ linSendable (linOf y g) k = true ∧ (((linOf y g).commander = true → inActiveTable (linOf y g) k.id = true)) ∧ tget? (linOf y g).buffers k.id = none) ∧
    (∃ (t : Nat) (g : Nat) (s : State) (c : _) (r : _) (h : _),
      let s0 := atTime t s
      let y := sweepPort g s0
      let z := frameBoundary g y
      tsclkRuns s = true ∧ 32 ≤ g ∧ g < 50 ∧ downForEgress y g = false ∧ tget? y.switch.sending g = none ∧ (ethOf z g).orders = [] ∧ tget? z.switch.suspended g = none ∧ pick z g (fun c h => ethReady z g c h && !paused z g c z.now) = some (c, r, h)) ∧
    (∃ (t : Nat) (g : Nat) (cap : Nat) (s : State) (c : _) (r : _) (h : _) (k : _),
      let s0 := atTime t s
      let y := sweepPort g s0
      tsclkRuns s = true ∧ k < 2 ∧ g = 50 + k ∧ downForEgress y g = false ∧ pick y g (fun c h => !h.receiving && lnkMaySend y k (framePacket y k c h.frame (lnkEgress s0 cap))) = some (c, r, h) ∧ h.faulted = false) ∧
    (∃ (t : Nat) (g : Nat) (s : State) (c : _) (r : _) (h : _) (n : _) (x : _),
      let s0 := atTime t s
      let y := sweepPort g s0
      tsclkRuns s = true ∧ (g = 52 ∨ g = 53) ∧ pick y g (fun _ _ => true) = some (c, r, h) ∧ h.faulted = false ∧ n = h.frame.ring.getD (frameFlow y h.frame).ring ∧ ringOf y n = some x ∧ x.rx = true ∧ x.st ≠ 0) ∧
    (∃ (t : Nat) (g : Nat) (s : State) (c : _) (r : _) (h : _),
      let s0 := atTime t s
      let y := sweepPort g s0
      tsclkRuns s = true ∧ g = 54 ∧ pick y g (fun _ _ => true) = some (c, r, h) ∧ h.faulted = false) :=
  ⟨⟨0, 0, (queued 0 heldCanNow (galeCan0 canUp)), 0, rep5, heldCanNow, can8, by decide +kernel⟩,
   ⟨0, 24, (queued 24 heldLin (galeLin { linUp with commander := false })), 0, rep5, heldLin, ({ can8 with id := 3, fmt := 3 }), by decide +kernel⟩,
   ⟨0, 38, (queued 38 heldNow (galeEth 38 (ethUp 38))), 0, rep5, heldNow, by decide +kernel⟩,
   ⟨0, 50, 0, (queued 50 heldNow ({ gale with links := [(0, linkFull)] })), 0, rep5, heldNow, 0, by decide +kernel⟩,
   ⟨0, 52, (queued 52 heldNow (galeHost rxRing)), 0, rep5, heldNow, 0, rxRing, by decide +kernel⟩,
   ⟨0, 54, (queued 54 heldNow (gale)), 0, rep5, heldNow, by decide +kernel⟩⟩

theorem witness_TransmissionAndGateEventsComplete :
    (∃ (g : Nat) (s : State) (x : _) (h : _),
      tsclkRuns s = true ∧ 38 ≤ g ∧ tget? s.switch.sending g = some x ∧ heldOf s x.fid = some h ∧ h.receiving = false ∧ x.fragments = 0 ∧ x.slot = none) ∧
    (∃ (t : Nat) (g : Nat) (s : State) (h : _),
      let s0 := atTime t s
      tsclkRuns s = true ∧ g < 24 ∧ (canOf s g).held = some h ∧ h.sof = none ∧ gateFits s0 g h.tc s0.now (canTmax (canOf s g) h.frame) = false) ∧
    (∃ (t : Nat) (g : Nat) (s : State) (st : Bool) (l : _),
      let s0 := atTime t s
      tsclkRuns s = true ∧ (gateOf s st g).oper = some l ∧ (gateOf s st g).next ≤ s0.now) ∧
    (∃ (t : Nat) (g : Nat) (s : State) (st : Bool) (l : _) (a : Nat),
      let s0 := atTime t s
      tsclkRuns s = true ∧ (gateOf s st g).admin = some l ∧ (gateOf s st g).waiting = some a ∧ applyDue s0 l a ≤ s0.now) ∧
    (∃ (t : Nat) (g : Nat) (s : State) (st : Bool) (i : _) (e : _) (a : Nat),
      let s0 := atTime t s
      tsclkRuns s = true ∧ gateEntryAt (gateOf s st g) s0.now = some (i, e, a) ∧ i ≠ (gateOf s st g).entry) ∧
    (∃ (t : Nat) (g : Nat) (s : State) (x : _) (n : Nat),
      let s0 := atTime t s
      tsclkRuns s = true ∧ 32 ≤ g ∧ g < 50 ∧ tget? s.switch.sending g = some x ∧ tget? s.switch.suspended g = none ∧ preemptable s0 g x.tc = true ∧ 60 ≤ n ∧ x.sent + n + 64 ≤ x.bytes.length + 4 ∧ (ethOf s g).orders ≠ []) :=
  ⟨⟨38, ({ queued 38 heldNow (galeEth 38 (ethUp 38)) with switch.sending := [(38, sending5)] }), sending5, heldNow, by decide +kernel⟩,
   ⟨0, 0, ({ galeCan0 { canUp with held := some (canHeld none) } with switch.gates := [(0, { gateRun with oper := some { gateList with entries := [{ states := 0, interval := 500, octetMax := 0 }] } })] }), (canHeld none), by decide +kernel⟩,
   ⟨0, 38, (galeGate gateRun), false, gateList, by decide +kernel⟩,
   ⟨0, 38, (galeGate gateWait), false, gateList, 0, by decide +kernel⟩,
   ⟨0, 38, (galeGate gateRun), false, _, _, _, by decide +kernel, rfl, by decide +kernel⟩,
   ⟨0, 38, ({ queued 38 heldNow (galeEth 38 { ethUp 38 with preemptSt := 2, orders := [{ pfc := false, times := [], at_ := 0, opens := false }] }) with switch.preemptMask := [(38, 1)], switch.sending := [(38, sending5)] }), sending5, 60, by decide +kernel⟩⟩

theorem witness_BufferEventsComplete :
    (∃ (g : Nat) (c : Nat) (s : State) (r : Replica) (h : _),
      tsclkRuns s = true ∧ (queueOf s g c).find? (fun r => r.mark && !r.spilled) = some r ∧ heldOf s r.fid = some h ∧ s.switch.spillOn = true ∧ s.switch.spillUsed + cellsOf h.frame ≤ spillCells s) ∧
    (∃ (t : Nat) (g : Nat) (c : Nat) (s : State) (r : Replica) (h : _) (res : Nat) (sh : Nat),
      let s0 := atTime t s
      tsclkRuns s = true ∧ (queueOf s g c).find? (fun r => r.spilled) = some r ∧ heldOf s r.fid = some h ∧ queueCells s0 g c ≤ (queueCfg s0 g c).lo ∧ cellsOf h.frame ≤ freeCells s0 ∧ charge s0 h.src h.cls (cellsOf h.frame) h.driven = some (res, sh)) ∧
    (∃ (s : State),
      tsclkRuns s = true ∧ s.lpddrUp = true ∧ s.switch.queues = [] ∧ s.switch.spillOn = false) ∧
    (∃ (t : Nat) (g : Nat) (c : Nat) (s : State),
      let s0 := atTime t s
      tsclkRuns s = true ∧ (account s g c).xoff = true ∧ fcMode s0 g ≠ 0 ∧ (account s g c).ordered + bitTicks (256 * (fcOf s g).quanta) (speedRate (ethOf s g).speed) ≤ s0.now) ∧
    (∃ (t : Nat) (g : Nat) (s : State) (a : Nat) (cl : Nat) (l : Nat),
      let s0 := atTime t s
      tsclkRuns s = true ∧ (fcOf s g).probe = some (a, cl, some l, false) ∧ a + nsTick (fcOf s g).rMax ≤ s0.now) ∧
    (∃ (t : Nat) (g : Nat) (s : State),
      let s0 := atTime t s
      tsclkRuns s = true ∧ g ∉ [52, 53] ∧ ((g < 24 → (canOf (sweepPort g s0) g).held = none))) ∧
    (∃ (t : Nat) (g : Nat) (s : State) (b : _) (e : _),
      let s0 := atTime t s
      tsclkRuns s = true ∧ curObj s0 .recovery g = some b ∧ recoveryDue b (tget s.switch.recoveries Recovery.fresh g) s0.now = some e) :=
  ⟨⟨38, 0, (galeSpill { rep5 with mark := true } heldNow), ({ rep5 with mark := true }), heldNow, by decide +kernel⟩,
   ⟨0, 38, 0, (galeSpill { rep5 with spilled := true } { heldNow with shared := 0, segs := [] }), _, _, _, _, by decide +kernel, rfl, rfl, by decide +kernel, by decide +kernel, rfl⟩,
   ⟨gale, by decide +kernel⟩,
   ⟨0, 38, 0, ({ galeEth 38 { ethUp 38 with fcMode := 1 } with switch.accounts := [(8 * 38, { Account.reset with xoff := true })] }), by decide +kernel⟩,
   ⟨0, 38, ({ gale with switch.fc := [(38, { FlowControl.reset with probe := some (0, 0, some 0, false) })] }), 0, 0, 0, by decide +kernel⟩,
   ⟨0, 54, gale, by decide +kernel⟩,
   ⟨0, 1, ({ gale with switch.recoveries := [(1, { Recovery.fresh with reset := false, lastPass := some 0 })], tables.gens := [{ num := 1, commitAt := 0, objs := [(okey .recovery 1, params 8 [(0, 2, 1), (3, 1, 2), (4, 2, 1)])] }] }), _, _, by decide +kernel, rfl, rfl⟩⟩

theorem witness_TableEventsComplete :
    (∃ (s : State) (l : _) (r : _),
      tsclkRuns s = true ∧ s.tables.learnQ = l :: r) ∧
    (∃ (t : Nat) (s : State) (e : _),
      let s0 := atTime t s
      tsclkRuns s = true ∧ s.tables.epochStart = some e ∧ e + s.tables.tickS * ticksPerSec ≤ s0.now ∧ leeRule s = false) ∧
    (∃ (t : Nat) (s : State) (pos : Nat) (k : Nat) (e : _),
      let s0 := atTime t s
      tsclkRuns s = true ∧ (tget? s.tables.fdbSlots pos = some { key := k, use := .learned }) ∧ tget? s.tables.learned k = some e ∧ aged s0 e = true ∧ leeRule s = false) ∧
    (∃ (s : State) (r : _) (a : _) (m : Tab Slot),
      let k : Kind := if r.table = 0 then .fdb else .canExact
      tsclkRuns s = true ∧ s.tables.rehash = some r ∧ findAsync 0x0204 (fun _ => true) s = some a ∧ migrate (shapeOf k) r.seed (slotsOf s k) r.placed = some m) ∧
    (∃ (s : State) (r : _) (a : _),
      let k : Kind := if r.table = 0 then .fdb else .canExact
      tsclkRuns s = true ∧ s.tables.rehash = some r ∧ findAsync 0x0204 (fun _ => true) s = some a ∧ migrate (shapeOf k) r.seed (slotsOf s k) r.placed = none) ∧
    (∃ (s : State) (n : Nat),
      tsclkRuns s = true ∧ currentNum s ≠ n ∧ genInUse s n = false) ∧
    (∃ (s : State) (a : _),
      tsclkRuns s = true ∧ findAsync 0x0235 (fun _ => true) s = some a) ∧
    (∃ (t : Nat) (s : State) (head : _),
      let s0 := atTime t s
      let period := ms s.tables.maqPeriodMs
      let y : State := { s0 with tables.maqStart := s.tables.maqStart + (s0.now - s.tables.maqStart) / period * period }
      tsclkRuns s = true ∧ s.tables.maqEnable = true ∧ 0 < s.tables.maqPeriodMs ∧ s.tables.maqStart + ms s.tables.maqPeriodMs ≤ s0.now ∧ bulkRead y s.tables.maqContext s.tables.maqBase 136 = (head, none) ∧ leAt head 0 4 ≠ currentNum s) ∧
    (∃ (t : Nat) (s : State) (head : _),
      let s0 := atTime t s
      let period := ms s.tables.maqPeriodMs
      let y : State := { s0 with tables.maqStart := s.tables.maqStart + (s0.now - s.tables.maqStart) / period * period }
      tsclkRuns s = true ∧ s.tables.maqEnable = true ∧ 0 < s.tables.maqPeriodMs ∧ s.tables.maqStart + ms s.tables.maqPeriodMs ≤ s0.now ∧ bulkRead y s.tables.maqContext s.tables.maqBase 136 = (head, none) ∧ leAt head 0 4 = currentNum s ∧ leAt head 4 4 = 0) :=
  ⟨⟨({ gale with tables.learnQ := [{ key := fdbKey 0 1, gport := 0, at_ := 0, gen := 1 }] }), ({ key := fdbKey 0 1, gport := 0, at_ := 0, gen := 1 }), [], by decide +kernel⟩,
   ⟨0, ({ gale with tables.epochStart := some 0 }), 0, by decide +kernel⟩,
   ⟨0, galeLearned, 8, (fdbKey 0 1), learned0, by decide +kernel⟩,
   ⟨({ galeAsync 0x0204 (zeros 8) with tables.rehash := some rehash0 }), ((rehash0 : Rehash)), (async0 0x0204 (zeros 8)), [], by decide +kernel⟩,
   ⟨({ galeAsync 0x0204 (zeros 8) with tables.rehash := some { rehash0 with placed := fullWay }, tables.fdbSlots := [(0, slot0)] }), (({ rehash0 with placed := fullWay } : Rehash)), (async0 0x0204 (zeros 8)), by decide +kernel⟩,
   ⟨gale, 2, by decide +kernel⟩,
   ⟨(galeAsync 0x0235 (zeros 4)), (async0 0x0235 (zeros 4)), by decide +kernel⟩,
   ⟨0, (galeMaq 1), (zeros 136), by decide +kernel⟩,
   ⟨0, (galeMaq 0), (zeros 136), by decide +kernel⟩⟩

theorem witness_PolicingEventsComplete :
    (∃ (t : Nat) (s : State) (f : Nat),
      let s0 := atTime t s
      let x := cadOf s f
      tsclkRuns s = true ∧ x.state = .monitoring ∧ x.ref + x.period + x.w (pTol (profileOf s x.profile)) + us 150 ≤ s0.now ∧ (flowEntry s (currentNum s) f).cadence = true) ∧
    (∃ (t : Nat) (s : State) (k : Nat) (n : Nat) (q : _),
      let s0 := atTime t s
      tsclkRuns s = true ∧ findQuarantine s k n = some q ∧ q.holdStart + ms q.holdMs ≤ s0.now ∧ q.again = true) ∧
    (∃ (t : Nat) (s : State) (k : Nat) (n : Nat) (q : _),
      let s0 := atTime t s
      tsclkRuns s = true ∧ findQuarantine s k n = some q ∧ q.holdStart + ms q.holdMs ≤ s0.now ∧ q.again = false) :=
  ⟨⟨0, galeCad, 0, by decide +kernel⟩,
   ⟨0, ({ gale with policing.quarantines := [quarantine0 true] }), 0, 0, (quarantine0 true), by decide +kernel⟩,
   ⟨0, ({ gale with policing.quarantines := [quarantine0 false] }), 0, 0, (quarantine0 false), by decide +kernel⟩⟩

theorem witness_GatewayEventsComplete :
    (∃ (t : Nat) (s : State) (c : _) (r : _) (h : _),
      let s0 := atTime t s
      let y := retryStalled s.gw.stalled (sweepPort gRecirc s0)
      let z := bump (gwCtr 0x0100) (bump (swCtr gRecirc 0x40) (dequeue gRecirc c r.fid y))
      let z := releaseRef r.fid { z with gw.arb := arbNext 4 1 }
      tsclkRuns s = true ∧ y.gw.stalled = [] ∧ leeRule s = false ∧ pick y gRecirc (fun c _ => decide (drivenCharge y c + 32 ≤ (account y gRecirc c).share)) = some (c, r, h) ∧ h.faulted = false ∧ leeRule z = false) ∧
    (∃ (t : Nat) (n : Nat) (s : State),
      let s0 := atTime t s
      tsclkRuns s = true ∧ (contOf s n).isOpen = true ∧ (contOf s n).rel ≤ s0.now) ∧
    (∃ (t : Nat) (n : Nat) (s : State) (b : _) (e : _),
      let s0 := atTime t s
      tsclkRuns s = true ∧ pduOf s0 (currentNum s) n 1 = some b ∧ (builtOf s0 n b).due = some e ∧ e ≤ s0.now ∧ byteAt b 3 ∈ [1, 2, 4]) ∧
    (∃ (t : Nat) (n : Nat) (s : State) (b : _) (e : _),
      let s0 := atTime t s
      tsclkRuns s = true ∧ pduOf s0 (currentNum s) n 1 = some b ∧ (builtOf s0 n b).deferred = some e ∧ e ≤ s0.now) ∧
    (∃ (t : Nat) (n : Nat) (s : State) (b : _) (e : _),
      let s0 := atTime t s
      tsclkRuns s = true ∧ pduOf s0 (currentNum s) n 0 = some b ∧ sourceDue b (sourceOf s n) = some e ∧ e ≤ s0.now ∧ (sourceOf s n).timedOut = true ∧ bits (byteAt b 0x1A) 4 3 = 0) ∧
    (∃ (t : Nat) (n : Nat) (s : State) (x : _),
      let s0 := atTime t s
      tsclkRuns s = true ∧ sessionOf s n = some x ∧ x.wait ≠ .release ∧ x.timer ≤ s0.now ∧ tpProto x.raw ≠ 1) ∧
    (∃ (t : Nat) (n : Nat) (s : State) (x : _),
      let s0 := atTime t s
      tsclkRuns s = true ∧ sessionOf s n = some x ∧ x.wait = .release ∧ x.timer ≤ s0.now ∧ tpProto x.raw ≠ 0) ∧
    (∃ (t : Nat) (n : Nat) (s : State) (sa : Nat),
      let s0 := atTime t s
      tsclkRuns s = true ∧ pairBRuns s0 = true ∧ n < 24 ∧ (canOf s n).config.getLsbD 3 = true ∧ tget? s.gw.own n = none ∧ sa ≤ 253 ∧ tget? s.gw.claims (256 * n + sa) = none) ∧
    (∃ (t : Nat) (s : State),
      let s0 := atTime t s
      tsclkRuns s = true ∧ s.gw.follows ≠ [] ∧ pairBRuns s0 = true ∧ canCommit s0 = true) ∧
    (∃ (n : Nat) (s : State),
      tsclkRuns s = true ∧ isDirect n = true) :=
  ⟨⟨0, (queued 55 heldNow (gale)), 0, rep5, heldNow, by decide +kernel⟩,
   ⟨0, 0, ({ gale with gw.conts := [(0, { Cont.fresh with isOpen := true })] }), by decide +kernel⟩,
   ⟨0, 0, ({ galePdu 1 1 with gw.built := [(0, builtPdu (some 0) none)] }), (params 48 [(2, 1, 1), (3, 1, 1), (4, 2, 8), (0x1C, 2, 10)]), 0, by decide +kernel⟩,
   ⟨0, 0, ({ galePdu 1 1 with gw.built := [(0, builtPdu none (some 0))] }), (params 48 [(2, 1, 1), (3, 1, 1), (4, 2, 8), (0x1C, 2, 10)]), 0, by decide +kernel⟩,
   ⟨0, 0, ({ galePdu 0 0 with gw.source := [(0, { accepted := none, last := 0, window := 0, timedOut := true, lastFail := none })] }), (params 48 [(2, 1, 0), (3, 1, 0), (4, 2, 8), (0x1C, 2, 10)]), (ms 10), by decide +kernel⟩,
   ⟨0, 0, ({ gale with gw.sessions := [(0, session0 .packet 0)] }), (session0 .packet 0), by decide +kernel⟩,
   ⟨0, 0, ({ gale with gw.sessions := [(0, session0 .release 1)] }), (session0 .release 1), by decide +kernel⟩,
   ⟨0, 0, galeCan, 253, by decide +kernel⟩,
   ⟨0, ({ gale with gw.follows := [follow0] }), by decide +kernel⟩,
   ⟨7, gale, by decide +kernel⟩⟩

theorem witness_TimeBaseEventsComplete :
    (∃ (t : Nat) (d : Nat) (s : State),
      let s0 := atTime t s
      let x := domain s d
      tsclkRuns s = true ∧ x.state = .locked ∧ x.grandmaster = false ∧ x.lastSync + ms x.timeoutMs ≤ s0.now) ∧
    (∃ (t : Nat) (s : State),
      let s0 := atTime t s
      tsclkRuns s = true ∧ monoValue s mcFloor / 60000 < legalMs s0 / 60000) ∧
    (∃ (t : Nat) (s : State),
      let s0 := atTime t s
      tsclkRuns s = true ∧ 0 < s.time.slew ∧ slewLeft s0 = 0) ∧
    (∃ (t : Nat) (d : Nat) (s : State),
      let s0 := atTime t s
      let x := domain s d
      tsclkRuns s = true ∧ byteAt s.time.legalCfg 0 = d + 1 ∧ x.leap = -1 ∧ 86399000 ≤ legalMs s0 % 86400000 ∧ s.time.leapDay ≠ legalDay (legalMs s0) + 1) ∧
    (∃ (t : Nat) (d : Nat) (s : State),
      let s0 := atTime t s
      let x := domain s d
      tsclkRuns s = true ∧ pairBRuns s0 = true ∧ s.power.activating = none ∧ x.state ≠ .disabled ∧ x.grandmaster = true) ∧
    (∃ (t : Nat) (d : Nat) (s : State),
      let s0 := atTime t s
      let x := domain s d
      tsclkRuns s = true ∧ pairBRuns s0 = true ∧ s.power.activating = none ∧ x.state ≠ .disabled ∧ x.gmCapable = true) ∧
    (∃ (t : Nat) (s : State) (g : Nat),
      let s0 := atTime t s
      tsclkRuns s = true ∧ pairBRuns s0 = true ∧ s.power.activating = none ∧ 38 ≤ g ∧ g < 50) ∧
    (∃ (t : Nat) (s : State) (u : Nat) (off : Int),
      let s0 := atTime t s
      tsclkRuns s = true ∧ pairBRuns s0 = true ∧ s.power.activating = none ∧ byteAt s.time.legalCfg 0 = u + 1 ∧ s.time.lastCheck + legalCheckS s * ticksPerSec ≤ s0.now ∧ (domain s u).state = .locked ∧ (domain s u).utc = some off) :=
  ⟨⟨0, 0, (galeDom dom0), by decide +kernel⟩,
   ⟨0, ({ gale with time.legal := 60000 * msFine, time.legalAnchor := gale.it }), by decide +kernel⟩,
   ⟨0, ({ gale with time.slew := 1 }), by decide +kernel⟩,
   ⟨0, 0, (leapEve { dom0 with leap := -1 }), by decide +kernel⟩,
   ⟨0, 0, (galeDom { dom0 with grandmaster := true }), by decide +kernel⟩,
   ⟨0, 0, (galeDom { dom0 with raw := params 32 [(1, 1, 1), (2, 1, 1), (20, 2, 100), (23, 1, 1)] }), by decide +kernel⟩,
   ⟨0, gale, 49, by decide +kernel⟩,
   ⟨0, (galeDom dom0), 0, 37, by decide +kernel⟩⟩

theorem witness_SyncReceived :
    (∃ (t : Nat) (d : Nat) (stamp : Nat) (master : Int) (s : State),
      let s0 := atTime t s
      let x := domain s d
      let err := master - x.at_ (s0.it - (s0.clk - stamp) * itStep s0)
      tsclkRuns s = true ∧ pairBRuns (atTime t s) = true ∧ s.power.activating = none ∧ x.state = .locked ∧ x.grandmaster = false ∧ err.natAbs ≤ x.stepNs * nsFine ∧ s.time.ref ≠ d + 1) :=
  ⟨0, 0, 1000000000000, ((dom0.at_ gale.it)), (galeDom dom0), by decide +kernel⟩

theorem witness_TimePinEventsComplete :
    (∃ (n : Nat) (s : State) (e : Nat),
      let x := captureOf s n
      tsclkRuns s = true ∧ n ≤ 15 ∧ (x.edge = 3 ∨ x.edge = e) ∧ x.history = [] ∧ x.event = false) ∧
    (∃ (t : Nat) (n : Nat) (s : State) (tk : Nat),
      let s0 := atTime t s
      let x := tget s.time.compares Compare.off n
      tsclkRuns s = true ∧ x.next = some (tk, false) ∧ x.mode = 1 ∧ tk ≤ s0.now) ∧
    (∃ (t : Nat) (n : Nat) (s : State) (tk : Nat),
      let s0 := atTime t s
      let x := tget s.time.compares Compare.off n
      tsclkRuns s = true ∧ x.next = some (tk, true) ∧ x.mode = 2 ∧ tk ≤ s0.now) ∧
    (∃ (n : Nat) (s : State) (e : Nat),
      let x := tget s.time.pulses Pulse.off n
      tsclkRuns s = true ∧ n ≤ 1 ∧ byteAt x.raw 1 = e ∧ e ≠ 0) ∧
    (∃ (t : Nat) (s : State) (fin : Nat),
      let s0 := atTime t s
      tsclkRuns s = true ∧ fin = s.time.motionEnd + ms 100 ∧ fin ≤ s0.now) :=
  ⟨⟨15, ({ gale with time.captures := [(15, { captureOf gale 15 with edge := 3 })] }), 1, by decide +kernel⟩,
   ⟨0, 0, ({ gale with time.compares := [(0, { Compare.off with raw := params 32 [(1, 1, 1)], next := some (0, false) })] }), 0, by decide +kernel⟩,
   ⟨0, 0, ({ gale with time.compares := [(0, { Compare.off with raw := params 32 [(1, 1, 2)], next := some (0, true) })] }), 0, by decide +kernel⟩,
   ⟨1, ({ gale with time.pulses := [(1, { Pulse.off with raw := params 8 [(1, 1, 1)] })] }), 1, by decide +kernel⟩,
   ⟨0, gale, (ms 100), by decide +kernel⟩⟩

theorem witness_HeraxEventsComplete :
    (∃ (s : State) (n : Nat),
      n ≤ 4 ∧ tsclkRuns s = true) ∧
    (∃ (s : State) (n : Nat),
      n ≤ 4 ∧ tsclkRuns s = false) ∧
    (∃ (t : Nat) (s : State),
      let s0 := atTime t s
      tsclkRuns s = true ∧ checkpointDue s0 = false ∧ (recent s0 s.herax.sealTimes).length < 2000) ∧
    (∃ (t : Nat) (s : State),
      let s0 := atTime t s
      tsclkRuns s = true ∧ checkpointDue s0 = true) :=
  ⟨⟨gale, 4, by decide +kernel⟩,
   ⟨({ gale with mode := .zephyr, mainUp := false }), 4, by decide +kernel⟩,
   ⟨0, gale, by decide +kernel⟩,
   ⟨0, ({ gale with herax.sinceCp := 256 }), by decide +kernel⟩⟩

theorem witness_CipherEventsComplete :
    (∃ (t : Nat) (n : Nat) (s : State) (m : LaneMsg),
      let s0 := atTime t s
      tsclkRuns s = true ∧ mostUrgent s.cipher.waiting = some m ∧ laneChoice s0 m.urgency = some n ∧ m.job = none) ∧
    (∃ (n : Nat) (p : Nat) (tag : Nat) (s : State) (m : LaneMsg) (j : _) (key : Bytes) (upto : Nat),
      tsclkRuns s = true ∧ (laneOf s n).run = some m ∧ m.job = some (p, tag) ∧ jobOf s p tag = some j ∧ j.key = some key ∧ j.offset < min j.len (upto / 16 * 16)) ∧
    (∃ (p : Nat) (tag : Nat) (s : State) (j : _),
      tsclkRuns s = true ∧ jobOf s p tag = some j ∧ j.st = .finished ∧ j.status = 0x0000) ∧
    (∃ (p : Nat) (tag : Nat) (s : State) (j : _),
      tsclkRuns s = true ∧ jobOf s p tag = some j ∧ j.st = .finished ∧ j.status ≠ 0x0000) ∧
    (∃ (p : Nat) (tag : Nat) (s : State) (j : _),
      tsclkRuns s = true ∧ jobOf s p tag = some j ∧ j.st = .zeroing) ∧
    (∃ (t : Nat) (p : Nat) (tag : Nat) (s : State) (j : _),
      let s0 := atTime t s
      tsclkRuns s = true ∧ jobOf s p tag = some j ∧ j.st = .stopped ∧ j.key = none ∧ slotGone s0 j.slot = true) ∧
    (∃ (t : Nat) (n : Nat) (s : State) (x : _) (i : Nat) (f : _),
      let s0 := atTime t s
      tsclkRuns s = true ∧ tget? s.switch.sending n = some x ∧ x.slot = some i ∧ slotGone s0 i = true ∧ heldOf s x.fid = some f) ∧
    (∃ (t : Nat) (s : State) (f : _),
      let s0 := atTime t s
      let y : State := { s0 with switch.cpuIn := s.switch.cpuIn.erase f }
      tsclkRuns s = true ∧ pairARuns s0 = true ∧ s.switch.cpuIn.find? (fun f => f.bus.isNone && beAt f.data 12 2 == 0x88B5) = some f ∧ inbandPartner y f = none) ∧
    (∃ (t : Nat) (p : Nat) (s : State) (f : _),
      let s0 := atTime t s
      let y : State := { s0 with switch.cpuIn := s.switch.cpuIn.erase f }
      tsclkRuns s = true ∧ pairARuns s0 = true ∧ s.switch.cpuIn.find? (fun f => f.bus.isNone && beAt f.data 12 2 == 0x88B5) = some f ∧ inbandPartner y f = some p ∧ byteAt f.data 14 = 1) ∧
    (∃ (t : Nat) (p : Nat) (s : State) (f : _),
      let s0 := atTime t s
      let y : State := { s0 with switch.cpuIn := s.switch.cpuIn.erase f }
      tsclkRuns s = true ∧ pairARuns s0 = true ∧ s.switch.cpuIn.find? (fun f => f.bus.isNone && beAt f.data 12 2 == 0x88B5) = some f ∧ inbandPartner y f = some p ∧ byteAt f.data 14 = 5) :=
  ⟨⟨0, 0, ({ gale with cipher.waiting := [msg0 none] }), (msg0 none), by decide +kernel⟩,
   ⟨0, 0, 9, ({ gale with cipher.lanes := [(0, { run := some (msg0 (some (0, 9))), suspended := [] })], cipher.jobs := [jobKey] }), (msg0 (some (0, 9))), jobKey, (zeros 16), 16, by decide +kernel⟩,
   ⟨0, 9, (galeJob .finished 0), (jobIn .finished 0), by decide +kernel⟩,
   ⟨0, 9, (galeJob .finished 1), (jobIn .finished 1), by decide +kernel⟩,
   ⟨0, 9, (galeJob .zeroing 1), (jobIn .zeroing 1), by decide +kernel⟩,
   ⟨0, 0, 9, (galeJob .stopped 0), (jobIn .stopped 0), by decide +kernel⟩,
   ⟨0, 38, ({ queued 38 heldNow gale with switch.sending := [(38, { sending5 with slot := some 16 })], herax.bank := [(16, { key4 with state := .revoked })] }), ({ sending5 with slot := some 16 }), 16, heldNow, by decide +kernel⟩,
   ⟨0, ({ gale with switch.cpuIn := [inbandFrame0 1] }), (inbandFrame0 1), by decide +kernel⟩,
   ⟨0, 0, (galeInband (inbandFrame0 1)), (inbandFrame0 1), by decide +kernel⟩,
   ⟨0, 0, (galeInband (inbandFrame0 5)), (inbandFrame0 5), by decide +kernel⟩⟩

theorem witness_ResetEventsComplete :
    (∃ (s : State),
      s.power.mainEn = true ∧ s.mainUp = true) ∧
    (∃ (t : Nat) (s : State),
      let s0 := atTime t s
      s.power.mainEn = true ∧ s.power.pwrGood = false ∧ s.power.enAt + ms 50 ≤ s0.clk ∧ s.power.retry = false) ∧
    (∃ (s : State),
      s.power.porst = false ∧ s.power.mainEn = false ∧ s.power.kept = false ∧ s.power.nextCause = 1 ∧ s.mode = .calm) :=
  ⟨⟨({ gale with power.mainEn := true }), by decide +kernel⟩,
   ⟨0, ({ gale with power.mainEn := true }), by decide +kernel⟩,
   ⟨State.reset, by decide +kernel⟩⟩

theorem witness_ModeEventsComplete :
    (∃ (s : State),
      s.power.resetDue = none ∧ mayStart s = true ∧ s.mode = .calm) ∧
    (∃ (s : State) (x : _) (h : Bytes),
      s.power.transition = some x ∧ mayStart s = true ∧ s.mode = .zephyr ∧ h ≠ s.power.tcmHash) ∧
    (∃ (t : Nat) (s : State) (x : _),
      let s0 := atTime t s
      tsclkRuns s = true ∧ s.power.transition = some x ∧ enteringSleep s0 = true ∧ (s.mode = .gale ∨ s.mode = .breeze)) ∧
    (∃ (s : State) (x : _),
      tsclkRuns s = true ∧ s.power.transition = some x ∧ mayTurn s.mode x.target = true) ∧
    (∃ (t : Nat) (s : State),
      let s0 := atTime t s
      s.mode = .zephyr ∧ s.power.transition = none ∧ s.power.calmAfterS ≠ 0 ∧ s.power.sleptAt + s.power.calmAfterS * ticksPerSec ≤ s0.clk) ∧
    (∃ (t : Nat) (s : State) (e : Nat),
      let s0 := atTime t s
      tsclkRuns s = true ∧ s.mode = .atelier ∧ s.power.atelierEnd = some e ∧ e ≤ s0.now ∧ s.power.transition = none) :=
  ⟨⟨(waiting .calm none), by decide +kernel⟩,
   ⟨(waiting .zephyr (some (turn .zephyr))), (turn .zephyr), ([1]), by decide +kernel⟩,
   ⟨0, (turning .breeze .zephyr), (turn .zephyr), by decide +kernel⟩,
   ⟨(turning .gale .breeze), (turn .breeze), by decide +kernel⟩,
   ⟨0, ({ gale with mode := .zephyr, mainUp := false, power.kept := true, power.calmAfterS := 1 }), by decide +kernel⟩,
   ⟨0, ({ atelier with power.atelierEnd := some 0 }), 0, by decide +kernel⟩⟩

theorem witness_PowerServiceEventsComplete :
    (∃ (i : Nat) (s : State),
      tsclkRuns s = true ∧ s.switch.segOn.testBit i = true ∧ s.switch.segWanted.testBit i = false ∧ tget s.switch.segUsed 0 i = 0) ∧
    (∃ (i : Nat) (s : State) (a : _),
      tsclkRuns s = true ∧ findAsync 0x0710 (fun a => byteAt a.params 0 == i) s = some a) ∧
    (∃ (i : Nat) (s : State) (a : _),
      tsclkRuns s = true ∧ findAsync 0x0712 (fun a => byteAt a.params 0 == i) s = some a) ∧
    (∃ (t : Nat) (i : Nat) (s : State) (a : _) (t0 : _),
      let s0 := atTime t s
      tsclkRuns s = true ∧ s.power.activating = some (i, t0) ∧ findAsync 0x0713 (fun _ => true) s = some a ∧ s0.now ≤ t0 + ms 40) ∧
    (∃ (i : Nat) (s : State),
      tsclkRuns s = true ∧ i ≤ 7 ∧ byteAt (comparatorOf s i).raw 1 = 1 ∧ byteAt (comparatorOf s i).raw 3 = 2) ∧
    (∃ (t : Nat) (i : Nat) (s : State) (v : _),
      let s0 := atTime t s
      tsclkRuns s = true ∧ tget? s.power.monoWait i = some v ∧ (recent s0 s.power.monoTimes).length < 1000) ∧
    (∃ (t : Nat) (s : State) (e : _),
      let s0 := atTime t s
      tsclkRuns s = true ∧ nextPersist s.kernel.ledger = some e ∧ s.kernel.ledger.writeWindow ≠ s0.now / ticksPerSec) :=
  ⟨⟨15, ({ gale with switch.segWanted := 0x7FFF }), by decide +kernel⟩,
   ⟨0, (galeAsync 0x0710 (zeros 4)), (async0 0x0710 (zeros 4)), by decide +kernel⟩,
   ⟨0, (galeAsync 0x0712 (zeros 4)), (async0 0x0712 (zeros 4)), by decide +kernel⟩,
   ⟨0, 1, ({ galeAsync 0x0713 (params 4 [(0, 1, 1)]) with power.activating := some (1, 1000000000000) }), (async0 0x0713 (params 4 [(0, 1, 1)])), 1000000000000, by decide +kernel⟩,
   ⟨7, ({ gale with power.comparators := [(7, { Comparator.off with raw := params 12 [(1, 1, 1), (3, 1, 2)] })] }), by decide +kernel⟩,
   ⟨0, 3, ({ gale with power.monoWait := [(3, 9)] }), 9, by decide +kernel⟩,
   ⟨0, galeLedger, entry0, by decide +kernel⟩⟩

theorem witness_SleepEventsComplete :
    (∃ (g : Nat) (s : State) (m : Bytes),
      tsclkRuns s = true ∧ s.sleep.st ≠ .off ∧ ringPort s g = true ∧ ringMsgOk m = false) ∧
    (∃ (g : Nat) (s : State) (m : Bytes),
      tsclkRuns s = true ∧ s.sleep.st ≠ .off ∧ ringPort s g = true ∧ ringMsgOk m = true ∧ s.sleep.recent = [] ∧ byteAt m 0 % 16 = 1) ∧
    (∃ (s : State) (h : _),
      tsclkRuns s = true ∧ s.sleep.holding = some h ∧ s.sleep.st ≠ .off ∧ isMaster s = false) ∧
    (∃ (t : Nat) (s : State) (e : Nat),
      let s0 := atTime t s
      tsclkRuns s = true ∧ s.sleep.joinEnd = some e ∧ e ≤ s0.now ∧ s.sleep.st = .joining ∧ isMaster s = true ∧ s.sleep.tokenAt = none ∧ standbyRole s = false) ∧
    (∃ (t : Nat) (s : State) (n : Nat) (a : Nat),
      let s0 := atTime t s
      tsclkRuns s = true ∧ s.sleep.sent = some (n, a) ∧ s.sleep.st ≠ .off ∧ a + tokenTimeout s ≤ s0.now) ∧
    (∃ (t : Nat) (s : State) (r : Nat),
      let s0 := atTime t s
      tsclkRuns s = true ∧ s.sleep.tokenAt = some r ∧ s.sleep.st = .ring ∧ standbyRole s = false ∧ r + (2 + ownRank s) * tokenTimeout s ≤ s0.now) ∧
    (∃ (t : Nat) (s : State) (i : Nat),
      let s0 := atTime t s
      tsclkRuns s = true ∧ s.sleep.objection = some i ∧ s.sleep.st ≠ .off ∧ i + objectTicks s ≤ s0.now ∧ isMaster s = false) ∧
    (∃ (t : Nat) (s : State) (i : Nat),
      let s0 := atTime t s
      tsclkRuns s = true ∧ s.sleep.objection = some i ∧ s.sleep.st = .proposed ∧ i + objectTicks s ≤ s0.now ∧ isMaster s = true ∧ s.sleep.objected = false) ∧
    (∃ (t : Nat) (s : State) (n : Nat) (a : Nat),
      let s0 := atTime t s
      tsclkRuns s = true ∧ s.sleep.awake = some (n, a) ∧ a + awakeMaxS s * ticksPerSec ≤ s0.now ∧ isMaster s = true ∧ awakeMaxS s ≠ 0 ∧ n ≠ ringNode s) ∧
    (∃ (t : Nat) (g : Nat) (s : State) (w : _),
      let s0 := atTime t s
      tsclkRuns s = true ∧ s.sleep.falseWakes = [w] ∧ w.1 = g ∧ w.2.1 + ms (falseWakeMs s) ≤ s0.now ∧ w.2.2 = true) ∧
    (∃ (t : Nat) (g : Nat) (s : State) (w : _),
      let s0 := atTime t s
      tsclkRuns s = true ∧ s.sleep.falseWakes = [w] ∧ w.1 = g ∧ w.2.1 + ms (falseWakeMs s) ≤ s0.now ∧ w.2.2 = false ∧ s.sleep.st = .off) ∧
    (∃ (t : Nat) (g : Nat) (s : State) (x : _) (stat : Nat),
      let s0 := atTime t s
      tsclkRuns s = true ∧ tget? s.sleep.tc10 g = some x ∧ s0.now < x.written + ms 16 ∧ stat &&& leAt (wakePortRaw s g) 12 2 = leAt (wakePortRaw s g) 12 2) ∧
    (∃ (t : Nat) (g : Nat) (s : State) (x : _),
      let s0 := atTime t s
      tsclkRuns s = true ∧ tget? s.sleep.tc10 g = some x ∧ x.written + ms 16 ≤ s0.now) :=
  ⟨⟨38, (galeRing0 .ring 5 [5]), (zeros 7), by decide +kernel⟩,
   ⟨38, (galeRing0 .ring 5 [5]), joinMsg, by decide +kernel⟩,
   ⟨({ galeRing0 .ring 5 [4, 5] with sleep.holding := some (4, 0) }), ((4, 0)), by decide +kernel⟩,
   ⟨0, ({ galeRing0 .joining 5 [5] with sleep.joinEnd := some 0 }), 0, by decide +kernel⟩,
   ⟨0, ({ galeRing0 .ring 5 [5, 6] with sleep.sent := some (6, 0) }), 6, 0, by decide +kernel⟩,
   ⟨0, ({ galeRing0 .ring 5 [4, 5] with sleep.tokenAt := some 0 }), 0, by decide +kernel⟩,
   ⟨0, ({ galeRing0 .ring 5 [4, 5] with sleep.objection := some 0 }), 0, by decide +kernel⟩,
   ⟨0, ({ galeRing0 .proposed 5 [5] with sleep.objection := some 0 }), 0, by decide +kernel⟩,
   ⟨0, ({ galeRing0 .ring 5 [5, 6] with sleep.awake := some (6, 0) }), 6, 0, by decide +kernel⟩,
   ⟨0, 38, ({ gale with sleep.falseWakes := [(38, 0, true)] }), ((38, 0, true)), by decide +kernel⟩,
   ⟨0, 38, ({ gale with sleep.falseWakes := [(38, 0, false)] }), ((38, 0, false)), by decide +kernel⟩,
   ⟨0, 38, ({ gale with sleep.tc10 := [(38, tc100 gale.now)] }), (tc100 gale.now), 0, by decide +kernel⟩,
   ⟨0, 38, ({ gale with sleep.tc10 := [(38, tc100 0)] }), (tc100 0), by decide +kernel⟩⟩

theorem witness_LinkEventsComplete :
    (∃ (k : Nat) (s : State) (pk : LinkPacket),
      tsclkRuns s = true ∧ k < 2 ∧ operUp s (50 + k) = true ∧ pk.good = false) ∧
    (∃ (k : Nat) (s : State) (pk : LinkPacket),
      tsclkRuns s = true ∧ k < 2 ∧ operUp s (50 + k) = true ∧ pk.good = true ∧ ((pktReplayable pk = true → pk.lseq = ((linkOf s k).rxSeq + 1) % 65536)) ∧ pk.typ ≠ 1) ∧
    (∃ (t : Nat) (k : Nat) (s : State) (pk : LinkPacket) (bus : Option CanFrame) (cap : Nat),
      let s0 := atTime t s
      let a := (ingress (lnkFrame s0 k pk bus cap) (50 + k) false (lnkAccept k pk s0)).2
      tsclkRuns s = true ∧ k < 2 ∧ operUp s (50 + k) = true ∧ pk.good = true ∧ ((pktReplayable pk = true → pk.lseq = ((linkOf s k).rxSeq + 1) % 65536)) ∧ pk.typ = 1 ∧ a.wait = false) ∧
    (∃ (t : Nat) (k : Nat) (s : State),
      let s0 := atTime t s
      tsclkRuns s = true ∧ k < 2 ∧ operUp s (50 + k) = true ∧ (linkOf s k).unacked ≠ [] ∧ (linkOf s k).ackAt + us 2 ≤ s0.now) ∧
    (∃ (t : Nat) (k : Nat) (s : State) (e : _),
      let s0 := atTime t s
      tsclkRuns s = true ∧ k < 2 ∧ (linkOf s k).relays = [e] ∧ e.2 + us 10 ≤ s0.now) ∧
    (∃ (t : Nat) (k : Nat) (s : State) (r : _),
      let s0 := atTime t s
      tsclkRuns s = true ∧ k < 2 ∧ s.pair.remote = some r ∧ r.started + ms 1 ≤ s0.now) ∧
    (∃ (t : Nat) (k : Nat) (s : State),
      let s0 := atTime t s
      let y := reclaimTrack s0
      let x := linkOf s 0
      let stamp := lnkEgress y y.clk
      let p := { mkPacket y 6 12 0xFF 31 0 0 (hbPayload y x stamp) with lack := x.rxSeq }
      let z := lnkGrant 0 false (lnkSend 0 p (setLink 0 { x with hbSeq := (x.hbSeq + 1) % 2 ^ 32, hbWindow := some (s0.now / us 10), hbSent := (((x.hbSeq + 1) % 2 ^ 32, stamp) :: x.hbSent).take 64 } y))
      tsclkRuns s = true ∧ k < 2 ∧ operUp s 50 = true ∧ x.hbWindow ≠ some (s0.now / us 10) ∧ s.pair.st = .unpaired ∧ operUp z 51 = false) :=
  ⟨⟨0, (galeLink linkUp), (pktIn 1 false), by decide +kernel⟩,
   ⟨0, (galeLink linkUp), (pktIn 2 true), by decide +kernel⟩,
   ⟨0, 0, (galeLink linkUp), (pktIn 1 true), none, 0, by decide +kernel⟩,
   ⟨0, 0, (galeLink { linkUp with unacked := [pktIn 1 true] }), by decide +kernel⟩,
   ⟨0, 0, (galeLink { linkUp with relays := [(pktIn 3 true, 0)] }), ((pktIn 3 true, 0)), by decide +kernel⟩,
   ⟨0, 1, ({ gale with pair.remote := some remote0 }), remote0, by decide +kernel⟩,
   ⟨0, 0, (galeLink linkUp), by decide +kernel⟩⟩

theorem witness_PairEventsComplete :
    (∃ (t : Nat) (s : State),
      let s0 := atTime t s
      tsclkRuns s = true ∧ s.pair.pinToggled + us 5 ≤ s0.now) ∧
    (∃ (t : Nat) (s : State),
      let s0 := atTime t s
      tsclkRuns s = true ∧ s.pair.st = .standby ∧ s.pair.waitEnd = none ∧ hbValid s0 = false ∧ pinSilent s0 = true ∧ s.pair.hbLast = none) ∧
    (∃ (t : Nat) (s : State),
      let s0 := atTime t s
      tsclkRuns s = true ∧ s.pair.st = .standby ∧ s.pair.waitEnd = none ∧ hbValid s0 = false ∧ pinSilent s0 = false ∧ s.pair.hbLast = none) ∧
    (∃ (t : Nat) (s : State) (e : _),
      let s0 := atTime t s
      tsclkRuns s = true ∧ s.pair.waitEnd = some e ∧ e ≤ s0.now ∧ hbValid s0 = true ∧ s.pair.peerState = 3) ∧
    (∃ (t : Nat) (s : State) (e : _),
      let s0 := atTime t s
      tsclkRuns s = true ∧ s.pair.waitEnd = some e ∧ e ≤ s0.now ∧ hbValid s0 = false ∧ pinSilent s0 = true) ∧
    (∃ (t : Nat) (s : State) (e : _),
      let s0 := atTime t s
      tsclkRuns s = true ∧ s.pair.waitEnd = some e ∧ e ≤ s0.now ∧ hbValid s0 = false ∧ pinSilent s0 = false ∧ preferred s = false) ∧
    (∃ (s : State),
      tsclkRuns s = true ∧ s.pair.st = .syncing ∧ s.pair.copied = true ∧ s.pair.waitEnd = none) ∧
    (∃ (t : Nat) (s : State) (r : _),
      let s0 := atTime t s
      let y := reclaimTrack s0
      tsclkRuns s = true ∧ y.pair.reclaimFrom = some r ∧ r + holdOffS y * ticksPerSec ≤ y.now) :=
  ⟨⟨0, gale, by decide +kernel⟩,
   ⟨0, (galePair .standby), by decide +kernel⟩,
   ⟨0, ({ galePair .standby with pair.pinLast := some gale.now }), by decide +kernel⟩,
   ⟨0, ({ gale with pair.waitEnd := some 0, pair.hbLast := some gale.now, pair.peerState := 3 }), 0, by decide +kernel⟩,
   ⟨0, ({ gale with pair.waitEnd := some 0 }), 0, by decide +kernel⟩,
   ⟨0, ({ gale with pair.waitEnd := some 0, pair.pinLast := some gale.now }), 0, by decide +kernel⟩,
   ⟨({ galePair .syncing with pair.copied := true }), by decide +kernel⟩,
   ⟨0, ({ galePair .standby with pair.reclaimFrom := some 0, pair.raw := params 20 [(2, 1, 1), (4, 4, 1)] }), 0, by decide +kernel⟩⟩

theorem witness_SafetyEventsComplete :
    (∃ (t : Nat) (s : State),
      let s0 := atTime t s
      tsclkRuns s = true ∧ s.safety.kicked + ms 10 ≤ s0.now ∧ s.power.activating = none ∧ lbistRuns 0 s0 = false) ∧
    (∃ (t : Nat) (n : Nat) (s : State),
      let s0 := atTime t s
      tsclkRuns s = true ∧ 3 ≤ n ∧ n ≤ 13 ∧ clockRuns s0 n = true ∧ s.safety.freqFault.testBit (n - 1) = true ∧ s.power.resetDue = none) ∧
    (∃ (t : Nat) (n : Nat) (s : State),
      let s0 := atTime t s
      tsclkRuns s = true ∧ 3 ≤ n ∧ n ≤ 13 ∧ clockRuns s0 n = true ∧ 10 < n) ∧
    (∃ (s : State) (len : Nat),
      tsclkRuns s = true ∧ s.safety.lbistEnd = none ∧ len ≤ ms 2 ∧ (s.mode = .gale ∨ s.mode = .lee ∨ s.mode = .atelier)) ∧
    (∃ (t : Nat) (s : State) (i : Nat) (a : Nat) (h : _),
      let s0 := atTime t s
      tsclkRuns s = true ∧ s.switch.watched = [(i, a)] ∧ a + ms 1 ≤ s0.now ∧ heldOf s i = some h) :=
  ⟨⟨0, gale, by decide +kernel⟩,
   ⟨0, 13, ({ gale with safety.freqFault := 2 ^ 12 }), by decide +kernel⟩,
   ⟨0, 13, gale, by decide +kernel⟩,
   ⟨gale, (ms 2), by decide +kernel⟩,
   ⟨0, ({ galeHeld with switch.watched := [(5, 0)] }), 5, 0, held0, by decide +kernel⟩⟩

end Sys2Proof.Tests
end

section
/-!
Arbiters (R19, R20): what a grant is in terms of the requesters and the pointer, and where the pointer goes.
-/
namespace Sys2Proof.Machine

/-! ### Searching a rising list -/

/-- In a rising list the first member with a property is the least one with it. -/
theorem find?_eq_some_iff_least {p : Nat → Bool} {l : List Nat} (hl : l.Pairwise (· < ·)) (i : Nat) :
    l.find? p = some i ↔ i ∈ l ∧ p i ∧ ∀ j ∈ l, p j → i ≤ j := by
  induction l with
  | nil => simp
  | cons a l ih =>
    obtain ⟨ha, hl⟩ := List.pairwise_cons.1 hl
    by_cases hp : p a
    · rw [List.find?_cons_of_pos hp, Option.some_inj]
      constructor
      · rintro rfl
        exact ⟨List.mem_cons_self, hp, fun j hj _ =>
          (List.mem_cons.1 hj).elim (fun h => h ▸ Nat.le_refl j) fun h => Nat.le_of_lt (ha j h)⟩
      · rintro ⟨hi, -, hmin⟩
        have hia : i ≤ a := hmin a List.mem_cons_self hp
        exact (List.mem_cons.1 hi).elim Eq.symm fun h => absurd (ha i h) (Nat.not_lt.2 hia)
    · rw [List.find?_cons_of_neg hp, ih hl]
      have hne : p i → i ≠ a := fun hi h => hp (h ▸ hi)
      constructor
      · rintro ⟨hi, hpi, hmin⟩
        exact ⟨List.mem_cons_of_mem a hi, hpi, fun j hj hpj =>
          (List.mem_cons.1 hj).elim (fun h => absurd (h ▸ hpj) hp) fun h => hmin j h hpj⟩
      · rintro ⟨hi, hpi, hmin⟩
        exact ⟨(List.mem_cons.1 hi).resolve_left (hne hpi), hpi, fun j hj => hmin j (List.mem_cons_of_mem a hj)⟩

/-- The head of a rising list is its least member. -/
theorem head?_eq_some_iff_least {l : List Nat} (hl : l.Pairwise (· < ·)) (i : Nat) :
    l.head? = some i ↔ i ∈ l ∧ ∀ j ∈ l, i ≤ j := by
  have hhead : l.head? = l.find? fun _ => true := by cases l <;> rfl
  rw [hhead, find?_eq_some_iff_least hl]
  simp only [true_and, true_implies]

/-! ### The grant (R19) -/

/-- No requester at or above the pointer: all lie below it. -/
theorem find?_from_eq_none_iff (ptr : Nat) (reqs : List Nat) :
    reqs.find? (fun i => decide (ptr ≤ i)) = none ↔ ∀ j ∈ reqs, j < ptr := by
  simp only [List.find?_eq_none, decide_eq_true_eq, Nat.not_le]

/-- The pointer's own round has a requester: it is granted. -/
theorem arbGrant_of_find?_eq_some {ptr a : Nat} {reqs : List Nat}
    (h : reqs.find? (fun i => decide (ptr ≤ i)) = some a) : arbGrant ptr reqs = some a := by
  simp only [arbGrant, h]

/-- No requester is left before the pointer wraps: the first of the list is granted. -/
theorem arbGrant_of_all_below {ptr : Nat} {reqs : List Nat} (h : ∀ j ∈ reqs, j < ptr) :
    arbGrant ptr reqs = reqs.head? := by
  simp only [arbGrant, (find?_from_eq_none_iff ptr reqs).2 h]

/-- Among rising requesters, one at or above the pointer is granted before any below it, and in either range the
lowest is. -/
theorem arbGrant_eq_some_iff {ptr : Nat} {reqs : List Nat} (hr : reqs.Pairwise (· < ·)) (i : Nat) :
    arbGrant ptr reqs = some i ↔
      i ∈ reqs ∧ (ptr ≤ i ∧ (∀ j ∈ reqs, ptr ≤ j → i ≤ j) ∨ (∀ j ∈ reqs, j < ptr) ∧ ∀ j ∈ reqs, i ≤ j) := by
  cases hf : reqs.find? (fun i => decide (ptr ≤ i)) with
  | none =>
    have hbelow := (find?_from_eq_none_iff ptr reqs).1 hf
    rw [arbGrant_of_all_below hbelow, head?_eq_some_iff_least hr]
    refine and_congr_right fun hi => ?_
    have hnot : ¬ ptr ≤ i := Nat.not_le.2 (hbelow i hi)
    exact ⟨fun hmin => .inr ⟨hbelow, hmin⟩, fun h => (h.resolve_left fun h => hnot h.1).2⟩
  | some a =>
    have hsome : ¬ ∀ j ∈ reqs, j < ptr := by
      rw [← find?_from_eq_none_iff, hf]
      exact Option.some_ne_none a
    rw [arbGrant_of_find?_eq_some hf, ← hf, find?_eq_some_iff_least hr]
    simp only [decide_eq_true_eq, hsome, false_and, or_false]

/-- An arbiter grants whenever something is requested. -/
theorem arbGrant_eq_none_iff (ptr : Nat) (reqs : List Nat) : arbGrant ptr reqs = none ↔ reqs = [] := by
  cases hf : reqs.find? (fun i => decide (ptr ≤ i)) with
  | none => rw [arbGrant_of_all_below ((find?_from_eq_none_iff ptr reqs).1 hf), List.head?_eq_none_iff]
  | some a =>
    have hne : reqs ≠ [] := List.ne_nil_of_mem (List.mem_of_find?_eq_some hf)
    exact iff_of_false (by rw [arbGrant_of_find?_eq_some hf]; exact Option.some_ne_none a) hne

/-! ### The pointer (R20) -/

/-- The pointer moves to the index after the granted one, and from the last index back to 0. -/
theorem arbNext_eq_ite {n i : Nat} (h : i < n) : arbNext n i = if i + 1 = n then 0 else i + 1 := by
  unfold arbNext
  split
  case isTrue hn => rw [hn, Nat.mod_self]
  case isFalse hn => exact Nat.mod_eq_of_lt (by omega)

/-- Fetching partner `p`'s command moves the command arbiter's pointer past `p` (R68). -/
@[simp] theorem fetched_cmdArb (p : Nat) (k : Packet) (s : State) :
    (fetched p k s).kernel.cmdArb = arbNext 8 p := rfl

/-- Settles O27: a grant is a search of a rising list, first from the pointer and then from its head; the pointer is
the successor of the grant modulo N. -/
theorem arbitersGrantRoundRobin : Obligations.ArbitersGrantRoundRobin :=
  ⟨fun _ _ hr i => arbGrant_eq_some_iff hr i, arbGrant_eq_none_iff, fun _ _ => arbNext_eq_ite, fetched_cmdArb⟩

end Sys2Proof.Machine
end

section
/-!
Check values (R56): the reflected CRC is the unreflected one read in mirror order, and the trailer of a command and of
a reply is the CRC-32C of what stands before it.
-/
namespace Sys2Proof.Machine

/-! ### Mirror images -/

theorem reverse_xor {w : Nat} (c d : BitVec w) : (c ^^^ d).reverse = c.reverse ^^^ d.reverse := by
  ext i hi
  simp only [BitVec.getElem_reverse, BitVec.getElem_xor, BitVec.getMsbD_xor]

theorem reverse_shiftLeft_one {w : Nat} (c : BitVec w) : (c <<< 1).reverse = c.reverse >>> 1 := by
  ext i hi
  simp only [BitVec.getElem_reverse, BitVec.getMsbD_shiftLeft, BitVec.getElem_ushiftRight, BitVec.getLsbD_reverse,
    Nat.add_comm]

/-- A byte at the top of `w` bits is, in mirror order, its mirror image at the bottom. -/
theorem reverse_shiftLeft_setWidth_reverse {w : Nat} (h : 8 ≤ w) (b : BitVec 8) :
    (b.reverse.setWidth w <<< (w - 8)).reverse = b.setWidth w := by
  ext i hi
  have hpos : i + (w - 8) + 8 - w = i := by omega
  simp only [BitVec.getElem_reverse, BitVec.getMsbD_shiftLeft, BitVec.getMsbD_setWidth, BitVec.getElem_setWidth,
    BitVec.getMsbD_reverse, hpos, Nat.le_add_left, decide_true, Bool.true_and]

/-- The `w` bits of `m`, read in mirror order, are those of `r`. -/
def Mirrored (w m r : Nat) : Prop := ∃ c : BitVec w, c.toNat = m ∧ c.reverse.toNat = r

theorem mirrored_xor {w m r m' r' : Nat} (h : Mirrored w m r) (h' : Mirrored w m' r') :
    Mirrored w (m ^^^ m') (r ^^^ r') := by
  obtain ⟨c, rfl, rfl⟩ := h
  obtain ⟨d, rfl, rfl⟩ := h'
  exact ⟨c ^^^ d, BitVec.toNat_xor .., by rw [reverse_xor, BitVec.toNat_xor]⟩

/-- A step to the left is, in mirror order, one to the right. -/
theorem mirrored_shift {w m r : Nat} (h : Mirrored w m r) : Mirrored w (2 * m % 2 ^ w) (r / 2) := by
  obtain ⟨c, rfl, rfl⟩ := h
  refine ⟨c <<< 1, ?_, ?_⟩
  · rw [BitVec.toNat_shiftLeft, Nat.shiftLeft_eq, Nat.pow_one, Nat.mul_comm]
  · rw [reverse_shiftLeft_one, BitVec.toNat_ushiftRight, Nat.shiftRight_eq_div_pow, Nat.pow_one]

/-- The top bit is, in mirror order, the lowest. -/
theorem testBit_top_iff_of_mirrored {w m r : Nat} (h : Mirrored w m r) :
    m.testBit (w - 1) = true ↔ r % 2 = 1 := by
  obtain ⟨c, rfl, rfl⟩ := h
  rw [BitVec.testBit_toNat, ← BitVec.msb_eq_getLsbD_last, BitVec.msb_eq_getMsbD_zero, ← BitVec.getLsbD_reverse,
    ← BitVec.testBit_toNat, Nat.testBit_zero, decide_eq_true_iff]

theorem mirrored_byte {w : Nat} (h : 8 ≤ w) (b : BitVec 8) :
    Mirrored w (b.reverse.toNat * 2 ^ (w - 8)) b.toNat := by
  refine ⟨b.reverse.setWidth w <<< (w - 8), ?_, ?_⟩
  · have hlt : b.reverse.toNat * 2 ^ (w - 8) < 2 ^ w := by
      calc b.reverse.toNat * 2 ^ (w - 8) < 2 ^ 8 * 2 ^ (w - 8) :=
            Nat.mul_lt_mul_of_pos_right b.reverse.isLt (Nat.two_pow_pos _)
        _ = 2 ^ w := by rw [← Nat.pow_add, Nat.add_sub_cancel' h]
    rw [BitVec.toNat_shiftLeft, BitVec.toNat_setWidth_of_le h, Nat.shiftLeft_eq, Nat.mod_eq_of_lt hlt]
  · rw [reverse_shiftLeft_setWidth_reverse h, BitVec.toNat_setWidth_of_le h]

/-! ### The two forms of a CRC -/

section
variable {w p q : Nat} (hpq : Mirrored w p q)
include hpq

theorem mirrored_crcBit {m r : Nat} (h : Mirrored w m r) : Mirrored w (crcBitMsb w p m) (crcBit q r) := by
  have hp : p % 2 ^ w = p := by
    obtain ⟨c, rfl, -⟩ := hpq
    exact Nat.mod_eq_of_lt c.isLt
  unfold crcBitMsb crcBit
  simp only [testBit_top_iff_of_mirrored h]
  split
  · rw [Nat.xor_mod_two_pow, hp]
    exact mirrored_xor (mirrored_shift h) hpq
  · exact mirrored_shift h

theorem mirrored_crcBits (l : List Nat) {m r : Nat} (h : Mirrored w m r) :
    Mirrored w (l.foldl (fun x _ => crcBitMsb w p x) m) (l.foldl (fun x _ => crcBit q x) r) := by
  induction l generalizing m r with
  | nil => exact h
  | cons _ l ih => exact ih (mirrored_crcBit hpq h)

theorem mirrored_crcByte (hw : 8 ≤ w) (b : BitVec 8) {m r : Nat} (h : Mirrored w m r) :
    Mirrored w (crcByteMsb w p m b.reverse) (crcByte q r b) :=
  mirrored_crcBits hpq (List.range 8) (mirrored_xor h (mirrored_byte hw b))

theorem mirrored_crcBytes (hw : 8 ≤ w) (bs : Bytes) {m r : Nat} (h : Mirrored w m r) :
    Mirrored w ((bs.map BitVec.reverse).foldl (crcByteMsb w p) m) (bs.foldl (crcByte q) r) := by
  induction bs generalizing m r with
  | nil => exact h
  | cons b bs ih => exact ih (mirrored_crcByte hpq hw b h)

/-- A reflected CRC is the unreflected one of the mirrored polynomial over mirrored bytes, read in mirror order. -/
theorem mirrored_crc (hw : 8 ≤ w) (bs : Bytes) {i i' x x' : Nat} (hi : Mirrored w i i') (hx : Mirrored w x x') :
    Mirrored w (crcMsb w p i x (bs.map BitVec.reverse)) (crcReflected q i' x' bs) :=
  mirrored_xor (mirrored_crcBytes hpq hw bs hi) hx

end

/-- CRC-32C is the bit-serial CRC of polynomial 0x1EDC6F41 with reflected input and output (R56). -/
theorem crc32c_eq_reverse_crcMsb (bs : Bytes) :
    crc32c bs = (w32 (crcMsb 32 0x1EDC6F41 0xFFFFFFFF 0xFFFFFFFF (bs.map BitVec.reverse))).reverse := by
  have hones : Mirrored 32 0xFFFFFFFF 0xFFFFFFFF := ⟨0xFFFFFFFF, by decide +kernel⟩
  have hpoly : Mirrored 32 0x1EDC6F41 0x82F63B78 := ⟨0x1EDC6F41, by decide +kernel⟩
  obtain ⟨c, hm, hr⟩ := mirrored_crc hpoly (by decide) bs hones hones
  rw [crc32c, w32, ← hm, ← hr, BitVec.ofNat_toNat, BitVec.ofNat_toNat, BitVec.setWidth_eq, BitVec.setWidth_eq]

/-- The check value of CRC-32C: that of the digits 1 to 9. -/
theorem crc32c_digits : crc32c [0x31, 0x32, 0x33, 0x34, 0x35, 0x36, 0x37, 0x38, 0x39] = 0xE3069283 := by decide +kernel

/-! ### Trailers -/

theorem crcGood_iff (op : Nat) (k : Packet) :
    crcGood op k = true ↔ k.crc = crc32c (headerBytes op k ++ padTo k.plen.toNat k.params) := by
  rw [crcGood, beq_iff_eq, eq_comm]

@[simp] theorem length_leBytes (n v : Nat) : (le n v).length = n := by
  induction n generalizing v with
  | zero => rfl
  | succ n ih => rw [le, List.length_cons, ih]

/-- The 16 header bytes of a reply and its parameters: what its trailer covers (R55, R56). -/
def Reply.body (r : Reply) : Bytes :=
  [r.version, r.flags] ++ le 2 r.opcode ++ le 2 r.tag.toNat ++ le 2 r.unit.toNat ++
    le 2 r.plen ++ le 2 r.status ++ le 4 r.seq.toNat ++ r.params

theorem bytes_eq_body_append (r : Reply) : r.bytes = r.body ++ le 4 (crc32c r.body).toNat := rfl

@[simp] theorem length_body (r : Reply) : r.body.length = 16 + r.params.length := by
  simp only [Reply.body, List.length_append, List.length_cons, List.length_nil, length_leBytes]

theorem take_bytes (r : Reply) : r.bytes.take (16 + r.params.length) = r.body :=
  List.take_left' (length_body r)

/-- Settles O24: bit by bit the two forms of the CRC stay mirror images of each other, and a reply's bytes are its body
and the CRC of that. -/
theorem trailersAreCrc32c : Obligations.TrailersAreCrc32c := by
  refine ⟨crcGood_iff, fun r => ⟨?_, ?_⟩, crc32c_eq_reverse_crcMsb, crc32c_digits⟩
  · rw [take_bytes, bytes_eq_body_append]
  · rw [bytes_eq_body_append, List.length_append, length_body, length_leBytes]
    omega

end Sys2Proof.Machine
end

section
/-!
The sequence check (R60), the fetch of a command and the reply ring (R58).
-/
namespace Sys2Proof.Machine

/-! ### A command out of sequence (R60) -/

/-- A packet that passes steps 1 and 2 of R62 with another SEQ than the expected one stops at step 3. -/
theorem runFetched_badSequence (o : CmdSpec) (p : Nat) (k : Packet) (s : State) (hlen : k.plen.toNat ≤ 4076)
    (hcrc : crcGood o.opcode k = true) (hhead : headerCheck o k = none) (hany : (partner s p).seqAny = false)
    (hseq : k.seq ≠ (partner s p).seqNext) :
    runFetched specOf o p k (fetched p k s) =
      (fetched p k s, { status := stBadSequence, params := le 4 (partner s p).seqNext.toNat }) := by
  have hq : (!(partner (fetched p k s) p).seqAny && k.seq != (partner (fetched p k s) p).seqNext) = true := by
    rw [partner_fetched]
    simp [hany, hseq]
  unfold runFetched
  simp only [Nat.not_lt.2 hlen, if_false, hcrc, Bool.not_true, Bool.false_eq_true, hhead, hq, if_true]
  rw [partner_fetched]

/-- A reply leaves what the next SEQ of its partner must be. -/
theorem seq_writeReply (p : Nat) (r : Reply) (s : State) :
    (partner (writeReply p r s) p).seqNext = (partner s p).seqNext ∧
      (partner (writeReply p r s) p).seqAny = (partner s p).seqAny := by
  obtain ⟨hnext, hany⟩ := evqOnly_seq (partner_writeReply p r s)
  rw [hnext, hany, putReply_only]
  exact ⟨rfl, rfl⟩

theorem units_writeReply (p : Nat) (r : Reply) (s : State) :
    (writeReply p r s).power = s.power ∧ (writeReply p r s).tables = s.tables ∧ (writeReply p r s).ports = s.ports := by
  rw [kernelOnly_writeReply p r s]
  exact ⟨rfl, rfl, rfl⟩

/-- Where no frame carries the reply (R602), an answer leaves what the next SEQ must be, and the power,
tables and ports of the state it is given on. -/
theorem respond_frame (o : CmdSpec) (t p : Nat) (k : Packet) (a : Answer) (s y : State)
    (ht : (partner y p).transport ≠ 5) :
    let z := respond o t p k a s y
    (partner z p).seqNext = (partner y p).seqNext ∧ (partner z p).seqAny = (partner y p).seqAny ∧
      z.power = y.power ∧ z.tables = y.tables ∧ z.ports = y.ports := by
  dsimp only
  rw [respond, inbandReplies_off]
  · obtain ⟨hnext, hany⟩ := seq_writeReply p (replyTo o k a) { y with pair.remote := none }
    exact ⟨hnext, hany, units_writeReply p (replyTo o k a) { y with pair.remote := none }⟩
  · rw [transport_writeReply]
    exact ht

/-- Settles O22: the run stops at the sequence check, and all that follows is the reply. -/
theorem badSequenceKeepsTheExpectedOne : Obligations.BadSequenceKeepsTheExpectedOne := by
  intro i o t p k s hi hfetch hlen hcrc hhead hany hseq
  have hrun : exec i s = .next (respond o t p k
      { status := stBadSequence, params := le 4 (partner s p).seqNext.toNat } s (fetched p k (atTime t s))) := by
    have hremote : (fetched p k (atTime t s)).pair.remote = none := remote_of_canFetch p k (atTime t s) hfetch
    rw [exec_commandOf i o t p k s hi, runCommand_answers o t p k s _ _ hfetch (fun _ => hremote)
      (runFetched_badSequence o p k _ hlen hcrc hhead hany hseq), partner_atTime]
  refine ⟨hrun, fun ht => ⟨_, hrun, ?_⟩⟩
  have hp := partner_fetched p k (atTime t s)
  obtain ⟨hnext, hkeep, hunits⟩ := respond_frame o t p k
    { status := stBadSequence, params := le 4 (partner s p).seqNext.toNat } s (fetched p k (atTime t s))
    (by rw [hp]; exact ht)
  rw [hp] at hnext hkeep
  exact ⟨hnext, hkeep.trans hany, hunits⟩

/-! ### The fetch and the reply ring (R58) -/

theorem canFetch_eq_false (p : Nat) (k : Packet) (s : State)
    (h : ((partner s p).reqTail - (partner s p).reqHead).toNat < packetSlots k.plen.toNat ∨ (partner s p).waiting ≠ [] ∨
      (partner s p).replyRoom = 0) : canFetch p k s = false := by
  rcases h with htail | hwait | hroom
  · simp only [canFetch, Nat.not_le.2 htail, decide_false, Bool.and_false]
  · simp [canFetch, hwait]
  · simp [canFetch, hroom]

theorem putReply_of_room {x : Partner} {r : Reply} (hroom : packetSlots r.params.length ≤ x.replyRoom)
    (hwait : x.waiting = []) : x.putReply r =
      { x with rplTail := x.rplTail + BitVec.ofNat 16 (packetSlots r.params.length)
               replies := x.replies ++ [(x.rplTail + BitVec.ofNat 16 (packetSlots r.params.length), r)] } := by
  rw [Partner.putReply, if_pos ⟨hroom, hwait⟩]

theorem putReply_of_no_room {x : Partner} {r : Reply}
    (h : x.replyRoom < packetSlots r.params.length ∨ x.waiting ≠ []) :
    x.putReply r = { x with waiting := x.waiting ++ [r] } := by
  rw [Partner.putReply, if_neg]
  rintro ⟨hroom, hwait⟩
  exact h.elim (Nat.not_lt.2 hroom) (absurd hwait)

/-- The reply ring after a reply is written is the one `putReply` gives. -/
theorem ring_writeReply (p : Nat) (r : Reply) (s : State) :
    let y := partner (writeReply p r s) p
    let z := (partner s p).putReply r
    y.rplTail = z.rplTail ∧ y.replies = z.replies ∧ y.waiting = z.waiting := by
  dsimp only
  rw [partner_writeReply p r s]
  exact ⟨rfl, rfl, rfl⟩

/-- Settles O23: `canFetch` fails under each of the three conditions, and a reply is put in the ring whole or kept
waiting. -/
theorem fetchAndReplyRoom : Obligations.FetchAndReplyRoom := by
  refine ⟨fun i o t p k s hi h => ?_, fun p r s => ?_⟩
  · rw [exec_commandOf i o t p k s hi, runCommand_waits o t p k s (canFetch_eq_false p k (atTime t s) h)]
  · obtain ⟨htail, hreplies, hwaiting⟩ := ring_writeReply p r s
    dsimp only at htail hreplies hwaiting ⊢
    rw [htail, hreplies, hwaiting]
    constructor
    · intro hroom hwait
      rw [putReply_of_room hroom hwait]
      exact ⟨rfl, rfl, hwait⟩
    · intro h
      rw [putReply_of_no_room h]
      exact ⟨rfl, rfl, rfl⟩

end Sys2Proof.Machine
end

section
/-!
Event queues: what a write does to a queue with and without room (R93, R94), and what the event window reads (R97).
-/
namespace Sys2Proof.Machine

/-! ### The operations of a queue -/

/-- R93 as the queue's pointers say it. -/
theorem room_iff (q : EvQueue) : q.room = true ↔
    (q.wr - q.rel).toNat < 2 * q.half ∧ (q.wr.toNat % q.half = 0 → (q.wr - q.rel).toNat ≤ q.half) := by
  simp only [EvQueue.room, Bool.and_eq_true, Bool.or_eq_true, bne_iff_ne, decide_eq_true_eq, ne_eq,
    Decidable.imp_iff_not_or]
  rfl

section
variable (q : EvQueue) (hostp : Bool) (now : Tick) (r : EventRecord)

@[simp] theorem push_wr : (q.push hostp now r).wr = q.wr + 1 := rfl
@[simp] theorem push_rel : (q.push hostp now r).rel = q.rel := rfl
@[simp] theorem push_lastSeq : (q.push hostp now r).lastSeq = nextEventSeq q.lastSeq := rfl
@[simp] theorem push_lost : (q.push hostp now r).lost = q.lost := rfl
@[simp] theorem push_records :
    (q.push hostp now r).records = q.records ++ [{ r with seq := nextEventSeq q.lastSeq }] := rfl

@[simp] theorem drop_wr : q.drop.wr = q.wr := rfl
@[simp] theorem drop_rel : q.drop.rel = q.rel := rfl
@[simp] theorem drop_lastSeq : q.drop.lastSeq = nextEventSeq q.lastSeq := rfl
@[simp] theorem drop_records : q.drop.records = q.records := rfl
@[simp] theorem drop_lost : q.drop.lost = q.lost + 1 := rfl
@[simp] theorem drop_firstLost : q.drop.firstLost = if q.lost = 0 then nextEventSeq q.lastSeq else q.firstLost := rfl

/-- The queue once the EVQ_OVERFLOW record of its lost events is written (R94). -/
def EvQueue.pushOverflow : EvQueue := { q.push hostp now (overflowRecord q now) with lost := 0 }

@[simp] theorem pushOverflow_wr : (q.pushOverflow hostp now).wr = q.wr + 1 := rfl
@[simp] theorem pushOverflow_rel : (q.pushOverflow hostp now).rel = q.rel := rfl
@[simp] theorem pushOverflow_half : (q.pushOverflow hostp now).half = q.half := rfl
@[simp] theorem pushOverflow_lastSeq : (q.pushOverflow hostp now).lastSeq = nextEventSeq q.lastSeq := rfl
@[simp] theorem pushOverflow_lost : (q.pushOverflow hostp now).lost = 0 := rfl
@[simp] theorem pushOverflow_records : (q.pushOverflow hostp now).records =
    q.records ++ [{ overflowRecord q now with seq := nextEventSeq q.lastSeq }] := rfl

/-- What a write of an event makes of a queue (R93, R94). -/
def EvQueue.written : EvQueue :=
  if !q.room then q.drop
  else if q.lost = 0 then q.push hostp now r
  else if (q.pushOverflow hostp now).room then (q.pushOverflow hostp now).push hostp now r
  else (q.pushOverflow hostp now).drop

variable {q}

theorem written_of_full (h : ¬ q.room = true) : q.written hostp now r = q.drop := by
  simp only [EvQueue.written, h, Bool.not_false, if_true]

theorem written_of_room (h : q.room = true) (hl : q.lost = 0) : q.written hostp now r = q.push hostp now r := by
  simp only [EvQueue.written, h, hl, Bool.not_true, Bool.false_eq_true, if_false, if_true]

variable {hostp now}

theorem written_of_room_for_both (h : q.room = true) (hl : q.lost ≠ 0) (h2 : (q.pushOverflow hostp now).room = true) :
    q.written hostp now r = (q.pushOverflow hostp now).push hostp now r := by
  simp only [EvQueue.written, h, hl, h2, Bool.not_true, Bool.false_eq_true, if_false, if_true]

theorem written_of_room_for_overflow (h : q.room = true) (hl : q.lost ≠ 0)
    (h2 : ¬ (q.pushOverflow hostp now).room = true) :
    q.written hostp now r = (q.pushOverflow hostp now).drop := by
  simp only [EvQueue.written, h, hl, h2, Bool.not_true, Bool.false_eq_true, if_false]

@[simp] theorem written_rel : (q.written hostp now r).rel = q.rel := by
  unfold EvQueue.written
  split
  · rw [drop_rel]
  split
  · rw [push_rel]
  split
  · rw [push_rel, pushOverflow_rel]
  · rw [drop_rel, pushOverflow_rel]

end

/-- An event leaves its attached partner's queue as `EvQueue.written` says. -/
theorem evq_writeEvent (p : Nat) (r : EventRecord) (s : State) (h : (partner s p).attached = true) :
    (partner (writeEvent p r s) p).evq =
      (partner s p).evq.written ((partner s p).transport == 1) s.now r := by
  unfold writeEvent EvQueue.written
  simp only [h, Bool.not_true, Bool.false_eq_true, if_false]
  split
  · rw [partner_setPartner_self]
  split
  · rw [partner_signalVectors, partner_setPartner_self]
  rw [EvQueue.pushOverflow]
  split
  · rw [partner_signalVectors, partner_setPartner_self]
  · rw [partner_signalVectors, partner_setPartner_self]

theorem ledger_signalVectors (p : Nat) (x : Partner) (a b : EvQueue) (f : Bool) (s : State) :
    (signalVectors p x a b f s).kernel.ledger = s.kernel.ledger := by
  unfold signalVectors
  split
  · by_cases h : a.sig ≠ b.sig <;> cases f <;> simp [h, raiseVec]
  · rfl

theorem ledger_writeEvent (p : Nat) (r : EventRecord) (s : State) :
    (writeEvent p r s).kernel.ledger = s.kernel.ledger := by
  unfold writeEvent
  simp only []
  repeat' split
  all_goals first | rfl | (rw [ledger_signalVectors]; rfl)

/-- A release of a pointer in range leaves WR where it is (R98). -/
theorem evqRelease_wr (p : Nat) (ptr : Half) (s : State) (h : (partner s p).evq.inRange ptr = true) :
    (partner (evqRelease p ptr s) p).evq.wr = (partner s p).evq.wr := by
  unfold evqRelease
  simp only [h, Bool.not_true, Bool.false_eq_true, if_false, partner_setPartner_self]

/-- Settles O26: the queue after a write is `EvQueue.written`, whose four cases the conditions of R93 tell apart. -/
theorem eventsNeedRoom : Obligations.EventsNeedRoom := by
  intro p r s hatt q z free n1 ovf
  have hz : z = q.written ((partner s p).transport == 1) s.now r := evq_writeEvent p r s hatt
  have hnext : (q.pushOverflow ((partner s p).transport == 1) s.now).room = true ↔ free (q.wr + 1) := by
    rw [room_iff, pushOverflow_wr, pushOverflow_rel, pushOverflow_half]
  rw [hz]
  refine ⟨ledger_writeEvent p r s, written_rel r, fun hfull => ?_, fun hroom hl => ?_, fun hroom hl hboth => ?_,
    fun hroom hl hone => ?_, fun ptr => evqRelease_wr p ptr s⟩
  · rw [written_of_full _ _ _ (mt (room_iff q).1 hfull)]
    exact ⟨drop_wr q, drop_records q, drop_lastSeq q, drop_lost q, drop_firstLost q⟩
  · rw [written_of_room _ _ _ ((room_iff q).2 hroom) hl]
    exact ⟨push_wr .., push_records .., push_lastSeq .., (push_lost ..).trans hl⟩
  · rw [written_of_room_for_both _ ((room_iff q).2 hroom) hl (hnext.2 hboth)]
    refine ⟨?_, ?_, push_lastSeq .., push_lost ..⟩
    · rw [push_wr, pushOverflow_wr, BitVec.add_assoc]
      rfl
    · rw [push_records, pushOverflow_records, List.append_assoc]
      rfl
  · rw [written_of_room_for_overflow _ ((room_iff q).2 hroom) hl (mt hnext.1 hone)]
    exact ⟨drop_wr _, drop_records _, drop_lastSeq _, drop_lost _, drop_firstLost _⟩

/-! ### The event window (R97) -/

/-- A window read of an attached partner answers the word that `windowRead` gives. -/
theorem exec_eventWindowRead (t p off : Nat) (s : State) (hrun : tsclkRuns s = true)
    (hatt : (partner s p).attached = true) (hoff : off < 0x20) :
    exec (.eventWindowRead t p off) s = .next (answered (windowRead p off (atTime t s))) := by
  have hserved : ((partner (atTime t s) p).attached && decide (off < 0x20)) = true := by
    rw [partner_atTime, hatt, decide_eq_true hoff, Bool.true_and]
  show Host.Outcome.next (whenRuns t _ s) = _
  rw [whenRuns_on _ _ _ hrun, only, if_pos hserved]
  rfl

/-- At offset 0 an empty queue latches an idle item. -/
theorem windowRead_idle (p : Nat) (s : State) (h : (partner s p).evq.rd = (partner s p).evq.wr) :
    let x := partner s p
    let i := EventRecord.idle x.evq.lastSeq
    windowRead p 0 s = (leAt i.bytes 0 4, setPartner p { x with evq := { x.evq with latch := i } } s) := by
  simp only [windowRead, h, if_true, Nat.zero_div, Nat.zero_mul]

/-- At offset 0 a queue with an unread record latches the record at RD, which advances. -/
theorem windowRead_record (p : Nat) (s : State) (r : EventRecord) (h : (partner s p).evq.rd ≠ (partner s p).evq.wr)
    (hr : (partner s p).evq.records[((partner s p).evq.rd - (partner s p).evq.rel).toNat]? = some r) :
    let x := partner s p
    windowRead p 0 s =
      (leAt r.bytes 0 4, setPartner p { x with evq := { x.evq with latch := r, rd := x.evq.rd + 1 } } s) := by
  simp only [windowRead, h, if_true, if_false, List.getD_eq_getElem?_getD, hr, Option.getD_some, Nat.zero_div,
    Nat.zero_mul]

/-- At any other word the latched record is read, and the queue stays. -/
theorem windowRead_word (p off : Nat) (s : State) (h : off ≠ 0) :
    windowRead p off s = (leAt (partner s p).evq.latch.bytes (off / 4 * 4) 4, setPartner p (partner s p) s) := by
  simp only [windowRead, h, if_false]

/-- Settles O25: a read runs `windowRead`, and each kind of offset is one of its cases. -/
theorem eventWindowReads : Obligations.EventWindowReads := by
  intro t p s hrun hatt s0 x q
  refine ⟨fun hempty => ?_, fun hmore r hr => ?_, fun k hk => ?_⟩
  · rw [exec_eventWindowRead t p 0 s hrun hatt (by decide), windowRead_idle p (atTime t s) hempty]
    rfl
  · rw [exec_eventWindowRead t p 0 s hrun hatt (by decide), windowRead_record p (atTime t s) r hmore hr]
    rfl
  · have hword : (4 * k + 4) / 4 * 4 = 4 * k + 4 := by omega
    rw [exec_eventWindowRead t p _ s hrun hatt (by omega), windowRead_word p _ _ (Nat.succ_ne_zero _), hword]
    rfl

end Sys2Proof.Machine
end

section
/-!
What a row can do to the mode, the main domain, RATE_ADJ and the queue (R485, R486, R622, R625, R627 to R630): said
once for every row, from which the invariant of a step and the possible changes of mode follow.
-/
namespace Sys2Proof.Machine

/-! ### The kinds of row -/

/-- A state has the mode, the main domain's state, RATE_ADJ and the queue of another. -/
structure SameBase (s s' : State) : Prop where
  mode : s'.mode = s.mode
  mainUp : s'.mainUp = s.mainUp
  rate : s'.rateAdj = s.rateAdj
  pending : s'.pending = s.pending

/-- The main domain is out of reset exactly where TSCLK runs, RATE_ADJ stays or is cleared, and the queue stays. -/
structure Settled (s s' : State) : Prop where
  mainUp : modeOk s'
  rate : s'.rateAdj = s.rateAdj ∨ s'.rateAdj = 0
  pending : s'.pending = s.pending

/-- What the row `i` can do to the mode, the main domain, RATE_ADJ and the queue. -/
inductive BaseStep (i : Instr) (s s' : State) : Prop
  /-- Every command, and every event that is none of the following. -/
  | same (h : SameBase s s')
  /-- The servo writes RATE_ADJ within its limits (R486). -/
  | servo (h : SameBase s { s' with rateAdj := s.rateAdj }) (rate : rateOk s')
  /-- A reset, a transition, a sleep entry, a resume or a start-up (R612, R613, R622, R625, R627, R630). -/
  | settled (h : Settled s s') (change : mayChange s.mode s'.mode = true)
  /-- A start-up that performs the reset that was due, whatever the mode was (R630). -/
  | restart (h : Settled s s') (due : s.power.resetDue ≠ none) (row : ∃ t a b c d e f, i = .startUp t a b c d e f)
      (change : mayChange .calm s'.mode = true)

/-! ### The wrappers of rows keep the base -/

theorem sameBase_refl (s : State) : SameBase s s := ⟨rfl, rfl, rfl, rfl⟩

theorem sameBase_atTime (t : Tick) (s : State) : SameBase s (atTime t s) := ⟨rfl, rfl, rfl, rfl⟩

theorem sameBase_holdBase (t : Tick) (s y : State) : SameBase s (holdBase (atTime t s) y) := ⟨rfl, rfl, rfl, rfl⟩

theorem sameBase_ite {c : Prop} [Decidable c] {s a b : State} (ha : SameBase s a) (hb : SameBase s b) :
    SameBase s (if c then a else b) := by
  split
  · exact ha
  · exact hb

theorem sameBase_whenAny (t : Tick) (f : State → State) (s : State) : SameBase s (whenAny t f s) :=
  sameBase_holdBase t s _

theorem sameBase_whenRuns (t : Tick) (f : State → State) (s : State) : SameBase s (whenRuns t f s) :=
  sameBase_ite (sameBase_holdBase t s _) (sameBase_atTime t s)

theorem sameBase_whenPairA (t : Tick) (f : State → State) (s : State) : SameBase s (whenPairA t f s) :=
  sameBase_ite (sameBase_holdBase t s _) (sameBase_atTime t s)

theorem sameBase_whenPairB (t : Tick) (f : State → State) (s : State) : SameBase s (whenPairB t f s) :=
  sameBase_ite (sameBase_holdBase t s _) (sameBase_atTime t s)

theorem sameBase_runCommand (o : CmdSpec) (t p : Nat) (k : Packet) (s : State) : SameBase s (runCommand o t p k s) :=
  sameBase_ite (sameBase_holdBase t s _) (sameBase_atTime t s)

/-! ### Resets (R612, R613, R643) -/

theorem mayChange_calm (m : Mode) : mayChange m .calm = true := by
  cases m <;> rfl

theorem mayChange_refl (m : Mode) : mayChange m m = true := by
  simp [mayChange]

/-- A reset leaves Calm. -/
structure Resets (s s' : State) : Prop where
  mode : s'.mode = .calm
  settled : Settled s s'

theorem resets_clearMain (s : State) : Resets s (clearMain s) := by
  refine ⟨rfl, rfl, ?_, rfl⟩
  show (if s.power.asleep then s.rateAdj else 0) = _ ∨ (if s.power.asleep then s.rateAdj else 0) = 0
  split
  · exact .inl rfl
  · exact .inr rfl

theorem resets_powerOnReset (s : State) : Resets s (powerOnReset s) := ⟨rfl, rfl, .inr rfl, rfl⟩

theorem resets_mainReset (c : Nat) (s : State) : Resets s (mainReset c s) := by
  obtain ⟨hmode, hup, hrate, hpending⟩ := resets_clearMain s
  exact ⟨hmode, hup, hrate, hpending⟩

theorem Resets.baseStep {i : Instr} {s a b : State} (h : Resets a b) (hs : SameBase s a) : BaseStep i s b := by
  obtain ⟨hmode, hup, hrate, hpending⟩ := h
  rw [hs.rate] at hrate
  exact .settled ⟨hup, hrate, hpending.trans hs.pending⟩ (hmode ▸ mayChange_calm s.mode)

/-- The reset that is due is performed where the main domain is out of reset, and else waits. -/
theorem performReset_cases (s : State) :
    performReset s = s ∨ s.power.resetDue ≠ none ∧ ∃ c, performReset s = mainReset c s := by
  unfold performReset
  split
  · next c hdue =>
    split
    · exact .inr ⟨by simp [hdue], c, rfl⟩
    · exact .inl rfl
  · exact .inl rfl

theorem baseStep_thenReset (i : Instr) (t : Tick) (f : State → State) (s : State) : BaseStep i s (thenReset t f s) := by
  unfold thenReset
  dsimp only
  rcases performReset_cases (holdBase (atTime t s) (f (atTime t s))) with h | ⟨-, c, h⟩
  · rw [h]
    exact .same (sameBase_holdBase t s _)
  · rw [h]
    exact (resets_mainReset c _).baseStep (sameBase_holdBase t s _)

/-! ### Pins and supplies (R611 to R613, R765) -/

theorem baseStep_porst (i : Instr) (t : Tick) (low : Bool) (s : State) : BaseStep i s (porstPin low (atTime t s)) := by
  cases low
  · exact .same ⟨rfl, rfl, rfl, rfl⟩
  · exact (resets_powerOnReset { atTime t s with power.porst := true }).baseStep ⟨rfl, rfl, rfl, rfl⟩

theorem baseStep_sysRst (i : Instr) (t : Tick) (low : Bool) (s : State) : BaseStep i s (sysRstPin low (atTime t s)) := by
  unfold sysRstPin
  dsimp only
  split
  · exact (resets_mainReset 4 { atTime t s with power.sysRst := low }).baseStep ⟨rfl, rfl, rfl, rfl⟩
  · exact .same ⟨rfl, rfl, rfl, rfl⟩

theorem baseStep_pwrGoodFall (i : Instr) (t : Tick) (s : State) : BaseStep i s (pwrGoodFall (atTime t s)) := by
  unfold pwrGoodFall
  dsimp only
  split
  · exact (resets_mainReset 6 { atTime t s with power.pwrGood := false }).baseStep ⟨rfl, rfl, rfl, rfl⟩
  · exact .same ⟨rfl, rfl, rfl, rfl⟩

theorem baseStep_pwrGoodTimeout (i : Instr) (t : Tick) (s : State) : BaseStep i s (pwrGoodTimeout (atTime t s)) := by
  obtain ⟨hmode, hup, hrate, hpending⟩ := resets_clearMain (atTime t s)
  unfold pwrGoodTimeout
  split
  · exact .same (sameBase_atTime t s)
  · split
    · exact .same ⟨rfl, rfl, rfl, rfl⟩
    · exact Resets.baseStep (a := atTime t s) ⟨hmode, hup, hrate, hpending⟩ (sameBase_atTime t s)

theorem baseStep_standbyDrop (i : Instr) (t : Tick) (s : State) : BaseStep i s (standbyDrop (atTime t s)) :=
  (resets_powerOnReset (atTime t s)).baseStep (sameBase_atTime t s)

theorem baseStep_calmAfterExpiry (i : Instr) (t : Tick) (s : State) : BaseStep i s (calmAfterExpiry (atTime t s)) := by
  obtain ⟨hmode, hup, hrate, hpending⟩ := resets_clearMain (atTime t s)
  unfold calmAfterExpiry
  split
  · exact Resets.baseStep (a := atTime t s) ⟨rfl, hup, hrate, hpending⟩ (sameBase_atTime t s)
  · exact .same (sameBase_atTime t s)

/-! ### Sleep entry and transitions (R622, R625) -/

/-- What an event of the power unit does to the mode and the main domain is what its function does. -/
theorem baseStep_whenModes (i : Instr) (t : Tick) (f : State → State) (s : State)
    (hf : let y := f (atTime t s)
      (y.mode = s.mode ∧ y.mainUp = s.mainUp) ∨ modeOk y ∧ mayChange s.mode y.mode = true) :
    BaseStep i s (whenModes t f s) := by
  unfold whenModes
  dsimp only
  split
  · rcases hf with ⟨hmode, hup⟩ | ⟨hok, hchange⟩
    · exact .same ⟨hmode, hup, rfl, rfl⟩
    · exact .settled ⟨hok, .inl rfl, rfl⟩ hchange
  · exact .same (sameBase_atTime t s)

theorem sleepEntry_modes (s : State) :
    sleepEntry s = s ∨ modeOk (sleepEntry s) ∧ mayChange s.mode (sleepEntry s).mode = true := by
  unfold sleepEntry
  split
  · exact .inl rfl
  · next x hx =>
    split
    · exact .inl rfl
    · next hmay =>
      have hmode : s.mode = .gale ∨ s.mode = .breeze := 
        Decidable.byContradiction fun h => hmay (.inr (by rw [decide_eq_false h]; rfl))
      refine .inr ?_
      dsimp only
      split
      · refine ⟨rfl, ?_⟩
        rcases hmode with h | h <;> rw [h] <;> rfl
      · exact ⟨rfl, mayChange_calm _⟩

theorem baseStep_sleepEntry (i : Instr) (t : Tick) (s : State) :
    BaseStep i s (whenModes t (fun s => sleepEntry s) s) := by
  refine baseStep_whenModes i t _ s ?_
  rcases sleepEntry_modes (atTime t s) with h | h
  · exact .inl (by rw [h]; exact ⟨rfl, rfl⟩)
  · exact .inr h

theorem mayTurn_runs {a b : Mode} (h : mayTurn a b = true) : (b != .calm && b != .zephyr) = true := by
  cases a <;> cases b <;> simp_all [mayTurn]

theorem mayChange_of_mayTurn {a b : Mode} (h : mayTurn a b = true) : mayChange a b = true := by
  simp [mayChange, h]

theorem transitionDone_modes (s : State) :
    transitionDone s = s ∨ modeOk (transitionDone s) ∧ mayChange s.mode (transitionDone s).mode = true := by
  unfold transitionDone
  split
  · exact .inl rfl
  · next x hx =>
    split
    · exact .inl rfl
    · next hmay =>
      have hturn : mayTurn s.mode x.target = true := by simpa using hmay
      exact .inr ⟨(mayTurn_runs hturn).symm, mayChange_of_mayTurn hturn⟩

theorem baseStep_transitionDone (i : Instr) (t : Tick) (s : State) :
    BaseStep i s (whenModes t (fun s => transitionDone s) s) := by
  refine baseStep_whenModes i t _ s ?_
  rcases transitionDone_modes (atTime t s) with h | h
  · exact .inl (by rw [h]; exact ⟨rfl, rfl⟩)
  · exact .inr h

/-! ### Start-up and resume (R627, R630) -/

theorem startMode_runs (x : Option Transition) : startMode x = .gale ∨ startMode x = .breeze := by
  unfold startMode
  split
  · split
    · exact .inr rfl
    · exact .inl rfl
  · exact .inl rfl

/-- The mode in which a start-up ends is one in which TSCLK runs, and one that Calm may lead to. -/
theorem started_mode (recovery : Bool) (x : Option Transition) :
    let m := if recovery then .atelier else startMode x
    true = (m != .calm && m != .zephyr) ∧ mayChange .calm m = true := by
  cases recovery
  · rcases startMode_runs x with h | h <;> simp [h, mayChange]
  · exact ⟨rfl, rfl⟩

theorem baseStep_zephyrResume (i : Instr) (t rst n : Nat) (h : Bytes) (lbist : Option Nat) (s : State) :
    BaseStep i s (zephyrResume rst n h lbist (atTime t s)) := by
  obtain ⟨hmode, hup, hrate, hpending⟩ := resets_clearMain (atTime t s)
  unfold zephyrResume
  split
  · exact .same (sameBase_atTime t s)
  · next x hx =>
    split
    · exact .same (sameBase_atTime t s)
    · next hmay =>
      have hz : s.mode = .zephyr :=
        Decidable.byContradiction fun hne => hmay (Bool.or_eq_true_iff.2 (.inr (bne_iff_ne.2 hne)))
      cases lbist with
      | some k => exact .same ⟨rfl, rfl, rfl, rfl⟩
      | none =>
        dsimp only
        split
        · exact Resets.baseStep (a := atTime t s) ⟨hmode, hup, hrate, hpending⟩ (sameBase_atTime t s)
        · rcases startMode_runs (some x) with hs | hs
          · exact .settled ⟨by simp [modeOk, hs], .inl rfl, rfl⟩ (by simp [hs, hz, mayChange])
          · exact .settled ⟨by simp [modeOk, hs], .inl rfl, rfl⟩ (by simp [hs, hz, mayChange])

/-- A start-up stops short, or ends in a mode in which TSCLK runs; it starts from Calm. -/
theorem startUp_cases (rst n : Nat) (lbist : Option Nat) (rd : List Nat) (trained pcie : Bool) (s : State) :
    let z := performReset s
    let s' := startUp rst n lbist rd trained pcie s
    SameBase z s' ∨ z.mode = .calm ∧ (modeOk s' ∧ mayChange .calm s'.mode = true) ∧ s'.rateAdj = z.rateAdj ∧
      s'.pending = z.pending := by
  unfold startUp
  dsimp only
  split
  · exact .inl (sameBase_refl _)
  · next hmay =>
    have hc : (performReset s).mode = .calm :=
      Decidable.byContradiction fun hne => hmay (Bool.or_eq_true_iff.2 (.inr (bne_iff_ne.2 hne)))
    cases lbist with
    | some k => exact .inl ⟨rfl, rfl, rfl, rfl⟩
    | none =>
      exact .inr ⟨hc, started_mode _ _, rfl, rfl⟩

theorem baseStep_startUp (t rst n : Nat) (lbist : Option Nat) (rd : List Nat) (trained pcie : Bool) (s : State) :
    BaseStep (.startUp t rst n lbist rd trained pcie) s (startUp rst n lbist rd trained pcie (atTime t s)) := by
  have hcases := startUp_cases rst n lbist rd trained pcie (atTime t s)
  generalize startUp rst n lbist rd trained pcie (atTime t s) = s' at hcases ⊢
  dsimp only at hcases
  rcases performReset_cases (atTime t s) with hz | ⟨hdue, c, hz⟩
  · rw [hz] at hcases
    rcases hcases with h | ⟨hcalm, ⟨hok, hchange⟩, hrate, hpending⟩
    · exact .same ⟨h.mode, h.mainUp, h.rate, h.pending⟩
    · exact .settled ⟨hok, .inl hrate, hpending⟩ ((show s.mode = .calm from hcalm) ▸ hchange)
  · rw [hz] at hcases
    obtain ⟨hmode, hup, hrate, hpending⟩ := resets_mainReset c (atTime t s)
    rcases hcases with h | ⟨-, ⟨hok, hchange⟩, hr, hp⟩
    · exact Resets.baseStep (a := atTime t s) ⟨h.mode.trans hmode, by rw [modeOk, h.mainUp, h.mode]; exact hup,
        by rw [h.rate]; exact hrate, h.pending.trans hpending⟩ (sameBase_atTime t s)
    · exact .restart ⟨hok, by rw [hr]; exact hrate, hp.trans hpending⟩ hdue ⟨t, rst, n, lbist, rd, trained, pcie, rfl⟩ hchange

/-! ### Every row -/

theorem rateOk_rateRange (v : Int) : -2147483 ≤ rateRange v ∧ rateRange v ≤ 2147483 := by
  unfold rateRange
  omega

theorem baseStep_whenServo (i : Instr) (t : Tick) (f : State → State) (s : State) : BaseStep i s (whenServo t f s) := by
  unfold whenServo
  dsimp only
  split
  · exact .servo ⟨rfl, rfl, rfl, rfl⟩ (rateOk_rateRange _)
  · exact .same (sameBase_atTime t s)

/-- An event of power, of a reset or of the servo is one of the shapes above; every other one keeps the base. -/
theorem event_baseStep (i : Instr) (s : State) (hevent : commandOf i = none) :
    match exec i s with
    | .next s' => BaseStep i s s'
    | _ => True := by
  cases i
  all_goals cases hevent
  case gptpSyncRx => exact baseStep_whenServo ..
  case porst => exact baseStep_porst ..
  case sysRst => exact baseStep_sysRst ..
  case pwrGoodFall => exact baseStep_pwrGoodFall ..
  case pwrGoodTimeout => exact baseStep_pwrGoodTimeout ..
  case vstby1v8Drop => exact baseStep_standbyDrop ..
  case calmAfterExpiry => exact baseStep_calmAfterExpiry ..
  case sleepEntry => exact baseStep_sleepEntry ..
  case modeTransitionDone => exact baseStep_transitionDone ..
  case zephyrResume => exact baseStep_zephyrResume ..
  case startUp => exact baseStep_startUp ..
  case watchdogExpiry | clockMonitor | lockstepMismatch => exact baseStep_thenReset ..
  case wakePatternTimeout => exact .same (sameBase_atTime ..)
  case ringDb | pciePerst | tamperDetect | wakeDetect | comparatorDetect | pwrGoodRise | slowclkStable =>
    exact .same (sameBase_whenAny ..)
  case gptpSyncTx | legalCheck | grandmasterElected | pathDelayMeasure => exact .same (sameBase_whenPairB ..)
  case inbandFrame => exact .same (sameBase_whenPairA ..)
  all_goals exact .same (sameBase_whenRuns ..)

theorem exec_baseStep {i : Instr} {s s' : State} (h : exec i s = .next s') : BaseStep i s s' := by
  cases hc : commandOf i with
  | some row =>
    obtain ⟨o, t, p, k⟩ := row
    rw [exec_commandOf i o t p k s hc] at h
    cases h
    exact .same (sameBase_runCommand o t p k s)
  | none =>
    have := event_baseStep i s hc
    rw [h] at this
    exact this

/-! ### The invariant -/

theorem BaseStep.keepsInv {i : Instr} {s s' : State} (h : BaseStep i s s') (hs : StateInv s) : StateInv s' := by
  obtain ⟨hrate, hmode⟩ := hs
  have hrate' : s'.rateAdj = s.rateAdj ∨ s'.rateAdj = 0 → rateOk s' := by
    rintro (e | e) <;> rw [rateOk, e]
    · exact hrate
    · decide
  cases h with
  | same h => exact ⟨hrate' (.inl h.rate), by rw [modeOk, h.mainUp, h.mode]; exact hmode⟩
  | servo h rate =>
    have hup : s'.mainUp = s.mainUp := h.mainUp
    have hm : s'.mode = s.mode := h.mode
    exact ⟨rate, by rw [modeOk, hup, hm]; exact hmode⟩
  | settled h => exact ⟨hrate' h.rate, h.mainUp⟩
  | restart h => exact ⟨hrate' h.rate, h.mainUp⟩

/-- Settles O4: the reset state has RATE_ADJ 0 and is in Calm with the main domain in reset. -/
theorem resetMeetsInv : Obligations.ResetMeetsInv := ⟨⟨by decide, by decide⟩, rfl⟩

theorem stateInv_exec {i : Instr} {s s' : State} (h : exec i s = .next s') (hs : StateInv s) : StateInv s' :=
  (exec_baseStep h).keepsInv hs

/-- Settles O5: a step runs the command at the front of the queue, and every kind of row keeps the invariant. -/
theorem stepKeepsInv : Obligations.StepKeepsInv := by
  intro s s' hs hstep
  unfold step at hstep
  split at hstep
  · cases hstep
    exact hs
  · exact stateInv_exec hstep hs

/-- Settles O6: no kind of row writes the queue. -/
theorem commandsLeaveTheQueue : Obligations.CommandsLeaveTheQueue := by
  intro i s s' hexec
  cases exec_baseStep hexec with
  | same h => exact h.pending
  | servo h => exact h.pending
  | settled h => exact h.pending
  | restart h => exact h.pending

/-- Settles O7: a row keeps the mode, or changes it as `mayChange` allows, or is a start-up after a reset that was
due, which starts from Calm. -/
theorem modeChangesOnlyAsAllowed : Obligations.ModeChangesOnlyAsAllowed := by
  intro i s s' hexec
  cases exec_baseStep hexec with
  | same h => exact .inl (by rw [h.mode]; exact mayChange_refl s.mode)
  | servo h =>
    have hm : s'.mode = s.mode := h.mode
    exact .inl (by rw [hm]; exact mayChange_refl s.mode)
  | settled h change => exact .inl change
  | restart h due row change => exact .inr ⟨due, row, change⟩

/-- Settles O1: a step on a queue that is not empty is `exec` of its front command on the rest. -/
theorem stepRunsTheFrontCommand : Obligations.StepRunsTheFrontCommand := by
  intro c rest s hs
  rw [step, hs]

/-- Settles O2: an empty queue is the other case of a step. -/
theorem emptyQueueIdles : Obligations.EmptyQueueIdles := by
  intro s hs
  rw [step, hs]

/-- Settles O3: the reset state is written out; every table of it is empty. -/
theorem resetValues : Obligations.ResetValues :=
  ⟨rfl, rfl, rfl, rfl, rfl, rfl, fun _ => ⟨rfl, rfl, rfl, rfl, rfl⟩, fun _ => ⟨rfl, rfl, rfl, rfl, rfl⟩, rfl, rfl, rfl, rfl,
    rfl, rfl, fun _ => rfl⟩

end Sys2Proof.Machine
end

section
/-!
Commands of partners: what each step of R62 answers, transactions (R75 to R82), and that every accepted command takes
effect and is answered.
-/
namespace Sys2Proof.Machine

/-! ### A command row and its answer -/

theorem specOf_remoteRead_match (i : Instr) :
    match commandOf i with
    | some (o, _, _, _) => o.opcode = 0x0911 → o = remoteReadSpec
    | none => True := by
  cases i <;> first
    | exact trivial
    | exact fun _ => rfl
    | exact fun h => absurd h (by decide)

/-- `REMOTE_READ` alone has its opcode. -/
theorem eq_remoteRead_of_opcode {i : Instr} {o : CmdSpec} {t p : Nat} {k : Packet} (hi : commandOf i = some (o, t, p, k))
    (ho : o.opcode = 0x0911) : o = remoteReadSpec := by
  have := specOf_remoteRead_match i
  rw [hi] at this
  exact this ho

/-- A rejected command leaves no `REMOTE_READ` waiting. -/
theorem remote_onReject {i : Instr} {o : CmdSpec} {t p : Nat} {k : Packet} (hi : commandOf i = some (o, t, p, k))
    (c : Ctx) (r : Reject) (s : State) (ho : o.opcode = 0x0911) : (o.onReject c r s).pair.remote = s.pair.remote := by
  rw [eq_remoteRead_of_opcode hi ho]
  rfl

theorem remote_entered {p : Nat} {k : Packet} {s : State} (h : canFetch p k s = true) :
    (entered p k s).pair.remote = none := remote_of_canFetch p k s h

@[simp] theorem entered_asyncs (p : Nat) (k : Packet) (s : State) : (entered p k s).kernel.asyncs = s.kernel.asyncs := rfl

theorem txn_entered (p : Nat) (k : Packet) (t : Tick) (s : State) :
    (partner (entered p k (atTime t s)) p).txn = (partner s p).txn := by
  rw [partner_entered, partner_atTime]

/-- A fetched command whose run leaves `y` and the answer `a` is answered so on `y`. -/
theorem exec_answers {i : Instr} {o : CmdSpec} {t p : Nat} {k : Packet} {s y : State} {a : Answer}
    (hi : commandOf i = some (o, t, p, k)) (hfetch : canFetch p k (atTime t s) = true)
    (hremote : o.opcode = 0x0911 → y.pair.remote = none)
    (hrun : runFetched specOf o p k (fetched p k (atTime t s)) = (y, a)) :
    exec i s = .next (respond o t p k a s y) := by
  rw [exec_commandOf i o t p k s hi, runCommand_answers o t p k s a y hfetch hremote hrun]

/-- Settles O10: `runCommand` begins with the fetch. -/
theorem commandsWaitToBeFetched : Obligations.CommandsWaitToBeFetched := by
  intro i o t p k s hi hfetch
  rw [exec_commandOf i o t p k s hi, runCommand_waits o t p k s hfetch]

/-! ### The first checks (R57, R61, R63) -/

theorem headerCheck_version (o : CmdSpec) (k : Packet) (h : k.version ≠ 1) :
    headerCheck o k = some { status := stBadValue, off := 0x8000 } := by
  have hv : (k.version == 1) = false := by simpa using h
  rw [headerCheck, hv]
  rfl

/-- Settles O11: each of the first checks ends the run where it fails. -/
theorem packetsFailTheFirstChecks : Obligations.PacketsFailTheFirstChecks := by
  intro i o t p k s hi hfetch after
  have hremote : o.opcode = 0x0911 → (fetched p k (atTime t s)).pair.remote = none :=
    fun _ => remote_of_canFetch p k (atTime t s) hfetch
  refine ⟨fun hlen => ?_, fun hlen hcrc => ?_, fun hlen hcrc hversion => ?_⟩ <;>
    refine exec_answers hi hfetch hremote ?_
  · simp only [runFetched, hlen, if_true]
    rfl
  · simp only [runFetched, Nat.not_lt.2 hlen, if_false, hcrc, Bool.not_false, if_true]
    rfl
  · simp only [runFetched, Nat.not_lt.2 hlen, if_false, hcrc, Bool.not_true, Bool.false_eq_true,
      headerCheck_version o k hversion]
    rfl

/-! ### Commands outside a transaction (R62, R64, R67, R73, R81, R783) -/

theorem runFetched_single {o : CmdSpec} {t p : Nat} {k : Packet} {s : State} (h : Framed o t p k s)
    (hsingle : bit k.flags.toNat 0 = false) :
    runFetched specOf o p k (fetched p k (atTime t s)) = runSingle o p k (entered p k (atTime t s)) := by
  rw [runFetched_framed o t p k s h, hsingle, if_neg Bool.false_ne_true]

/-- Settles O12: a single command that its check rejects is answered on what the rejection records. -/
theorem rejectionsApplyNothing : Obligations.RejectionsApplyNothing := by
  intro i o t p k s r hi hframed hsingle y hcheck
  refine exec_answers hi hframed.fetch ?_ ?_
  · intro ho
    rw [remote_onReject hi _ _ _ ho]
    exact remote_entered hframed.fetch
  · rw [runFetched_single hframed hsingle, runSingle]
    simp only [y] at hcheck
    simp only [hcheck]
    rfl

theorem runSingle_busy {o : CmdSpec} {p : Nat} {k : Packet} {s : State} (hcheck : o.check (ctxOf o p k) s = none)
    (hbusy : o.change = true ∧ (partner s p).txn ≠ none ∨ o.async = true ∧ 16 ≤ s.kernel.asyncs.length) :
    runSingle o p k s = (s, { status := stBusy }) := by
  have hb : (o.change && (partner s p).txn.isSome || o.async && decide (16 ≤ s.kernel.asyncs.length)) = true := by
    rcases hbusy with ⟨hc, hx⟩ | ⟨ha, hn⟩
    · simp [hc, Option.isSome_iff_ne_none, hx]
    · simp [ha, hn]
  simp only [runSingle, hcheck, hb, if_true]

/-- A command meets neither its partner's open transaction nor 16 outstanding asynchronous ones. -/
theorem not_busy {o : CmdSpec} {p : Nat} {s : State} (hfree : o.change = true → (partner s p).txn = none)
    (hslots : o.async = true → s.kernel.asyncs.length < 16) :
    (o.change && (partner s p).txn.isSome || o.async && decide (16 ≤ s.kernel.asyncs.length)) = false := by
  rw [Bool.or_eq_false_iff]
  constructor
  · cases hc : o.change
    · rfl
    · simp [hfree hc]
  · cases ha : o.async
    · rfl
    · simpa using hslots ha

theorem runSingle_checkOnly {o : CmdSpec} {p : Nat} {k : Packet} {s : State} (hcheck : o.check (ctxOf o p k) s = none)
    (hfree : o.change = true → (partner s p).txn = none) (hslots : o.async = true → s.kernel.asyncs.length < 16)
    (honly : bit k.flags.toNat 2 = true) : runSingle o p k s = (s, { status := stDone }) := by
  simp only [runSingle, hcheck, not_busy hfree hslots, Bool.false_eq_true, if_false, honly, if_true]

/-- Settles O13: after the checks `runSingle` answers BUSY, or DONE for CHECK_ONLY, on the state it found. -/
theorem checksWithoutEffect : Obligations.ChecksWithoutEffect := by
  intro i o t p k s hi hframed hsingle y hcheck
  have hremote : o.opcode = 0x0911 → y.pair.remote = none := fun _ => remote_entered hframed.fetch
  refine ⟨fun hbusy => ?_, fun hfree hslots honly => ?_⟩ <;> refine exec_answers hi hframed.fetch hremote ?_ <;>
    rw [runFetched_single hframed hsingle]
  · exact runSingle_busy hcheck (by rw [txn_entered]; exact hbusy)
  · exact runSingle_checkOnly hcheck (by rw [txn_entered]; exact hfree) hslots honly

/-! ### Members of a transaction (R75 to R82) -/

theorem runFetched_member {o : CmdSpec} {t p : Nat} {k : Packet} {s : State} (h : Framed o t p k s)
    (hmember : bit k.flags.toNat 0 = true) :
    runFetched specOf o p k (fetched p k (atTime t s)) = runMember specOf o p k (entered p k (atTime t s)) := by
  rw [runFetched_framed o t p k s h, hmember, if_pos rfl]

/-- A packet as a held member. -/
def memberOf (o : CmdSpec) (p : Nat) (k : Packet) : Member :=
  { opcode := o.opcode, unit := k.unit.toNat, tag := k.tag, seq := k.seq, params := (ctxOf o p k).ps }

/-- An open transaction has room for one more member (R78). -/
structure HasRoom (o : CmdSpec) (p : Nat) (k : Packet) (x : Txn) : Prop where
  members : x.members.length < 256
  bytes : (x.members.map fun m => m.params.length).sum + (ctxOf o p k).ps.length ≤ 65536

section member
variable {o : CmdSpec} {p : Nat} {k : Packet} {s : State} {x : Txn} (hopen : (partner s p).txn = some x)
include hopen

/-- A member without TXN_LAST of the open transaction is held where its check passes, and else fails it. -/
theorem runMember_open (hid : x.id = k.txn.toNat) (hok : x.failed = false) (hroom : HasRoom o p k x)
    (hlast : bit k.flags.toNat 1 = false) : runMember specOf o p k s =
      match o.check (ctxOf o p k) s with
      | some r => (setTxn p (some { x with failed := true, last := s.now }) (o.onReject (ctxOf o p k) r s), r.answer)
      | none => (setTxn p (some { x with members := x.members ++ [memberOf o p k], last := s.now }) s,
          { status := stStaged }) := by
  have hfull : (decide (256 ≤ x.members.length) || decide (65536 < (x.members.map fun m => m.params.length).sum +
      (ctxOf o p k).ps.length)) = false := by
    simpa using ⟨hroom.members, hroom.bytes⟩
  simp only [runMember, hopen, hid, if_true, hok, Bool.false_eq_true, if_false, hlast, hfull]
  rfl

/-- A member of another transaction than the open one is answered BUSY where its check passes. -/
theorem runMember_other (hid : x.id ≠ k.txn.toNat) (hcheck : o.check (ctxOf o p k) s = none) :
    runMember specOf o p k s = (s, { status := stBusy }) := by
  simp only [runMember, hopen, hid, if_false, hcheck]

/-- The member with TXN_LAST ends the transaction: all members are applied, or none is (R79). -/
theorem runMember_last (hid : x.id = k.txn.toNat) (hok : x.failed = false) (hroom : HasRoom o p k x)
    (hlast : bit k.flags.toNat 1 = true) (hwhole : bit k.flags.toNat 2 = false) : runMember specOf o p k s =
      match applyMembers specOf p 0 (x.members ++ [memberOf o p k]) [] s with
      | .error (n, r, e) => (setTxn p none (match specOf e.opcode with
          | some oe => oe.onReject e r s
          | none => s), r.ending n)
      | .ok (y, out) => (setTxn p none y, { status := stDone, params := out }) := by
  have hfull : (decide (256 ≤ x.members.length) || decide (65536 < (x.members.map fun m => m.params.length).sum +
      (ctxOf o p k).ps.length)) = false := by
    simpa using ⟨hroom.members, hroom.bytes⟩
  simp only [runMember, hopen, hid, if_true, hok, Bool.false_eq_true, if_false, hlast, hwhole, Bool.and_false, hfull]
  rfl

end member

/-- Settles O14: the three outcomes are those of `runMember` for a member that does not close its transaction. -/
theorem membersAreHeld : Obligations.MembersAreHeld := by
  intro i o t p k s x hi hframed hmember hlast hopen y c m
  have hopen' : (partner y p).txn = some x := (txn_entered p k t s).trans hopen
  have hremote : y.pair.remote = none := remote_entered hframed.fetch
  refine ⟨fun hid hok hn hbytes => ⟨fun hcheck => ?_, fun r hcheck => ?_⟩, fun hid hcheck => ?_⟩
  · refine exec_answers hi hframed.fetch (fun _ => hremote) ?_
    rw [runFetched_member hframed hmember, runMember_open hopen' hid hok ⟨hn, hbytes⟩ hlast, hcheck]
    rfl
  · refine exec_answers hi hframed.fetch (fun ho => (remote_onReject hi _ _ _ ho).trans hremote) ?_
    rw [runFetched_member hframed hmember, runMember_open hopen' hid hok ⟨hn, hbytes⟩ hlast, hcheck]
  · refine exec_answers hi hframed.fetch (fun _ => hremote) ?_
    rw [runFetched_member hframed hmember, runMember_other hopen' hid hcheck]
    rfl

/-- Settles O15: the closing member runs `applyMembers` over every member on the state in which it was fetched. -/
theorem transactionsApplyWholly : Obligations.TransactionsApplyWholly := by
  intro i o t p k s x hi hop hframed hflags hopen hid hok hn y c m hbytes
  have hrun := runMember_last (o := o) (s := y) ((txn_entered p k t s).trans hopen) hid hok ⟨hn, hbytes⟩
    (by rw [hflags]; decide) (by rw [hflags]; decide)
  rw [← runFetched_member hframed (by rw [hflags]; decide)] at hrun
  refine ⟨fun y' out happly => ?_, fun n r e happly => ?_⟩ <;>
    refine exec_answers hi hframed.fetch (fun ho => absurd ho hop) (hrun.trans ?_)
  · rw [show memberOf o p k = m from rfl, happly]
    rfl
  · rw [show memberOf o p k = m from rfl, happly]
    rfl

/-! ### Accepted commands (R52 to R74) -/

theorem exec_accepted {i : Instr} {o : CmdSpec} {t p : Nat} {k : Packet} {s : State} (hi : commandOf i = some (o, t, p, k))
    (ho : o.opcode ≠ 0x0911) (h : Accepted o t p k s) : exec i s = .next (completed o t p k s) := by
  rw [exec_commandOf i o t p k s hi, runCommand_accepted o t p k s ho h]

theorem exec_presented {i : Instr} {o : CmdSpec} {t p : Nat} {k : Packet} {s : State} (hi : commandOf i = some (o, t, p, k))
    (ho : o.opcode ≠ 0x0911) (h : Presented o t p k s) : exec i s = .next (judged o t p k s) := by
  rw [exec_commandOf i o t p k s hi, runCommand_presented o t p k s ho h]

/-- Settles O16: the run of an accepted `REMOTE_READ` is its effect, and its reply is kept with what waits. -/
theorem remoteReadWaitsForItsCompletion : Obligations.RemoteReadWaitsForItsCompletion := by
  intro t p k s r h y hy
  have hrun : runFetched specOf remoteReadSpec p k (fetched p k (atTime t s)) =
      (y.1, { status := stDone, params := y.2 }) := by
    rw [runFetched_single h.framed h.single, runSingle]
    have hbusy := not_busy (p := p) (s := entered p k (atTime t s)) (by rw [txn_entered]; exact h.free) h.slots
    simp only [h.checks, hbusy, Bool.false_eq_true, if_false, h.whole]
    rfl
  rw [exec_commandOf _ remoteReadSpec t p k s rfl]
  simp only [runCommand, h.framed.fetch, if_true, runCommandWith, hrun, hy]
  rfl

/-- Settles O17: each clause is `exec_accepted` for its row, and that of `IMAGE_WRITE` is `exec_presented`. -/
theorem serviceHostAndPowerCommandsComplete : Obligations.ServiceHostAndPowerCommandsComplete := by
  intro t p k s
  and_intros <;> intro h
  rotate_left 27
  · exact exec_presented rfl (by decide) h
  all_goals exact exec_accepted rfl (by decide) h

/-- Settles O18: each clause is `exec_accepted` for its row. -/
theorem portAndSwitchCommandsComplete : Obligations.PortAndSwitchCommandsComplete := by
  intro t p k s
  and_intros <;> intro h <;> exact exec_accepted rfl (by decide) h

/-- Settles O19: each clause is `exec_accepted` for its row. -/
theorem tableGatewayAndPolicingCommandsComplete : Obligations.TableGatewayAndPolicingCommandsComplete := by
  intro t p k s
  and_intros <;> intro h <;> exact exec_accepted rfl (by decide) h

/-- Settles O20: each clause is `exec_accepted` for its row. -/
theorem timeKeyAndCipherCommandsComplete : Obligations.TimeKeyAndCipherCommandsComplete := by
  intro t p k s
  and_intros <;> intro h <;> exact exec_accepted rfl (by decide) h

/-- Settles O21: each clause is `exec_accepted` for its row. -/
theorem sleepPairAndSafetyCommandsComplete : Obligations.SleepPairAndSafetyCommandsComplete := by
  intro t p k s
  and_intros <;> intro h <;> exact exec_accepted rfl (by decide) h

end Sys2Proof.Machine
end

section
/-!
The Sprinaz service: the Fault Ledger (R743), ECHO (R112), doorbells (R98 to R101), and the service's timers and
register writes (R11, R82, R95).
-/
namespace Sys2Proof.Machine

/-! ### Rows of events -/

/-- An event of the main domain leaves what its function leaves, with the base held. -/
theorem next_whenRuns {t : Tick} {f : State → State} {s y : State} (hrun : tsclkRuns s = true)
    (hf : holdBase (atTime t s) (f (atTime t s)) = y) :
    (Host.Outcome.next (whenRuns t f s) : Host.Outcome State Fault Refusal) = .next y := by
  rw [whenRuns_on t f s hrun, hf]

theorem only_true {b : Bool} {f : State → State} {s : State} (hb : b = true) : only b f s = f s := by
  rw [only, if_pos hb]

/-! ### What an event leaves of the service -/

/-- Beside partners and vectors the service is that of another state. -/
def EventsOnly (s s' : State) : Prop :=
  s'.kernel = { s.kernel with partners := s'.kernel.partners, msix := s'.kernel.msix }

theorem eventsOnly_refl (s : State) : EventsOnly s s := rfl

theorem eventsOnly_trans {a b c : State} (h : EventsOnly a b) (k : EventsOnly b c) : EventsOnly a c := by
  unfold EventsOnly at *
  rw [k, h]

theorem eventsOnly_setPartner (p : Nat) (x : Partner) (s : State) : EventsOnly s (setPartner p x s) := rfl

theorem eventsOnly_raiseVec (v : Nat) (s : State) : EventsOnly s (raiseVec v s) := rfl

theorem eventsOnly_ite {c : Prop} [Decidable c] {s a b : State} (ha : EventsOnly s a) (hb : EventsOnly s b) :
    EventsOnly s (if c then a else b) := by
  split
  · exact ha
  · exact hb

theorem eventsOnly_signalVectors (p : Nat) (x : Partner) (a b : EvQueue) (f : Bool) (s : State) :
    EventsOnly s (signalVectors p x a b f s) := by
  unfold signalVectors
  refine eventsOnly_ite ?_ (eventsOnly_refl s)
  have h : EventsOnly s (if a.sig ≠ b.sig then raiseVec (129 + 8 * p) s else s) :=
    eventsOnly_ite (eventsOnly_raiseVec ..) (eventsOnly_refl s)
  exact eventsOnly_ite (eventsOnly_trans h (eventsOnly_raiseVec ..)) h

theorem eventsOnly_writeEvent (p : Nat) (r : EventRecord) (s : State) : EventsOnly s (writeEvent p r s) := by
  have hwrite : ∀ x a b f, EventsOnly s (signalVectors p x a b f (setPartner p x s)) := fun x a b f =>
    eventsOnly_trans (eventsOnly_setPartner p x s) (eventsOnly_signalVectors ..)
  unfold writeEvent
  refine eventsOnly_ite (eventsOnly_refl s) (eventsOnly_ite (eventsOnly_setPartner ..) (eventsOnly_ite ?_ (eventsOnly_ite ?_ ?_)))
  all_goals exact eventsOnly_trans (eventsOnly_setPartner ..) (eventsOnly_signalVectors ..)

theorem eventsOnly_raiseFull (u ty : Nat) (b : Bytes) (st : Tick) (sa le : Bool) (s : State) :
    EventsOnly s (raiseFull u ty b st sa le s) := by
  unfold raiseFull
  generalize partnerIds = l
  induction l generalizing s with
  | nil => exact eventsOnly_refl s
  | cons a l ih =>
    exact eventsOnly_trans (eventsOnly_ite (eventsOnly_writeEvent ..) (eventsOnly_refl s)) (ih _)

/-! ### The Fault Ledger (R743) -/

theorem same_iff (e : LedgerEntry) (code u ob : Nat) (d : Bytes) :
    e.same code u ob d = true ↔ e.code = code ∧ e.unit = u ∧ e.object = ob ∧ (code = 1 → e.detail = d) := by
  simp only [LedgerEntry.same, Bool.and_eq_true, beq_iff_eq, Bool.or_eq_true, bne_iff_ne, and_assoc, ← Decidable.imp_iff_not_or]

theorem ledgerRoom_iff (es : List LedgerEntry) (sev : Nat) :
    ledgerRoom es sev = true ↔
      ¬ (256 ≤ es.length ∨ sev < 2 ∧ 224 ≤ (es.filter fun e => decide (e.severity < 2)).length) := by
  simp only [ledgerRoom, Bool.and_eq_true, decide_eq_true_eq, Bool.or_eq_true]
  omega

theorem dropOldestNote_append {a b : List LedgerEntry} {e : LedgerEntry} (ha : ∀ x ∈ a, x.severity ≠ 0)
    (he : e.severity = 0) : dropOldestNote (a ++ e :: b) = a ++ b := by
  induction a with
  | nil => simp [dropOldestNote, he]
  | cons x a ih =>
    have hx : x.severity ≠ 0 := ha x List.mem_cons_self
    have hrest := ih fun y hy => ha y (List.mem_cons_of_mem x hy)
    simp [dropOldestNote, hx, hrest]

theorem eq_of_id {l : List LedgerEntry} (hl : (l.map (·.id)).Nodup) {x e : LedgerEntry} (hx : x ∈ l) (he : e ∈ l)
    (h : x.id = e.id) : x = e := by
  induction l with
  | nil => exact nomatch hx
  | cons y l ih =>
    obtain ⟨hy, hl⟩ := List.nodup_cons.1 hl
    have hout {z : LedgerEntry} (hz : z ∈ l) : z.id ≠ y.id := fun h => hy (List.mem_map.2 ⟨z, hz, h⟩)
    rcases List.mem_cons.1 hx with rfl | hxl <;> rcases List.mem_cons.1 he with rfl | hel
    · rfl
    · exact absurd h.symm (hout hel)
    · exact absurd h (hout hxl)
    · exact ih hl hxl hel

/-- Entries with distinct IDs are equal where their IDs are. -/
theorem id_eq_iff {l : List LedgerEntry} (hl : (l.map (·.id)).Nodup) {x e : LedgerEntry} (hx : x ∈ l) (he : e ∈ l) :
    x.id = e.id ↔ x = e :=
  ⟨fun h => eq_of_id hl hx he h, fun h => h ▸ rfl⟩

section ledger
variable (code u ob sev : Nat) (w : Bool) (d : Bytes) (s : State)

/-- The entry that a first occurrence makes. -/
def freshEntry : LedgerEntry :=
  { id := s.kernel.ledger.nextId, code := code, unit := u, object := ob, first := s.now, severity := sev
    persisted := false, restored := false, w1c := w, count := 1, detail := padTo 8 d }

theorem ledgerAdd_repeat {e : LedgerEntry}
    (h : s.kernel.ledger.entries.find? (fun e => e.same code u ob (padTo 8 d)) = some e) :
    let l := (ledgerAdd code u ob sev w d s).kernel.ledger
    l.nextId = s.kernel.ledger.nextId ∧ l.entries = s.kernel.ledger.entries.map fun x =>
      if x.id = e.id then { x with count := satAdd 0xFFFF x.count 1 } else x := by
  simp only [ledgerAdd, h]
  exact ⟨trivial, trivial⟩

variable (hnew : s.kernel.ledger.entries.find? (fun e => e.same code u ob (padTo 8 d)) = none)
include hnew

theorem ledgerAdd_room (hroom : ledgerRoom s.kernel.ledger.entries sev = true) :
    (ledgerAdd code u ob sev w d s).kernel.ledger.entries =
      s.kernel.ledger.entries ++ [freshEntry code u ob sev w d s] := by
  simp only [ledgerAdd, hnew, hroom, if_true]
  rfl

theorem ledgerAdd_replace (hroom : ledgerRoom s.kernel.ledger.entries sev = false)
    (hnote : s.kernel.ledger.entries.any (fun x => x.severity == 0) = true) :
    (ledgerAdd code u ob sev w d s).kernel.ledger.entries =
      dropOldestNote s.kernel.ledger.entries ++ [freshEntry code u ob sev w d s] := by
  simp only [ledgerAdd, hnew, hroom, hnote, Bool.false_eq_true, if_false, if_true]
  rfl

/-- A lost occurrence counts, and sets LEDGER_FULL with its event where the bit was clear. -/
theorem ledgerAdd_lost (hroom : ledgerRoom s.kernel.ledger.entries sev = false)
    (hnote : s.kernel.ledger.entries.any (fun x => x.severity == 0) = false) :
    let y := bump (safetyCounter 0x0120) s
    ledgerAdd code u ob sev w d s = if s.kernel.w1c.contains ledgerFullBit then y else
      raiseSafety 0x0A00 0x0104 (le 4 (counter y (safetyCounter 0x0120)).toNat)
        (raiseVec (192 + 0x0A) { y with kernel.w1c := y.kernel.w1c ++ [ledgerFullBit] }) := by
  simp only [ledgerAdd, hnew, hroom, hnote, Bool.false_eq_true, if_false]
  cases s.kernel.w1c.contains ledgerFullBit <;> rfl

end ledger

@[simp] theorem counter_bump (a : Nat) (s : State) : counter (bump a s) a = counter s a + 1 :=
  tget_tset_self ..

/-- The event of LEDGER_FULL leaves the ledger, the status bits and the counters. -/
theorem raiseSafety_service (u ty : Nat) (b : Bytes) (s : State) (a : Nat) :
    let z := raiseSafety u ty b s
    z.kernel.ledger = s.kernel.ledger ∧ z.kernel.w1c = s.kernel.w1c ∧ counter z a = counter s a := by
  have h : EventsOnly s (raiseSafety u ty b s) := eventsOnly_raiseFull ..
  unfold counter
  dsimp only
  rw [h]
  exact ⟨rfl, rfl, rfl⟩

/-- A lost occurrence leaves the ledger, sets LEDGER_FULL and counts. -/
theorem ledgerAdd_lost_service {code u ob sev : Nat} {w : Bool} {d : Bytes} {s : State}
    (hnew : s.kernel.ledger.entries.find? (fun e => e.same code u ob (padTo 8 d)) = none)
    (hroom : ledgerRoom s.kernel.ledger.entries sev = false)
    (hnote : s.kernel.ledger.entries.any (fun x => x.severity == 0) = false) :
    let z := ledgerAdd code u ob sev w d s
    z.kernel.ledger = s.kernel.ledger ∧ ledgerFullBit ∈ z.kernel.w1c ∧
      counter z (safetyCounter 0x0120) = counter s (safetyCounter 0x0120) + 1 := by
  dsimp only
  rw [ledgerAdd_lost code u ob sev w d s hnew hroom hnote]
  split
  · next hset => exact ⟨rfl, List.contains_iff_mem.1 hset, counter_bump ..⟩
  · obtain ⟨hledger, hbits, hcount⟩ := raiseSafety_service 0x0A00 0x0104
      (le 4 (counter (bump (safetyCounter 0x0120) s) (safetyCounter 0x0120)).toNat)
      (raiseVec (192 + 0x0A) { bump (safetyCounter 0x0120) s with
        kernel.w1c := (bump (safetyCounter 0x0120) s).kernel.w1c ++ [ledgerFullBit] }) (safetyCounter 0x0120)
    rw [hledger, hbits, hcount]
    exact ⟨rfl, List.mem_append_right _ (List.mem_singleton.2 rfl), counter_bump ..⟩

/-- Settles O28: the cases of `ledgerAdd` are a repeat, room, an entry of severity 0 to replace, and a loss. -/
theorem ledgerRecordsOccurrences : Obligations.LedgerRecordsOccurrences := by
  intro code u ob sev w d s l s' repeats fresh full
  have hnew : (∀ e ∈ l.entries, ¬ repeats e) → l.entries.find? (fun e => e.same code u ob (padTo 8 d)) = none :=
    fun h => List.find?_eq_none.2 fun e he => mt (same_iff e code u ob _).1 (h e he)
  have hroom : full → ledgerRoom l.entries sev = false := fun h =>
    Bool.eq_false_iff.2 (mt (ledgerRoom_iff l.entries sev).1 (not_not_intro h))
  refine ⟨fun e hids he => ?_, fun h hfull => ?_, fun h hfull a e b hl he ha => ?_, fun h hfull hsev => ?_⟩
  · obtain ⟨hnext, hentries⟩ := ledgerAdd_repeat code u ob sev w d s he
    refine ⟨(same_iff e code u ob _).1 (List.find?_some (p := fun e : LedgerEntry => e.same code u ob (padTo 8 d)) he), hnext, hentries.trans (List.map_congr_left fun x hx => ?_)⟩
    have hxe := id_eq_iff hids hx (List.mem_of_find?_eq_some he)
    by_cases hx' : x = e
    · rw [if_pos (hxe.2 hx'), if_pos hx', hx']
    · rw [if_neg (mt hxe.1 hx'), if_neg hx']
  · exact ledgerAdd_room code u ob sev w d s (hnew h) ((ledgerRoom_iff l.entries sev).2 hfull)
  · have hnote : l.entries.any (fun x => x.severity == 0) = true :=
      List.any_eq_true.2 ⟨e, by simp [hl], by simp [he]⟩
    have hadd := ledgerAdd_replace code u ob sev w d s (hnew h) (hroom hfull) hnote
    rw [show s.kernel.ledger.entries = a ++ e :: b from hl, dropOldestNote_append ha he] at hadd
    exact hadd
  · have hnote : l.entries.any (fun x => x.severity == 0) = false :=
      List.any_eq_false.2 fun x hx => by simpa using hsev x hx
    exact ledgerAdd_lost_service (hnew h) (hroom hfull) hnote

/-! ### ECHO (R112) -/

@[simp] theorem length_slice (bs : Bytes) (o n : Nat) : (slice bs o n).length = n := by
  simp [slice]

@[simp] theorem length_padTo (n : Nat) (bs : Bytes) : (padTo n bs).length = n := length_slice bs 0 n

theorem waiting_of_canFetch {p : Nat} {k : Packet} {s : State} (h : canFetch p k s = true) :
    (partner s p).waiting = [] := by
  simp only [canFetch, Bool.and_eq_true] at h
  exact List.isEmpty_iff.1 h.1.1.2

theorem partner_entered_ne {p j : Nat} (k : Packet) (s : State) (h : j ≠ p) :
    partner (entered p k s) j = partner s j := by
  unfold entered updPartner
  rw [partner_setPartner_ne _ _ h]
  exact partner_setPartner_ne _ _ h

/-- A reply whose status is no 0x03xx goes to its partner's ring and changes no other partner. -/
theorem partner_writeReply_ok {p : Nat} {r : Reply} (s : State) (hr : r.status < 0x0301) :
    partner (writeReply p r s) p = (partner s p).putReply r ∧ ∀ j, j ≠ p → partner (writeReply p r s) j = partner s j := by
  unfold writeReply
  dsimp only
  rw [if_neg (Nat.not_le.2 hr)]
  split
  · exact ⟨partner_setPartner_self .., fun j hj => partner_setPartner_ne _ _ hj⟩
  · exact ⟨partner_setPartner_self .., fun j hj => partner_setPartner_ne _ _ hj⟩

theorem kernelOnly_reply_entered (p : Nat) (k : Packet) (r : Reply) (s : State) :
    kernelOnly s (writeReply p r (entered p k s)) :=
  kernelOnly_trans (b := entered p k s) rfl (kernelOnly_writeReply ..)

/-- The reply to an accepted ECHO (R55, R112). -/
def echoReply (k : Packet) : Reply :=
  { version := k.version, flags := k.flags ||| 0x80, opcode := 0x0B01, tag := k.tag, unit := k.unit
    plen := k.plen.toNat, status := 0, seq := k.seq, params := padTo k.plen.toNat k.params }

theorem replyTo_echo {k : Packet} (hlen : k.plen.toNat ≤ 4076) :
    replyTo echoSpec k { status := stDone, params := padTo k.plen.toNat k.params } = echoReply k := by
  have hplen : ¬ (4076 < k.plen.toNat ∨ stDone = stCheckFail ∧ !crcGood echoSpec.opcode k) := by
    rintro (h | ⟨h, -⟩)
    · exact absurd hlen (Nat.not_le.2 h)
    · exact absurd h (by decide)
  rw [replyTo, if_neg hplen, length_padTo]
  rfl

/-- An accepted ECHO leaves the packet taken and its reply written. -/
theorem exec_echo {t p : Nat} {k : Packet} {s : State} (h : Accepted echoSpec t p k s)
    (ht : (partner s p).transport ≠ 5) :
    exec (.echo t p k) s = .next (writeReply p (echoReply k) (entered p k (atTime t s))) := by
  have hremote : ({ entered p k (atTime t s) with pair.remote := none } : State) = entered p k (atTime t s) := by
    rw [← remote_entered h.framed.fetch]
  have hcompleted : completed echoSpec t p k s =
      holdBase (atTime t s) (inbandReplies p (writeReply p (echoReply k) (entered p k (atTime t s)))) := by
    rw [← replyTo_echo h.framed.len]
    exact congrArg (fun z => holdBase (atTime t s) (inbandReplies p (writeReply p _ z))) hremote
  rw [exec_accepted rfl (by decide) h, hcompleted, inbandReplies_off]
  · rw [holdBase_of_kernelOnly (kernelOnly_reply_entered ..)]
  · rw [transport_writeReply, partner_entered]
    exact ht

/-- Settles O31: the run of an accepted ECHO is its reply, put in a ring that has room for it. -/
theorem echoReturnsItsParameters : Obligations.EchoReturnsItsParameters := by
  intro t p k s h ht hroom
  refine ⟨_, exec_echo h ht, ?_⟩
  obtain ⟨hp, hne⟩ := partner_writeReply_ok (p := p) (r := echoReply k) (entered p k (atTime t s))
    (show 0 < 0x0301 by decide)
  have hput := putReply_of_room (x := partner (entered p k (atTime t s)) p) (r := echoReply k)
    (by rw [partner_entered, echoReply, length_padTo]; exact hroom)
    (by rw [partner_entered]; exact waiting_of_canFetch h.framed.fetch)
  rw [hp, hput, partner_entered, echoReply, length_padTo]
  refine ⟨rfl, rfl, rfl, rfl, fun j hj => ?_, ?_⟩
  · rw [← echoReply, hne j hj, partner_entered_ne _ _ hj, partner_atTime]
  · exact kernelOnly_reply_entered ..

/-! ### Doorbells whose halves agree (R98, R100, R101) -/

theorem pairedPtr_agree {v : Word} {ptr : Half} (hlo : v.extractLsb' 0 16 = ptr) (hhi : v.extractLsb' 16 16 = ~~~ptr) :
    pairedPtr v = some ptr := by
  rw [pairedPtr, hlo, hhi]
  exact if_pos rfl

theorem pairedPtr_disagree {v : Word} (h : v.extractLsb' 16 16 ≠ ~~~v.extractLsb' 0 16) : pairedPtr v = none := by
  rw [pairedPtr]
  exact if_neg h

/-- A doorbell of an attached partner does what its function does. -/
theorem next_doorbell {t p : Nat} {f : State → State} {s y : State} (hrun : tsclkRuns s = true)
    (hatt : (partner s p).attached = true) (hf : f (atTime t s) = y) (hy : kernelOnly (atTime t s) y) :
    (Host.Outcome.next (whenRuns t (fun s => only (partner s p).attached f s) s) : Host.Outcome State Fault Refusal) =
      .next y := by
  refine next_whenRuns hrun ?_
  rw [only_true (by rw [partner_atTime]; exact hatt), hf, holdBase_of_kernelOnly hy]

theorem writeWaiting_nil {n p : Nat} {s : State} (h : (partner s p).waiting = []) : writeWaiting n p s = s := by
  cases n with
  | zero => rfl
  | succ n => simp only [writeWaiting, h]

/-- A HOSTP rewind marks the records from MARK on, and leaves WR, REL and the other partners. -/
theorem evqRewind_hostp {p : Nat} {s : State} (hp : (partner s p).transport = 1) :
    let q := (partner s p).evq
    let n := (q.mark - q.rel).toNat
    let z := evqRewind p q.mark s
    (partner z p).evq.records = q.records.take n ++ (q.records.drop n).map (fun r => { r with rewound := true }) ∧
      (partner z p).evq.wr = q.wr ∧ (partner z p).evq.rel = q.rel ∧ ∀ j, j ≠ p → partner z j = partner s j := by
  unfold evqRewind
  simp only [ne_eq, not_true_eq_false, if_false, hp]
  split
  · rw [partner_setPartner_self]
    exact ⟨rfl, rfl, rfl, fun j hj => partner_setPartner_ne _ _ hj⟩
  · rw [partner_raiseVec, partner_setPartner_self]
    exact ⟨rfl, rfl, rfl, fun j hj => partner_setPartner_ne _ _ hj⟩

theorem evqRewind_mark {p : Nat} {ptr : Half} {s : State} (h : ptr = (partner s p).evq.mark)
    (hp : (partner s p).transport ≠ 1) :
    evqRewind p ptr s =
      setPartner p { partner s p with evq := { (partner s p).evq with rd := (partner s p).evq.mark } } s := by
  unfold evqRewind
  exact (if_neg (not_not_intro h)).trans (if_pos hp)

/-- A release in range drops the records before it, and leaves WR and the other partners. -/
theorem evqRelease_inRange {p : Nat} {ptr : Half} {s : State} (h : (partner s p).evq.inRange ptr = true) :
    let q := (partner s p).evq
    let z := evqRelease p ptr s
    kernelOnly s z ∧ (partner z p).evq.rel = ptr ∧
      (partner z p).evq.records = q.records.drop (ptr - q.rel).toNat ∧ (partner z p).evq.wr = q.wr ∧
      ∀ j, j ≠ p → partner z j = partner s j := by
  unfold evqRelease
  simp only [h, Bool.not_true, Bool.false_eq_true, if_false]
  rw [partner_setPartner_self]
  exact ⟨rfl, rfl, rfl, rfl, fun j hj => partner_setPartner_ne _ _ hj⟩

theorem kernelOnly_evqRewind (p : Nat) (ptr : Half) (s : State) (h : ptr = (partner s p).evq.mark) :
    kernelOnly s (evqRewind p ptr s) := by
  unfold evqRewind
  rw [if_neg (not_not_intro h)]
  exact kernelOnly_ite rfl (kernelOnly_ite rfl rfl)

/-- Settles O33: each clause is the branch of its doorbell's function for a pointer in range. -/
theorem doorbellsMoveTheirPointers : Obligations.DoorbellsMoveTheirPointers := by
  intro t p v ptr s hrun hatt hlo hhi x q n
  have hptr := pairedPtr_agree hlo hhi
  have hin : n ≤ (q.wr - q.rel).toNat → (partner (atTime t s) p).evq.inRange ptr = true := fun h => decide_eq_true h
  refine ⟨next_doorbell hrun hatt ?_ rfl, fun hwait => next_doorbell hrun hatt ?_ rfl, fun hn => next_doorbell hrun hatt ?_ rfl,
    fun hmark hne => next_doorbell hrun hatt ?_ rfl, fun hmark he => ?_, fun hn => ?_⟩
  · rw [cmdDoorbell, hptr]
    rfl
  · rw [rplDoorbell, hptr]
    dsimp only
    rw [writeWaiting_nil]
    · rfl
    · rw [updPartner, partner_setPartner_self]
      exact hwait
  · rw [evqOp, hptr]
    simp only [evqMark, hin hn, if_true]
    rfl
  · rw [evqOp, hptr]
    show evqRewind p ptr (atTime t s) = _
    exact evqRewind_mark (s := atTime t s) hmark hne
  · refine ⟨_, next_doorbell hrun hatt (by rw [evqOp, hptr]) (kernelOnly_evqRewind p ptr _ hmark), ?_⟩
    have hz := evqRewind_hostp (s := atTime t s) he
    subst hmark
    exact hz
  · obtain ⟨hkernel, hz⟩ := evqRelease_inRange (hin hn)
    exact ⟨_, next_doorbell hrun hatt (by rw [evqOp, hptr]) hkernel, hz⟩

/-! ### Doorbells that are refused (R99, R106) -/

/-- A doorbell whose halves agree and whose pointer, 1, lies beyond WR of an empty event queue. -/
def farPointer : Word := 0xFFFE0001

/-- An entry of severity 1. -/
def noteEntry : LedgerEntry :=
  { id := 0, code := 2, unit := 0, object := 0, first := 0, severity := 1, persisted := false, restored := false
    w1c := false, count := 1, detail := zeros 8 }

/-- A device in Gale with one HOSTP partner, its queues empty, and a Fault Ledger that is full of such entries. -/
def fullLedger : State := { State.reset with
  mode := .gale, mainUp := true, kernel.ledger.entries := List.replicate 256 noteEntry
  kernel.partners := [(0, { Partner.detached with transport := 1, perm := 0x3FFF0FFF })] }

/-- On a full ledger without an entry of severity 0, Mark of `farPointer` writes the LEDGER_FULL event. -/
theorem mark_fullLedger : ∃ s', exec (.hostEvqMarkDb 0 0 farPointer) fullLedger = .next s' ∧
    (partner s' 0).evq.wr ≠ (partner fullLedger 0).evq.wr := ⟨_, rfl, by decide +kernel⟩

/-- Refutes O34: a pointer error on a Fault Ledger that is full and holds no entry of severity 0 sets LEDGER_FULL,
whose event goes into the very queue that the statement says stays. -/
theorem not_badDoorbells : ¬ Obligations.BadDoorbells := by
  intro h
  have hbad := (h 0 0 farPointer fullLedger (by decide +kernel) (by decide +kernel)).2
  obtain ⟨s', hexec, hevq, -, -⟩ := hbad (by decide +kernel) (.hostEvqMarkDb 0 0 farPointer)
    (.inl ⟨by decide +kernel, .inl rfl⟩)
  obtain ⟨z, hz, hwr⟩ := mark_fullLedger
  cases hexec.symm.trans hz
  exact hwr (congrArg EvQueue.wr hevq)

/-! ### The service's timers and register writes (R11, R82, R95) -/

theorem evqOnly_txn {x y : Partner} (h : evqOnly x y) : y.txn = x.txn ∧ y.reqHead = x.reqHead := by
  rw [h]
  exact ⟨rfl, rfl⟩

theorem abortTxn_service {p r : Nat} {s : State} {y : Txn} (h : (partner s p).txn = some y) :
    let z := abortTxn p r s
    kernelOnly s z ∧ (partner z p).txn = none ∧ (partner z p).reqHead = (partner s p).reqHead ∧
      ∀ j, j ≠ p → partner z j = partner s j := by
  obtain ⟨hself, -⟩ := partner_commonEvent p 4 (le 2 y.id ++ le 2 r) (updPartner p (fun x => { x with txn := none }) s) p
  have hother : ∀ j, j ≠ p → _ := fun j hj =>
    (partner_commonEvent p 4 (le 2 y.id ++ le 2 r) (updPartner p (fun x => { x with txn := none }) s) j).2 hj
  obtain ⟨htxn, hhead⟩ := evqOnly_txn hself
  have hz : abortTxn p r s =
      commonEvent p 4 (le 2 y.id ++ le 2 r) (updPartner p (fun x => { x with txn := none }) s) := by
    rw [abortTxn, h]
  dsimp only
  rw [hz, htxn, hhead, updPartner, partner_setPartner_self]
  exact ⟨kernelOnly_trans (b := setPartner p _ s) rfl (kernelOnly_writeEvent ..), rfl, rfl,
    fun j hj => (hother j hj).trans (partner_setPartner_ne _ _ hj)⟩

theorem txnTimeout_late {p : Nat} {s : State} {y : Txn} (h : (partner s p).txn = some y)
    (hlate : y.last + ticksPerSec ≤ s.now) : txnTimeout p s = abortTxn p 1 s := by
  rw [txnTimeout, h]
  exact if_pos hlate

theorem evqCoalesce_late {p f : Nat} {s : State} (h : (partner s p).evq.firstUnsig = some f)
    (hlate : f + us (partner s p).evq.coalUs ≤ s.now) :
    let x := partner s p
    let y := setPartner p { x with evq := { x.evq with sig := x.evq.wr, firstUnsig := none } } s
    evqCoalesce p s = if x.transport = 1 then raiseVec (129 + 8 * p) y else y := by
  simp only [evqCoalesce, h, hlate, if_true]

/-- The address of register `o` of unit `u` names both. -/
theorem unitBase_parts (u : Nat) {o : Nat} (h : o < 0x10000) :
    (unitBase u + o - 0x0800000000) / 0x10000 = u ∧ (unitBase u + o - 0x0800000000) % 0x10000 = o := by
  unfold unitBase
  omega

theorem writableBits_corrections {g : Nat} (h : g < 50) : writableBits (unitBase g + 0x18) = 0xFFFFFFFF := by
  obtain ⟨hu, ho⟩ := unitBase_parts g (o := 0x18) (by decide)
  unfold writableBits
  simp only [hu, ho, h, Nat.reduceEqDiff, or_self, and_false, and_self, if_false, if_true]

theorem firmwareWrite_corrections {g : Nat} (v : Word) (s : State) (h : g < 50) :
    firmwareWrite (unitBase g + 0x18) v.toNat s =
      setCommon g { common s g with rxExt := v.toNat % 2 ^ 16, txExt := v.toNat / 2 ^ 16 } s := by
  obtain ⟨hu, ho⟩ := unitBase_parts g (o := 0x18) (by decide)
  have hw : w32 (v.toNat &&& 0xFFFFFFFF) = v := by
    rw [show 0xFFFFFFFF = 2 ^ 32 - 1 from rfl, Nat.and_two_pow_sub_one_eq_mod, Nat.mod_eq_of_lt v.isLt]
    simp only [w32, BitVec.ofNat_toNat, BitVec.setWidth_eq]
  have hg : g ≠ 0x0600 := by omega
  unfold firmwareWrite
  simp only [hu, ho, writableBits_corrections h, hw, hg, false_and, if_false, if_true, Nat.reduceEqDiff]

theorem registerWrite_corrections {g : Nat} (v : Word) (s : State) (h : g < 50) :
    registerWrite true (unitBase g + 0x18) v s =
      setCommon g { common s g with rxExt := v.toNat % 2 ^ 16, txExt := v.toNat / 2 ^ 16 } s := by
  have hreg : (true && isUnitReg (unitBase g + 0x18) && (unitBase g + 0x18) % 4 == 0) = true := by
    have hlow : 0x0800000000 ≤ unitBase g + 0x18 := by unfold unitBase; omega
    have hhigh : unitBase g + 0x18 < 0x080C000000 := by unfold unitBase; omega
    have haligned : (unitBase g + 0x18) % 4 = 0 := by unfold unitBase; omega
    simp [isUnitReg, hlow, hhigh, haligned]
  rw [registerWrite, if_pos hreg, firmwareWrite_corrections v s h]

/-- Settles O35: each clause is the late branch of its timer, or the write of one register. -/
theorem serviceEvents : Obligations.ServiceEvents := by
  intro t p s hrun s0 x q
  refine ⟨fun y hy hlate => ?_, fun f hf hlate => ?_, fun g v hg => ?_, fun a v => ?_⟩
  · obtain ⟨hkernel, hz⟩ := abortTxn_service (p := p) (r := 1) (s := s0) hy
    refine ⟨_, next_whenRuns hrun ?_, hz⟩
    rw [txnTimeout_late (s := s0) hy hlate, holdBase_of_kernelOnly hkernel]
  · refine next_whenRuns hrun ?_
    rw [evqCoalesce_late (s := s0) hf hlate]
    exact holdBase_of_kernelOnly (kernelOnly_ite rfl rfl)
  · exact next_whenRuns hrun (congrArg (holdBase s0) (registerWrite_corrections v s0 hg))
  · exact next_whenRuns hrun rfl

end Sys2Proof.Machine
end

section
/-!
Frames of commands outside transactions (R51, R383, and the settings): what a command's effect and its rejection leave
alone, the whole command leaves alone.
-/
namespace Sys2Proof.Machine

/-! ### Commands and their opcodes -/

/-- Every command of the instruction set is found by its opcode. -/
theorem specOf_commandOf {i : Instr} {o : CmdSpec} {t p : Nat} {k : Packet} (hi : commandOf i = some (o, t, p, k)) :
    specOf o.opcode = some o := by
  cases i
  all_goals cases hi
  all_goals rfl

/-- A command with the opcode of one of a list of commands is that command. -/
theorem mem_of_opcode {i : Instr} {o : CmdSpec} {t p : Nat} {k : Packet} {l : List CmdSpec}
    (hi : commandOf i = some (o, t, p, k)) (hl : l.map (fun x => specOf x.opcode) = l.map some)
    (ho : o.opcode ∈ l.map (·.opcode)) : o ∈ l := by
  obtain ⟨x, hx, hop⟩ := List.mem_map.1 ho
  have hfound : specOf x.opcode = some x := List.map_inj_left.1 hl x hx
  rw [hop, specOf_commandOf hi] at hfound
  exact Option.some.inj hfound ▸ hx

/-! ### Frames -/

/-- Two states agree on what `π` keeps and on the partners' transports. -/
def Agree (π : State → State) (a b : State) : Prop :=
  π b = π a ∧ ∀ j, (partner b j).transport = (partner a j).transport

theorem agree_refl (π : State → State) (s : State) : Agree π s s := ⟨rfl, fun _ => rfl⟩

theorem agree_trans {π : State → State} {a b c : State} (h : Agree π a b) (k : Agree π b c) : Agree π a c :=
  ⟨k.1.trans h.1, fun j => (k.2 j).trans (h.2 j)⟩

theorem agree_foldl {π : State → State} {α : Type} {f : State → α → State} (h : ∀ s x, Agree π s (f s x)) (l : List α)
    (s : State) : Agree π s (l.foldl f s) := by
  induction l generalizing s with
  | nil => exact agree_refl π s
  | cons x l ih => exact agree_trans (h s x) (ih _)

/-- `π` leaves the service out, and keeps the base and the pair's state. -/
structure Keeps (π : State → State) : Prop where
  kernel : ∀ a k, π { a with kernel := k } = π a
  clk : ∀ s, (π s).clk = s.clk
  it : ∀ s, (π s).it = s.it
  rateAdj : ∀ s, (π s).rateAdj = s.rateAdj
  mode : ∀ s, (π s).mode = s.mode
  mainUp : ∀ s, (π s).mainUp = s.mainUp
  pending : ∀ s, (π s).pending = s.pending
  pair : ∀ s, (π s).pair = s.pair

theorem holdBase_of_agree {π : State → State} (hπ : Keeps π) {a b : State} (h : Agree π a b) : holdBase a b = b := by
  unfold holdBase
  rw [← hπ.clk a, ← hπ.it a, ← hπ.rateAdj a, ← hπ.mode a, ← hπ.mainUp a, ← hπ.pending a, ← h.1, hπ.clk, hπ.it,
    hπ.rateAdj, hπ.mode, hπ.mainUp, hπ.pending]

theorem commandFrame_agree {π : State → State} (hπ : Keeps π) : CommandFrame (Agree π) where
  trans := agree_trans
  kernel h ht := ⟨by rw [h]; exact hπ.kernel .., ht⟩
  base := holdBase_of_agree hπ
  pair h := by rw [← hπ.pair, h.1, hπ.pair]
  transport j h := h.2 j

theorem agree_of_kernelOnly {π : State → State} (hπ : Keeps π) {a b : State} (h : kernelOnly a b)
    (ht : ∀ j, (partner b j).transport = (partner a j).transport) : Agree π a b :=
  (commandFrame_agree hπ).kernel h ht

/-- A command whose effect and rejection stay within a frame. -/
structure Confined (π : State → State) (o : CmdSpec) : Prop where
  apply : ∀ c s, Agree π s (o.apply c s).1
  reject : ∀ c r s, Agree π s (o.onReject c r s)

/-- A confined command outside a transaction stays within its frame. -/
theorem exec_confined {π : State → State} (hπ : Keeps π) {i : Instr} {o : CmdSpec} {t p : Nat} {k : Packet} {s s' : State}
    (hi : commandOf i = some (o, t, p, k)) (ho : Confined π o) (hflag : bit k.flags.toNat 0 = false)
    (ht : (partner s p).transport ≠ 5) (hexec : exec i s = .next s') : π s' = π (atTime t s) := by
  rw [exec_commandOf i o t p k s hi] at hexec
  cases hexec
  exact (runCommand_frame (commandFrame_agree hπ) o t p k s ho.apply ho.reject hflag ht).1

theorem agree_setW1c {π : State → State} (hπ : Keeps π) (u o b ob : Nat) (s : State) :
    Agree π s (setW1c u o b ob s) :=
  agree_of_kernelOnly hπ (kernelOnly_setW1c ..) fun j => evqOnly_transport (partner_setW1c u o b ob s j)

/-! ### Queries (R51, R52, R84) -/

/-- All but the service and the free values taken. -/
def besideService (s : State) : State := { s with kernel := State.reset.kernel, free := 0 }

theorem keeps_besideService : Keeps besideService := by
  constructor <;> intros <;> rfl

theorem agree_takeFreeBytes (n : Nat) (s : State) : Agree besideService s (takeFreeBytes n s).2 := ⟨rfl, fun _ => rfl⟩

theorem agree_updPartner {π : State → State} (hπ : Keeps π) (p : Nat) {f : Partner → Partner}
    (hf : ∀ x, (f x).transport = x.transport) (s : State) : Agree π s (updPartner p f s) :=
  agree_of_kernelOnly hπ rfl (transport_updPartner p f s hf)

theorem transport_queueResetEvent (p q r d f : Nat) (s : State) (j : Nat) :
    (partner (queueResetEvent p q r d f s) j).transport = (partner s j).transport := by
  have hevent := evqOnly_transport (partner_commonEvent p 2
    (le 1 q ++ le 1 r ++ zeros 2 ++ le 4 d ++ le 4 f) s j).1
  unfold queueResetEvent
  dsimp only
  split
  · rw [partner_raiseVec]
    exact (transport_updPartner p _ _ (by exact fun _ => rfl) j).trans hevent
  · exact (transport_updPartner p _ _ (by exact fun _ => rfl) j).trans hevent

theorem transport_resetEvQueue (p r : Nat) (s : State) (j : Nat) :
    (partner (resetEvQueue p r s) j).transport = (partner s j).transport := by
  unfold resetEvQueue
  dsimp only
  rw [transport_queueResetEvent, partner_setPartner]
  split
  · next h => rw [h]
  · rfl

/-- A session query takes one free value for each session it lists. -/
theorem agree_tpSessionQuery (c : Ctx) (s : State) : Agree besideService s (tpSessionQuerySpec.apply c s).1 := by
  have h : ∀ (l : List (Nat × TpSession)) (a : State × Bytes), Agree besideService a.1 (l.foldl (fun (a : State × Bytes) e =>
      let (v, s) := takeFreeBytes 1 a.1
      (s, a.2 ++ le 2 e.1 ++ le 1 e.2.peer ++ v ++ le 4 (min e.2.done e.2.total))) a).1 := by
    intro l
    induction l with
    | nil => exact fun a => agree_refl _ _
    | cons e l ih => exact fun a => agree_trans (agree_takeFreeBytes 1 a.1) (ih _)
  exact h _ (s, [])

/-- A query other than ATTEST stays within the service and the free values. -/
theorem confined_query {i : Instr} {o : CmdSpec} {t p : Nat} {k : Packet} (hi : commandOf i = some (o, t, p, k))
    (hquery : o.change = false) (hattest : o.opcode ≠ 0x0631) : Confined besideService o := by
  have hkeeps := keeps_besideService
  cases i
  all_goals cases hi
  case eventSubscribe | evqConfig | txnAbort =>
    exact ⟨fun c s => agree_updPartner hkeeps c.p (by exact fun _ => rfl) s, fun _ _ => agree_refl _⟩
  case evqReset =>
    exact ⟨fun c s => agree_of_kernelOnly hkeeps (kernelOnly_resetEvQueue ..) (transport_resetEvQueue c.p 2 s),
      fun _ _ => agree_refl _⟩
  case tpSessionQuery => exact ⟨agree_tpSessionQuery, fun _ _ => agree_refl _⟩
  case macsecQuery => exact ⟨fun _ s => agree_takeFreeBytes 36 s, fun _ _ => agree_refl _⟩
  case attest => exact absurd rfl hattest
  all_goals first
    | exact absurd hquery (by decide)
    | exact ⟨fun _ => agree_refl _, fun _ _ => agree_refl _⟩

/-- Settles O29: every query but ATTEST stays within the service and the free values it takes. -/
theorem queriesChangeOnlyTheService : Obligations.QueriesChangeOnlyTheService := by
  intro i o t p k s s' hi hquery hattest hflag ht hexec
  have h := exec_confined keeps_besideService hi (confined_query hi hquery hattest) hflag ht hexec
  exact congrArg (fun z : State => { z with kernel := s'.kernel, free := s'.free }) h

/-! ### Staged changes (R383 to R386) -/

/-- All but the service, the staging and the ways of the hashed tables. -/
def besideStaging (s : State) : State := { s with
  kernel := State.reset.kernel
  tables := { s.tables with staging := [], fdbSlots := [], canSlots := [] } }

theorem keeps_besideStaging : Keeps besideStaging := by
  constructor <;> intros <;> rfl

theorem agree_stage (o : Nat) (k : Kind) (n : Nat) (v : Option Bytes) (s : State) :
    Agree besideStaging s (stage o k n v s) := ⟨rfl, fun _ => rfl⟩

theorem agree_setSlots (k : Kind) (m : Tab Slot) (s : State) : Agree besideStaging s (setSlots k m s) := by
  unfold setSlots
  split <;> exact ⟨rfl, fun _ => rfl⟩

theorem agree_stageHashed (o : Nat) (k : Kind) (key : Nat) (v : Bytes) (s : State) :
    Agree besideStaging s (stageHashed o k key v s) := by
  unfold stageHashed
  split
  · exact agree_trans (agree_setSlots ..) (agree_stage ..)
  · exact agree_refl _ _

theorem agree_stageHashedDelete (o : Nat) (k : Kind) (key : Nat) (s : State) :
    Agree besideStaging s (stageHashedDelete o k key s) :=
  agree_trans (agree_setSlots ..) (agree_stage ..)

theorem agree_rehashBit (b : Nat) (c : Ctx) (r : Reject) (s : State) : Agree besideStaging s (rehashBit b c r s) := by
  unfold rehashBit
  split
  · exact agree_setW1c keeps_besideStaging ..
  · exact agree_refl _ _

theorem agree_mapAdd (c : Ctx) (s : State) : Agree besideStaging s (mapAddSpec.apply c s).1 :=
  agree_foldl (f := fun s (e : Nat × Nat) => stage c.p .map (c.u16 0 + e.2) (some (c.raw e.1 16)) s)
    (fun _ _ => agree_stage ..) _ s

theorem agree_mapRemove (c : Ctx) (s : State) : Agree besideStaging s (mapRemoveSpec.apply c s).1 := by
  refine agree_foldl (fun s e => ?_) _ s
  split
  · exact agree_stage ..
  · exact agree_refl _ _

/-- The commands that stage one entry, or remove one. -/
def entrySpecs : List CmdSpec :=
  [replSetSpec, frerSeqgenSetSpec, frerRecoverySetSpec, sieveRuleSetSpec, sievePortSetSpec, flowSetSpec, canMaskSetSpec,
    lpmAddSpec, lpmDeleteSpec, pduDefineSpec, pduRemoveSpec, contDefineSpec, contRemoveSpec, e2eProfileSetSpec,
    tpChannelSetSpec, tpChannelRemoveSpec, j1939BindSpec, j1939UnbindSpec, j1939RewriteSetSpec, j1939OwnAddressSpec,
    protProfileSetSpec]

theorem confined_entry {o : CmdSpec} (ho : o ∈ entrySpecs) : Confined besideStaging o := by
  simp only [entrySpecs, List.mem_cons, List.not_mem_nil, or_false] at ho
  obtain rfl | rfl | rfl | rfl | rfl | rfl | rfl | rfl | rfl | rfl | rfl | rfl | rfl | rfl | rfl | rfl | rfl | rfl | rfl | rfl | rfl := ho
  all_goals exact ⟨fun _ _ => agree_stage .., fun _ _ => agree_refl _⟩

/-- The commands that stage entries of a hashed table or several entries, or drop the staging. -/
def manyEntriesSpecs : List CmdSpec :=
  [tableDiscardSpec, fdbAddSpec, fdbDeleteSpec, canRouteAddSpec, canRouteDeleteSpec, mapAddSpec, mapRemoveSpec]

theorem confined_manyEntries {o : CmdSpec} (ho : o ∈ manyEntriesSpecs) : Confined besideStaging o := by
  simp only [manyEntriesSpecs, List.mem_cons, List.not_mem_nil, or_false] at ho
  obtain rfl | rfl | rfl | rfl | rfl | rfl | rfl := ho
  · exact ⟨fun _ _ => ⟨rfl, fun _ => rfl⟩, fun _ _ => agree_refl _⟩
  · exact ⟨fun _ _ => agree_stageHashed .., agree_rehashBit _⟩
  · exact ⟨fun _ _ => agree_stageHashedDelete .., fun _ _ => agree_refl _⟩
  · exact ⟨fun _ _ => agree_stageHashed .., agree_rehashBit _⟩
  · exact ⟨fun _ _ => agree_stageHashedDelete .., fun _ _ => agree_refl _⟩
  · exact ⟨agree_mapAdd, fun _ _ => agree_refl _⟩
  · exact ⟨agree_mapRemove, fun _ _ => agree_refl _⟩

theorem confined_staging {o : CmdSpec} (ho : o ∈ entrySpecs ++ manyEntriesSpecs) : Confined besideStaging o :=
  (List.mem_append.1 ho).elim confined_entry confined_manyEntries

/-- Settles O30: every command of these opcodes stages, and leaves what is not staged. -/
theorem stagedChangesTouchOnlyTheStaging : Obligations.StagedChangesTouchOnlyTheStaging := by
  intro i o t p k s s' hi hop hflag ht hexec
  have ho : o ∈ entrySpecs ++ manyEntriesSpecs := mem_of_opcode hi rfl ((by decide : ∀ n ∈ _, n ∈ (entrySpecs ++ manyEntriesSpecs).map (·.opcode)) _ hop)
  have h := exec_confined keeps_besideStaging hi (confined_staging ho) hflag ht hexec
  exact congrArg (fun z : State => { z with
    kernel := s'.kernel
    tables := { z.tables with
      staging := s'.tables.staging, fdbSlots := s'.tables.fdbSlots, canSlots := s'.tables.canSlots } }) h

/-! ### Settings (R51) -/

/-- A command whose effect leaves the service and what `π` keeps, and whose rejections are recorded as by default. -/
theorem confined_setting {π : State → State} {o : CmdSpec}
    (h : ∀ c s, π (o.apply c s).1 = π s ∧ (o.apply c s).1.kernel = s.kernel) (hr : o.onReject = fun _ _ s => s) :
    Confined π o where
  apply c s := ⟨(h c s).1, fun j => by unfold partner; rw [(h c s).2]⟩
  reject c r s := by rw [hr]; exact agree_refl π s

/-- All but the service and the ports state. -/
def besidePorts (s : State) : State := { s with kernel := State.reset.kernel, ports := State.reset.ports }

theorem keeps_besidePorts : Keeps besidePorts := by
  constructor <;> intros <;> rfl

def portsSettings : List CmdSpec :=
  [portTsCorrSpec, wakeDetectSetSpec, canConfigSpec, canBittimeSpec, canRecoverSpec, linConfigSpec, linScheduleSetSpec, ethConfigSpec, t1sPlcaSpec]

theorem confined_portsSettings {o : CmdSpec} (ho : o ∈ portsSettings) : Confined besidePorts o := by
  simp only [portsSettings, List.mem_cons, List.not_mem_nil, or_false] at ho
  obtain rfl | rfl | rfl | rfl | rfl | rfl | rfl | rfl | rfl := ho
  all_goals exact confined_setting (fun _ _ => ⟨rfl, rfl⟩) rfl

/-- All but the service and the switch state. -/
def besideSwitch (s : State) : State := { s with kernel := State.reset.kernel, switch := State.reset.switch }

theorem keeps_besideSwitch : Keeps besideSwitch := by
  constructor <;> intros <;> rfl

def switchSettings : List CmdSpec :=
  [queueSetSpec, spillQueueSpec, gateListSetSpec, gateEnableSpec]

theorem confined_switchSettings {o : CmdSpec} (ho : o ∈ switchSettings) : Confined besideSwitch o := by
  simp only [switchSettings, List.mem_cons, List.not_mem_nil, or_false] at ho
  obtain rfl | rfl | rfl | rfl := ho
  all_goals exact confined_setting (fun _ _ => ⟨rfl, rfl⟩) rfl

/-- All but the service and the policing state. -/
def besidePolicing (s : State) : State := { s with kernel := State.reset.kernel, policing := State.reset.policing }

theorem keeps_besidePolicing : Keeps besidePolicing := by
  constructor <;> intros <;> rfl

def policingSettings : List CmdSpec :=
  [policerSetSpec, policerResetSpec, sfSetSpec, sgateListSetSpec, sfResetSpec, sourceSetSpec, containBudgetSetSpec]

theorem confined_policingSettings {o : CmdSpec} (ho : o ∈ policingSettings) : Confined besidePolicing o := by
  simp only [policingSettings, List.mem_cons, List.not_mem_nil, or_false] at ho
  obtain rfl | rfl | rfl | rfl | rfl | rfl | rfl := ho
  · exact confined_setting (fun _ _ => ⟨rfl, rfl⟩) rfl
  · refine confined_setting (fun c s => ?_) rfl
    simp only [policerResetSpec, quiet]
    split <;> exact ⟨rfl, rfl⟩
  · exact confined_setting (fun _ _ => ⟨rfl, rfl⟩) rfl
  · exact confined_setting (fun _ _ => ⟨rfl, rfl⟩) rfl
  · refine confined_setting (fun c s => ?_) rfl
    simp only [sfResetSpec, quiet]
    split
    · split
      · split <;> exact ⟨rfl, rfl⟩
      · exact ⟨rfl, rfl⟩
    · exact ⟨rfl, rfl⟩
  · exact confined_setting (fun _ _ => ⟨rfl, rfl⟩) rfl
  · exact confined_setting (fun _ _ => ⟨rfl, rfl⟩) rfl

/-- All but the service and the time state. -/
def besideTime (s : State) : State := { s with kernel := State.reset.kernel, time := State.reset.time }

theorem keeps_besideTime : Keeps besideTime := by
  constructor <;> intros <;> rfl

def timeSettings : List CmdSpec :=
  [timeRtcSetSpec, legalSourceSetSpec, tcapSetSpec, tcmpSetSpec, motionInputSetSpec, motionSourceSetSpec, motionPairSetSpec]

theorem confined_timeSettings {o : CmdSpec} (ho : o ∈ timeSettings) : Confined besideTime o := by
  simp only [timeSettings, List.mem_cons, List.not_mem_nil, or_false] at ho
  obtain rfl | rfl | rfl | rfl | rfl | rfl | rfl := ho
  all_goals exact confined_setting (fun _ _ => ⟨rfl, rfl⟩) rfl

/-- All but the service and the herax state. -/
def besideHerax (s : State) : State := { s with kernel := State.reset.kernel, herax := State.reset.herax }

theorem keeps_besideHerax : Keeps besideHerax := by
  constructor <;> intros <;> rfl

def heraxSettings : List CmdSpec :=
  [tamperConfigSpec, keyDiscardSpec, sealAckSpec, sealConfigSpec]

theorem confined_heraxSettings {o : CmdSpec} (ho : o ∈ heraxSettings) : Confined besideHerax o := by
  simp only [heraxSettings, List.mem_cons, List.not_mem_nil, or_false] at ho
  obtain rfl | rfl | rfl | rfl := ho
  all_goals exact confined_setting (fun _ _ => ⟨rfl, rfl⟩) rfl

/-- All but the service and the cipher state. -/
def besideCipher (s : State) : State := { s with kernel := State.reset.kernel, cipher := State.reset.cipher }

theorem keeps_besideCipher : Keeps besideCipher := by
  constructor <;> intros <;> rfl

def cipherSettings : List CmdSpec :=
  [macsecSecySetSpec, macsecRxscSetSpec, cipherJobResumeSpec, cipherJobCancelSpec, inbandBindSpec]

theorem confined_cipherSettings {o : CmdSpec} (ho : o ∈ cipherSettings) : Confined besideCipher o := by
  simp only [cipherSettings, List.mem_cons, List.not_mem_nil, or_false] at ho
  obtain rfl | rfl | rfl | rfl | rfl := ho
  · exact confined_setting (fun _ _ => ⟨rfl, rfl⟩) rfl
  · exact confined_setting (fun _ _ => ⟨rfl, rfl⟩) rfl
  · refine confined_setting (fun c s => ?_) rfl
    simp only [cipherJobResumeSpec, quiet]
    split <;> exact ⟨rfl, rfl⟩
  · refine confined_setting (fun c s => ?_) rfl
    simp only [cipherJobCancelSpec, quiet]
    split <;> exact ⟨rfl, rfl⟩
  · exact confined_setting (fun _ _ => ⟨rfl, rfl⟩) rfl

/-- All but the service and the power state. -/
def besidePower (s : State) : State := { s with kernel := State.reset.kernel, power := State.reset.power }

theorem keeps_besidePower : Keeps besidePower := by
  constructor <;> intros <;> rfl

def powerSettings : List CmdSpec :=
  [modeRequestSpec, comparatorSetSpec, deviceResetSpec, cfgAuthoritySetSpec, leeExitSpec]

theorem confined_powerSettings {o : CmdSpec} (ho : o ∈ powerSettings) : Confined besidePower o := by
  simp only [powerSettings, List.mem_cons, List.not_mem_nil, or_false] at ho
  obtain rfl | rfl | rfl | rfl | rfl := ho
  · refine confined_setting (fun c s => ?_) rfl
    simp only [modeRequestSpec, quiet]
    split <;> exact ⟨rfl, rfl⟩
  · exact confined_setting (fun _ _ => ⟨rfl, rfl⟩) rfl
  · exact confined_setting (fun _ _ => ⟨rfl, rfl⟩) rfl
  · exact confined_setting (fun _ _ => ⟨rfl, rfl⟩) rfl
  · exact confined_setting (fun _ _ => ⟨rfl, rfl⟩) rfl

/-- All but the service and the sleep state. -/
def besideSleep (s : State) : State := { s with kernel := State.reset.kernel, sleep := State.reset.sleep }

theorem keeps_besideSleep : Keeps besideSleep := by
  constructor <;> intros <;> rfl

def sleepSettings : List CmdSpec :=
  [pnSetSpec, wakePortSetSpec, wakeFrameSetSpec]

theorem confined_sleepSettings {o : CmdSpec} (ho : o ∈ sleepSettings) : Confined besideSleep o := by
  simp only [sleepSettings, List.mem_cons, List.not_mem_nil, or_false] at ho
  obtain rfl | rfl | rfl := ho
  all_goals exact confined_setting (fun _ _ => ⟨rfl, rfl⟩) rfl

/-- All but the service and the host state. -/
def besideHost (s : State) : State := { s with kernel := State.reset.kernel, host := State.reset.host }

theorem keeps_besideHost : Keeps besideHost := by
  constructor <;> intros <;> rfl

def hostSettings : List CmdSpec :=
  [hostsConfigSpec, ringConfigSpec, ringFreeSpec, dmmuCtxSetSpec, dmmuUnmapSpec]

theorem confined_hostSettings {o : CmdSpec} (ho : o ∈ hostSettings) : Confined besideHost o := by
  simp only [hostSettings, List.mem_cons, List.not_mem_nil, or_false] at ho
  obtain rfl | rfl | rfl | rfl | rfl := ho
  · exact confined_setting (fun _ _ => ⟨rfl, rfl⟩) rfl
  · exact confined_setting (fun _ _ => ⟨rfl, rfl⟩) rfl
  · exact confined_setting (fun _ _ => ⟨rfl, rfl⟩) rfl
  · refine confined_setting (fun c s => ?_) rfl
    simp only [dmmuCtxSetSpec, quiet]
    split <;> exact ⟨rfl, rfl⟩
  · exact confined_setting (fun _ _ => ⟨rfl, rfl⟩) rfl

/-- Settles O32: the settings of each unit stay within the service and that unit. -/
theorem settingsTouchOnlyTheirUnit : Obligations.SettingsTouchOnlyTheirUnit := by
  intro i o t p k s s' hi hflag ht hexec s0
  refine ⟨?_, ?_, ?_, ?_, ?_, ?_, ?_, ?_, ?_⟩
  · intro hop
    have h := exec_confined keeps_besidePorts hi (confined_portsSettings (mem_of_opcode hi rfl hop)) hflag ht hexec
    exact congrArg (fun z : State => { z with kernel := s'.kernel, ports := s'.ports }) h
  · intro hop
    have h := exec_confined keeps_besideSwitch hi (confined_switchSettings (mem_of_opcode hi rfl hop)) hflag ht hexec
    exact congrArg (fun z : State => { z with kernel := s'.kernel, switch := s'.switch }) h
  · intro hop
    have h := exec_confined keeps_besidePolicing hi (confined_policingSettings (mem_of_opcode hi rfl hop)) hflag ht hexec
    exact congrArg (fun z : State => { z with kernel := s'.kernel, policing := s'.policing }) h
  · intro hop
    have h := exec_confined keeps_besideTime hi (confined_timeSettings (mem_of_opcode hi rfl hop)) hflag ht hexec
    exact congrArg (fun z : State => { z with kernel := s'.kernel, time := s'.time }) h
  · intro hop
    have h := exec_confined keeps_besideHerax hi (confined_heraxSettings (mem_of_opcode hi rfl hop)) hflag ht hexec
    exact congrArg (fun z : State => { z with kernel := s'.kernel, herax := s'.herax }) h
  · intro hop
    have h := exec_confined keeps_besideCipher hi (confined_cipherSettings (mem_of_opcode hi rfl hop)) hflag ht hexec
    exact congrArg (fun z : State => { z with kernel := s'.kernel, cipher := s'.cipher }) h
  · intro hop
    have h := exec_confined keeps_besidePower hi (confined_powerSettings (mem_of_opcode hi rfl hop)) hflag ht hexec
    exact congrArg (fun z : State => { z with kernel := s'.kernel, power := s'.power }) h
  · intro hop
    have h := exec_confined keeps_besideSleep hi (confined_sleepSettings (mem_of_opcode hi rfl hop)) hflag ht hexec
    exact congrArg (fun z : State => { z with kernel := s'.kernel, sleep := s'.sleep }) h
  · intro hop
    have h := exec_confined keeps_besideHost hi (confined_hostSettings (mem_of_opcode hi rfl hop)) hflag ht hexec
    exact congrArg (fun z : State => { z with kernel := s'.kernel, host := s'.host }) h

end Sys2Proof.Machine
end

section
/-!
The host attachment: descriptor rings (R123 to R137), the PCIe link and BAR0 (R117 to R121), windows (R159 to R165) and
the octal-SPI target (R149 to R158).
-/
namespace Sys2Proof.Machine

/-! ### States with the base of another -/

/-- A state has the clock, IT, RATE_ADJ, mode, main domain and queue of another. -/
def Held (a b : State) : Prop := holdBase a b = b

theorem held_refl (s : State) : Held s s := rfl

theorem held_kernel {a b c : State} (h : Held a b) (k : kernelOnly b c) : Held a c := by
  unfold Held at *
  rw [k]
  exact congrArg (fun z : State => { z with kernel := c.kernel }) h

theorem held_ite {c : Prop} [Decidable c] {s a b : State} (ha : Held s a) (hb : Held s b) :
    Held s (if c then a else b) := by
  split
  · exact ha
  · exact hb

/-- An event of the main domain whose function leaves `y`, with the base it began with. -/
theorem next_held {t : Tick} {f : State → State} {s y : State} (hrun : tsclkRuns s = true)
    (hf : f (atTime t s) = y) (hy : Held (atTime t s) y) :
    (Host.Outcome.next (whenRuns t f s) : Host.Outcome State Fault Refusal) = .next y :=
  next_whenRuns hrun (hf ▸ hy)

/-- An event of any domain whose function leaves `y`, with the base it began with. -/
theorem next_whenAny {t : Tick} {f : State → State} {s y : State} (hf : f (atTime t s) = y) (hy : Held (atTime t s) y) :
    (Host.Outcome.next (whenAny t f s) : Host.Outcome State Fault Refusal) = .next y := by
  subst hf
  exact congrArg _ hy

/-! ### Rings (R123, R128, R132, R136, R144) -/

@[simp] theorem ringOf_setRing_self (n : Nat) (r : Ring) (s : State) : ringOf (setRing n r s) n = some r :=
  tget?_tset_self ..

theorem ringOf_kernelOnly {a b : State} (h : kernelOnly a b) (n : Nat) : ringOf b n = ringOf a n := by
  unfold ringOf
  rw [kernelOnly_host h]

/-- A served ring's doorbell reaches the ring, after the writes of the host. -/
theorem exec_ringDb {t n : Nat} {s y : State} {r : Ring} {v : Word} {wr : List (Nat × Bytes)} (hrun : tsclkRuns s = true)
    (hr : ringOf s n = some r) (hserved : ringServed s r = true)
    (hdb : ringDoorbell n v (hostWrites wr (atTime t s)) = y) (hy : Held (atTime t s) y) :
    exec (.ringDb t n v wr) s = .next y := by
  refine next_whenAny ?_ hy
  have hr' : ringOf (hostWrites wr (atTime t s)) n = some r := hr
  have hready : (tsclkRuns (hostWrites wr (atTime t s)) && ringServed (hostWrites wr (atTime t s)) r) = true :=
    Bool.and_eq_true_iff.2 ⟨hrun, hserved⟩
  unfold ringDb
  rw [hr']
  dsimp only
  rw [if_pos hready, hdb]

theorem ringDoorbell_taken {n : Nat} {s : State} {r : Ring} {v : Word} {ptr : Half} (hr : ringOf s n = some r)
    (hv : pairedPtr v = some ptr) (hmost : (ptr - r.done).toNat ≤ r.most) :
    ringDoorbell n v s = setRing n { r with tail := ptr } s := by
  unfold ringDoorbell
  rw [hr, hv]
  exact if_neg (Nat.not_lt.2 hmost)

theorem ringDoorbell_disagree {n : Nat} {s : State} {r : Ring} {v : Word} (hr : ringOf s n = some r)
    (hst : r.st = 1) (hv : pairedPtr v = none) :
    ringDoorbell n v s = ringStop n 6 r.point.1 r.point.2.1 r.point.2.2 s := by
  unfold ringDoorbell ringHalt
  rw [hr, hv]
  exact if_pos hst

/-- A ring that stops keeps its pointers; beside the ring a stop is an event. -/
theorem ringStop_ring {n cause off : Nat} {fault frame : Half} {s : State} {r : Ring} (hr : ringOf s n = some r) :
    let x := { r with st := 2, cause := cause, faultDesc := fault, frameDesc := frame, offset := off }
    kernelOnly (setRing n x s) (ringStop n cause fault frame off s) ∧
      ringOf (ringStop n cause fault frame off s) n = some x := by
  have hkernel : kernelOnly
      (setRing n { r with st := 2, cause := cause, faultDesc := fault, frameDesc := frame, offset := off } s)
      (ringStop n cause fault frame off s) := by
    unfold ringStop
    rw [hr]
    exact kernelOnly_raiseEvent ..
  exact ⟨hkernel, (ringOf_kernelOnly hkernel n).trans (ringOf_setRing_self ..)⟩

section arbiter
variable (m : Tab Nat) (s : State)

/-- A read by a bulk master does not look at the arbiter of the TX DMA. -/
theorem bulkRead_txArb (c va n : Nat) : bulkRead { s with host.txArb := m } c va n = bulkRead s c va n := by
  induction n generalizing va with
  | zero => rfl
  | succ n ih =>
    unfold bulkRead
    rw [ih]
    rfl

theorem txScan_txArb (r : Ring) (first : Half) (n : Nat) (ds : List Bytes) :
    txScan { s with host.txArb := m } r first n ds = txScan s r first n ds := by
  induction n generalizing ds with
  | zero => rfl
  | succ n ih =>
    unfold txScan
    simp only [bulkRead_txArb, ih]

theorem txNext_txArb (r : Ring) : txNext { s with host.txArb := m } r = txNext s r := by
  unfold txNext
  split <;> exact txScan_txArb ..

theorem segFree_txArb (k : Nat) : segFree { s with host.txArb := m } k = segFree s k := rfl

theorem takeFrom_txArb (l : List Nat) (n : Nat) : takeFrom { s with host.txArb := m } l n = takeFrom s l n := by
  induction l generalizing n with
  | nil => rfl
  | cons k l ih => simp only [takeFrom, segFree_txArb, ih]

theorem freeCells_txArb : freeCells { s with host.txArb := m } = freeCells s := rfl

theorem charge_txArb (g c n : Nat) (d : Bool) : charge { s with host.txArb := m } g c n d = charge s g c n d := rfl

theorem ringGport_txArb (r : Ring) : ringGport { s with host.txArb := m } r = ringGport s r := rfl

theorem txCredit_txArb (r : Ring) (n : Nat) : txCredit { s with host.txArb := m } r n = txCredit s r n := by
  simp only [txCredit, freeCells_txArb, charge_txArb, ringGport_txArb, takeFrom_txArb]

end arbiter

/-- The TX DMA takes the frame of the ring it picks, with its credit. -/
theorem txDmaFetch_frame {n k : Nat} {err : Bool} {r : Ring} {ds : List Bytes} {c : Credit} {s : State}
    (hrun : tsclkRuns s = true) (hpick : txPick s = some (n, r)) (hnext : txNext s r = .frame ds) (hfetch : r.fetch = none)
    (hcredit : txCredit s r (descTotal ds) = some c) :
    txDmaFetch k err s = txChunks n err k (setRing n { r with
      fetch := some { desc := r.head, descs := ds, got := [], credit := c }
      head := r.head + BitVec.ofNat 16 ds.length }
        (takeCells (ringGport s r) c.cls c.res c.shared c.segs
          { s with host.txArb := tset s.host.txArb r.tc ((n + 1) % 128) })) := by
  have hnext' : txNext { s with host.txArb := tset s.host.txArb r.tc (arbNext 128 n) } r = .frame ds :=
    (txNext_txArb ..).trans hnext
  have hcredit' : txCredit { s with host.txArb := tset s.host.txArb r.tc (arbNext 128 n) } r (descTotal ds) = some c :=
    (txCredit_txArb ..).trans hcredit
  unfold txDmaFetch
  rw [hrun, hpick]
  simp only [Bool.not_true, Bool.false_eq_true, if_false, hnext', hfetch, hcredit']
  rfl

/-- The RX DMA writes the frame at the head of the ring it picks. -/
theorem rxDmaDeliver_frame {n fid : Nat} {err : Option Nat} {r : Ring} {h : HeldFrame} {s : State}
    (hrun : tsclkRuns s = true) (hpick : rxPick s = some (n, r)) (hwriting : r.writing = none)
    (hhead : rxHead s n = some (fid, h)) (hfits : r.need (rxBytes s n h).length ≤ r.most) :
    rxDmaDeliver err s = rxWrite n fid h r.head 0 err (setRing n { r with
      head := r.head + BitVec.ofNat 16 (r.need (rxBytes s n h).length), writing := some (fid, r.head, 0) }
        { s with host.rxArb := tset s.host.rxArb r.tc ((n + 1) % 128) }) := by
  have hhead' : rxHead { s with host.rxArb := tset s.host.rxArb r.tc (arbNext 128 n) } n = some (fid, h) := hhead
  unfold rxDmaDeliver
  rw [hrun, hpick]
  simp only [Bool.not_true, Bool.false_eq_true, if_false, hwriting, hhead']
  exact if_neg (Nat.not_lt.2 hfits)

theorem ringCoalesce_late {n f : Nat} {r : Ring} {s : State} (hr : ringOf s n = some r) (hf : r.firstUnsig = some f)
    (hlate : f + us r.coalUs ≤ s.now) : ringCoalesce n s = raiseVec n (setRing n { r with firstUnsig := none } s) := by
  unfold ringCoalesce
  rw [hr]
  dsimp only
  rw [hf]
  exact if_pos hlate

/-- Settles O36: each clause is one branch of its doorbell's, the DMAs' or the coalescing function. -/
theorem ringEventsComplete : Obligations.RingEventsComplete := by
  intro t n s hrun s0
  refine ⟨fun r v ptr wr hr hserved hlo hhi hmost => ?_, fun r v wr hr hserved hst hv => ?_,
    fun r k err ds c hpick hnext hfetch hcredit => ?_, fun r err fid h hpick hwriting hhead hfits => ?_,
    fun r f hr hf hlate => ?_⟩
  · exact exec_ringDb hrun hr hserved (ringDoorbell_taken hr (pairedPtr_agree hlo hhi) hmost) rfl
  · obtain ⟨hkernel, hring⟩ := ringStop_ring (cause := 6) (fault := r.point.1) (frame := r.point.2.1)
      (off := r.point.2.2) (s := hostWrites wr s0) hr
    refine ⟨_, _, exec_ringDb hrun hr hserved (ringDoorbell_disagree hr hst (pairedPtr_disagree hv))
      (held_kernel (b := setRing n _ (hostWrites wr s0)) rfl hkernel), hring, rfl, rfl, rfl, rfl⟩
  · exact next_whenRuns hrun (congrArg (holdBase s0) (txDmaFetch_frame hrun hpick hnext hfetch hcredit))
  · exact next_whenRuns hrun (congrArg (holdBase s0) (rxDmaDeliver_frame hrun hpick hwriting hhead hfits))
  · exact next_held hrun (ringCoalesce_late (s := s0) hr hf hlate) rfl

/-! ### The PCIe link and BAR0 (R117, R119, R121, R174) -/

/-- Beside the rings and the service a state is another. -/
def RingsOnly (a b : State) : Prop := b = { a with kernel := b.kernel, host := { a.host with rings := b.host.rings } }

theorem ringsOnly_refl (s : State) : RingsOnly s s := rfl

theorem ringsOnly_trans {a b c : State} (h : RingsOnly a b) (k : RingsOnly b c) : RingsOnly a c := by
  unfold RingsOnly at *
  rw [k, h]

theorem ringsOnly_of_kernelOnly {a b : State} (h : kernelOnly a b) : RingsOnly a b := by
  unfold RingsOnly
  rw [h]

theorem ringsOnly_setRing (n : Nat) (r : Ring) (s : State) : RingsOnly s (setRing n r s) := rfl

theorem ringsOnly_ringStop (n c off : Nat) (f g : Half) (s : State) : RingsOnly s (ringStop n c f g off s) := by
  unfold ringStop
  split
  · exact ringsOnly_refl s
  · exact ringsOnly_trans (ringsOnly_setRing ..) (ringsOnly_of_kernelOnly (kernelOnly_raiseEvent ..))

theorem ringsOnly_ringHalt (n c : Nat) (s : State) : RingsOnly s (ringHalt n c s) := by
  unfold ringHalt
  split
  · split
    · exact ringsOnly_ringStop ..
    · exact ringsOnly_refl s
  · exact ringsOnly_refl s

theorem ringsOnly_halts (c : Nat) (l : List Nat) (s : State) : RingsOnly s (l.foldl (fun s n => ringHalt n c s) s) := by
  induction l generalizing s with
  | nil => exact ringsOnly_refl s
  | cons n l ih => exact ringsOnly_trans (ringsOnly_ringHalt n c s) (ih _)

theorem ringsOnly_pcieEvent (up : Bool) (s : State) : RingsOnly s (pcieEvent up s) :=
  ringsOnly_of_kernelOnly (kernelOnly_raiseEvent ..)

/-- Beside the rings a link that goes down loses its width and speed, with an event. -/
theorem pcieDown_link (s : State) (hup : s.host.linkUp = true) :
    RingsOnly { s with host.linkUp := false, host.width := 0, host.speed := 0 } (pcieDown s) := by
  unfold pcieDown
  rw [hup, Bool.not_true, if_neg Bool.false_ne_true]
  exact ringsOnly_trans (ringsOnly_halts ..) (ringsOnly_pcieEvent ..)

/-- The host's side of a link that goes down. -/
theorem pcieDown_host (s : State) :
    let z := pcieDown s
    z.host.linkUp = false ∧ z.host.mem = s.host.mem ∧ z.host.perst = s.host.perst := by
  cases hup : s.host.linkUp with
  | false =>
    have hz : pcieDown s = s := by
      unfold pcieDown
      rw [hup]
      rfl
    dsimp only
    rw [hz]
    exact ⟨hup, rfl, rfl⟩
  | true =>
    dsimp only
    rw [pcieDown_link s hup]
    exact ⟨rfl, rfl, rfl⟩

theorem pcieUp_free {w g : Nat} {s : State} (hrun : tsclkRuns s = true) (hdown : s.host.linkUp = false)
    (hperst : s.host.perst = false) : pcieUp w g s =
      pcieEvent true { s with host.linkUp := true, host.width := w % 256, host.speed := g % 256 } := by
  unfold pcieUp
  rw [hrun, hdown, hperst]
  rfl

/-- BAR0 is reached while the link is up, within its 64 KiB. -/
theorem bar0Access_reached {p o n : Nat} {x : Option Bytes} {s : State} (hrun : tsclkRuns s = true)
    (hup : s.host.linkUp = true) (hin : o + n ≤ 0x10000) : bar0Access p o n x s = match x with
      | none => answerWith 0 (bar0Read s p o n) s
      | some d => if n = 4 ∧ o % 4 = 0 then bar0Write o (w32 (leAt d 0 4)) s else bar0Fault o n s := by
  unfold bar0Access
  rw [hrun, hup, decide_eq_false (Nat.not_lt.2 hin)]
  rfl

/-- Settles O37: each clause is one branch of the link's or of BAR0's function. -/
theorem pcieEventsComplete : Obligations.PcieEventsComplete := by
  intro t s hrun s0
  refine ⟨fun hup => ?_, fun w g hdown hperst => ?_, rfl, ?_, fun hup => ?_, fun p o n hup hin => ?_,
    fun p o d hup hin hword => ?_⟩
  · refine ⟨_, next_whenRuns hrun rfl, ?_⟩
    rw [holdBase_host, pcieDown_link s0 hup]
    exact ⟨rfl, rfl, rfl, rfl, rfl⟩
  · exact next_held hrun (pcieUp_free (s := s0) hrun hdown hperst)
      (held_kernel (b := { s0 with host.linkUp := true, host.width := w % 256, host.speed := g % 256 }) rfl
        (kernelOnly_raiseEvent ..))
  · obtain ⟨hdown, hmem, hperst⟩ := pcieDown_host { s0 with host.perst := true }
    exact ⟨_, rfl, hperst, hdown, hmem⟩
  · refine next_held hrun ?_ rfl
    unfold pcieTimeout
    rw [show (atTime t s).host.linkUp = true from hup]
    rfl
  · exact next_held hrun (bar0Access_reached (s := s0) hrun hup hin) rfl
  · refine next_whenRuns hrun (congrArg (holdBase s0) ?_)
    exact (bar0Access_reached (s := s0) hrun hup hin).trans (if_pos ⟨rfl, hword⟩)

/-! ### Windows and the MSI-X table (R118, R156 to R165) -/

theorem within_eq_false {a l h : Nat} (hlt : a < l) : within a l h = false := by
  simp [within, Nat.not_le.2 hlt]

theorem discardPrefetch_none {p : Nat} {s : State} (h : tget? s.host.prefetch p = none) : discardPrefetch p s = s := by
  unfold discardPrefetch
  rw [h]

theorem writeEndsPrefetch_none {p i : Nat} {s : State} (h : tget? s.host.prefetch p = none) :
    writeEndsPrefetch p i s = s := by
  unfold writeEndsPrefetch
  rw [h]

theorem linkServes {s : State} (hrun : tsclkRuns s = true) (hup : s.host.linkUp = true) :
    ¬ (!tsclkRuns s || !s.host.linkUp) = true := by
  rw [hrun, hup]
  decide

/-- A read of the MSI-X table. -/
theorem bar2Read_msix {k n : Nat} {s : State} (hrun : tsclkRuns s = true) (hup : s.host.linkUp = true)
    (hin : k + n ≤ 0x1000) (hk : k < 0x1000) :
    bar2Read (0x0FFF0000 + k) n s = answerWith 0 (memReadBytes s.host.msixTable k n) s := by
  have htable : within (0x0FFF0000 + k) windowRegionEnd (windowRegionEnd + 0xFFF) = true ∧
      0x0FFF0000 + k + n ≤ windowRegionEnd + 0x1000 := by
    exact ⟨Bool.and_eq_true_iff.2 ⟨decide_eq_true (by unfold windowRegionEnd; omega),
      decide_eq_true (by unfold windowRegionEnd; omega)⟩, by unfold windowRegionEnd; omega⟩
  have hk' : 0x0FFF0000 + k - windowRegionEnd = k := Nat.add_sub_cancel_left ..
  unfold bar2Read
  rw [if_neg (linkServes hrun hup), if_pos htable, hk']

/-- A read through a window that does not prefetch, with nothing held. -/
theorem bar2Read_window {o n i : Nat} {w : Window} {d : Bytes} {s y : State} (hrun : tsclkRuns s = true)
    (hup : s.host.linkUp = true) (hin : o < windowRegionEnd) (hw : windowAt s 1 o n = some (i, w)) (hplain : w.prefetched = false)
    (hnone : tget? s.host.prefetch w.owner = none) (hwrites : s.host.writes = []) (habort : s.host.abortNext = [])
    (hread : readPieces false w.owner w.ctx (piecesOf (w.target + (o - w.offset)) n) s = (0, d, y)) :
    bar2Read o n s = answerWith 0 d y := by
  have htable : ¬ (within o windowRegionEnd (windowRegionEnd + 0xFFF) = true ∧ o + n ≤ windowRegionEnd + 0x1000) := by
    rw [within_eq_false hin]
    exact fun h => Bool.false_ne_true h.1
  have hpba : ¬ (within o 0x0FFF8000 0x0FFF801F = true ∧ o + n ≤ 0x0FFF8020) := by
    rw [within_eq_false (Nat.lt_trans hin (by decide))]
    exact fun h => Bool.false_ne_true h.1
  have hget : windowGet false w.owner i w o n s = (0, d, y) := by
    unfold windowGet
    dsimp only
    rw [hplain, if_neg Bool.false_ne_true, discardPrefetch_none hnone, hread]
  unfold bar2Read
  rw [if_neg (linkServes hrun hup), if_neg htable, if_neg hpba, hw]
  dsimp only
  rw [hwrites, habort, hget]
  rfl

/-- A write through a window is held for the bridge. -/
theorem bar2Write_window {o i : Nat} {d : Bytes} {w : Window} {s : State} (hrun : tsclkRuns s = true)
    (hup : s.host.linkUp = true) (hin : o < windowRegionEnd) (hw : windowAt s 1 o d.length = some (i, w)) (hmode : w.mode ≠ 0)
    (hwrites : s.host.writes = []) (hnone : tget? s.host.prefetch w.owner = none) :
    bar2Write o d s = { s with
      host.writes := [{ partner := w.owner, window := i, va := w.target + (o - w.offset), data := d,
                        posted := w.mode == 1, spi := false }] } := by
  have htable : ¬ (within o windowRegionEnd (windowRegionEnd + 0xFFF) = true ∧ o + d.length ≤ windowRegionEnd + 0x1000) := by
    rw [within_eq_false hin]
    exact fun h => Bool.false_ne_true h.1
  have hpba : ¬ within o 0x0FFF8000 0x0FFF801F = true := by
    rw [within_eq_false (Nat.lt_trans hin (by decide))]
    exact Bool.false_ne_true
  have hroom : heldWrites s (fun x => x.posted && !x.spi) = 0 := by
    rw [heldWrites, hwrites]
    rfl
  unfold bar2Write
  dsimp only
  rw [if_neg (linkServes hrun hup), if_neg htable, if_neg hpba, hw]
  dsimp only
  rw [hroom, writeEndsPrefetch_none hnone, hwrites, if_neg hmode]
  rw [if_neg (by simp)]
  rfl

theorem prefetchExpiry_late {p : Nat} {b : Prefetch} {s : State} (hb : tget? s.host.prefetch p = some b)
    (hlate : b.last + us 2 ≤ s.now) (hlines : b.lines = []) :
    prefetchExpiry p s = { s with host.prefetch := tdel s.host.prefetch p } := by
  unfold prefetchExpiry
  rw [hb]
  dsimp only
  rw [if_pos hlate, discardPrefetch, hb]
  dsimp only
  rw [hlines]
  rfl

theorem popWrite_head {f : BridgeWrite → Bool} {x : BridgeWrite} {rest : List BridgeWrite} (h : f x = true) :
    popWrite f (x :: rest) = some (x, rest) := if_pos h

theorem postedDone_head {x : BridgeWrite} {y s : State} {st : Nat} {rest : List BridgeWrite} (hw : s.host.writes = x :: rest)
    (hposted : x.posted = true) (hperform : performWrite x { s with host.writes := rest } = (st, y)) : postedDone s = y := by
  unfold postedDone
  rw [hw, popWrite_head hposted]
  dsimp only
  rw [hperform]

/-- The first non-posted write of a partner completes. -/
theorem nonpostedDone_head {x : BridgeWrite} {y s : State} {st : Nat} {rest : List BridgeWrite}
    (hw : s.host.writes = x :: rest) (hposted : x.posted = false)
    (hperform : performWrite x { s with host.writes := rest } = (st, y)) :
    nonpostedDone x.partner s =
      if x.spi then { y with host.lastStatus := tset y.host.lastStatus x.partner (st, false) }
      else if st = accOk then y
      else { y with host.abortNext := y.host.abortNext.filter (fun q => q != x.partner) ++ [x.partner] } := by
  have hfirst : (!x.posted && x.partner == x.partner) = true := by rw [hposted]; simp
  unfold nonpostedDone
  rw [hw, popWrite_head hfirst]
  dsimp only
  rw [hperform]

/-- Settles O38: each clause is one branch of BAR2's functions or of the bridge's completions. -/
theorem windowEventsComplete : Obligations.WindowEventsComplete := by
  intro t s hrun s0
  refine ⟨fun k n hup hin hk => ?_, fun o n i w d y hup hin hpos hw hplain hnone hwrites habort hread => ?_,
    fun o d i w hup hin hpos hw hmode hwrites hnone => ?_, fun p b hb hlate hlines => ?_,
    fun x y rest hw hposted hperform => ?_, fun x y rest hw hposted hspi hperform => ?_,
    fun x y st rest hw hposted hspi hperform => ?_⟩
  · exact next_held hrun (bar2Read_msix (s := s0) hrun hup hin hk) rfl
  · have ho : o < 0x0FFF0000 := by omega
    exact next_whenRuns hrun (congrArg (holdBase s0)
      (bar2Read_window (s := s0) hrun hup ho hw hplain hnone hwrites habort hread))
  · have ho : o < 0x0FFF0000 := by omega
    exact next_held hrun (bar2Write_window (s := s0) hrun hup ho hw hmode hwrites hnone) rfl
  · exact next_held hrun (prefetchExpiry_late (s := s0) hb hlate hlines) rfl
  · exact next_whenRuns hrun (congrArg (holdBase s0) (postedDone_head (s := s0) hw hposted hperform))
  · have hdone := nonpostedDone_head (s := s0) hw hposted hperform
    rw [if_neg (Bool.eq_false_iff.1 hspi), if_pos (show 0 = accOk from rfl)] at hdone
    exact next_whenRuns hrun (congrArg (holdBase s0) hdone)
  · have hdone := nonpostedDone_head (s := s0) hw hposted hperform
    rw [if_pos hspi] at hdone
    exact next_whenRuns hrun (congrArg (holdBase s0) hdone)

/-! ### The octal-SPI target (R149 to R158) -/

section spi
variable (s : State)

/-- The start of a transaction changes LAT alone. -/
theorem spiStart_lat : spiStart s = { s with
    host := { s.host with lat := (spiStart s).host.lat, latNext := (spiStart s).host.latNext } } := by
  unfold spiStart
  split <;> rfl

theorem tsclkRuns_spiStart : tsclkRuns (spiStart s) = tsclkRuns s := by rw [spiStart_lat]; rfl

theorem partner_spiStart (p : Nat) : partner (spiStart s) p = partner s p := by rw [spiStart_lat]; rfl

theorem kept_spiStart : (spiStart s).host.kept = s.host.kept := by rw [spiStart_lat]

theorem writes_spiStart : (spiStart s).host.writes = s.host.writes := by rw [spiStart_lat]

theorem framingErrs_spiStart : (spiStart s).host.framingErrs = s.host.framingErrs := by rw [spiStart_lat]

theorem held_spiStart : Held s (spiStart s) := by rw [spiStart_lat]; rfl

end spi

theorem spiReject_none {p : Nat} {s : State} (hp : p < 8) (ht : (partner s p).transport = 2) :
    spiReject s true true p = none := by
  simp [spiReject, Nat.not_le.2 hp, ht]

theorem dropKept_none {p : Nat} {s : State} (h : tget? s.host.kept p = none) : dropKept p s = s := by
  unfold dropKept
  rw [h]

/-- A transaction that is counted and answered. -/
def spiAnswered (d : Bytes) (s : State) : State :=
  answerWith 0 d { s with host.spiCount := (s.host.spiCount + 1) % 2 ^ 32 }

theorem spiEnd_ok (d : Bytes) (s : State) : spiEnd 0 d s = spiAnswered d s := rfl

theorem held_spiAnswered {a b : State} (h : Held a b) (d : Bytes) : Held a (spiAnswered d b) :=
  congrArg (spiAnswered d) h

section hosts
variable {p : Nat} {s : State} (hrun : tsclkRuns s = true) (hp : p < 8) (ht : (partner s p).transport = 2)
  (hkept : tget? s.host.kept p = none)
include hrun hp ht hkept

theorem spiRead_bar0 {a n : Nat} (hwrites : s.host.writes = []) (hin : a + n ≤ 0x10000) :
    spiRead p a n true true true s = spiAnswered (bar0Read (spiStart s) p a n) (spiStart s) := by
  unfold spiRead
  dsimp only
  rw [hrun, Bool.not_true, if_neg Bool.false_ne_true, spiReject_none hp (by rw [partner_spiStart]; exact ht)]
  dsimp only
  rw [kept_spiStart, hkept]
  dsimp only
  rw [writes_spiStart, hwrites, spiGet]
  dsimp only
  rw [if_pos hin]
  rfl

theorem spiWrite_ring {a : Nat} {d : Bytes} (fast : Bool) (hlow : 0x20000 ≤ a) (hhigh : a + d.length ≤ 0x28000)
    (hslots : a + d.length ≤ 0x20000 + 64 * (partner s p).slots) :
    spiWrite p a d true fast s = spiAnswered [] (spiStart s) := by
  have hbar : ¬ a + d.length ≤ 0x10000 := by omega
  unfold spiWrite
  dsimp only
  rw [hrun, Bool.not_true, if_neg Bool.false_ne_true, spiReject_none hp (by rw [partner_spiStart]; exact ht)]
  dsimp only
  rw [dropKept_none (by rw [kept_spiStart]; exact hkept), if_neg hbar, if_pos ⟨hlow, hhigh⟩, partner_spiStart, if_pos hslots]
  rfl

theorem spiStatusRead_plain : spiStatusRead p true s =
    spiAnswered (le 4 (bar0Word (spiStart s) p 0x1204)) (spiStart s) := by
  unfold spiStatusRead
  dsimp only
  rw [hrun, Bool.not_true, if_neg Bool.false_ne_true, spiReject_none hp (by rw [partner_spiStart]; exact ht)]
  dsimp only
  rw [dropKept_none (by rw [kept_spiStart]; exact hkept)]
  rfl

end hosts

theorem spiFraming_counts (s : State) (hrun : tsclkRuns s = true) :
    let z := spiFraming s
    z.host.framingErrs = satAdd 0xFF s.host.framingErrs 1 ∧ w1cIs z 0x0B00 4 11 = true := by
  unfold spiFraming
  dsimp only
  rw [hrun, Bool.not_true, if_neg Bool.false_ne_true, kernelOnly_host (kernelOnly_setW1c ..), framingErrs_spiStart]
  exact ⟨rfl, w1cIs_setW1c ..⟩

theorem keptExpiry_late {p : Nat} {k : Kept} {s : State} (hk : tget? s.host.kept p = some k) (hlate : k.till ≤ s.now)
    (hplain : k.sensitive = none) : keptExpiry p s = { s with host.kept := tdel s.host.kept p } := by
  unfold keptExpiry
  rw [hk]
  dsimp only
  rw [if_pos hlate, dropKept, hk]
  dsimp only
  rw [hplain]

/-- Settles O39: each clause is a transaction that is not rejected, or one branch of the framing and expiry functions. -/
theorem octalSpiEventsComplete : Obligations.OctalSpiEventsComplete := by
  intro t p s hrun s0 done
  refine ⟨fun hp ht hkept hwrites => ⟨fun a n hin => ?_, fun a d fast hlow hhigh hslots => ?_, ?_⟩, ?_,
    fun k hk hlate hplain => ?_⟩
  · exact next_held hrun (spiRead_bar0 (s := atTime t s) hrun hp ht hkept hwrites hin)
      (held_spiAnswered (held_spiStart _) _)
  · exact next_held hrun (spiWrite_ring (s := atTime t s) hrun hp ht hkept fast hlow hhigh hslots)
      (held_spiAnswered (held_spiStart _) _)
  · exact next_held hrun (spiStatusRead_plain (s := atTime t s) hrun hp ht hkept) (held_spiAnswered (held_spiStart _) _)
  · exact ⟨_, next_whenRuns hrun rfl, spiFraming_counts (atTime t s) hrun⟩
  · exact next_held hrun (keptExpiry_late (s := atTime t s) hk hlate hplain) rfl

end Sys2Proof.Machine
end

section
/-!
Ports: the events of a CAN port (R177 to R199), the selection of the next frame (R191, R204, R327, R354, R357), and the
ends of transmissions and gates (R212, R361 to R368, R499).
-/
namespace Sys2Proof.Machine

/-! ### CAN ports -/

@[simp] theorem canOf_setCan_self (g : Nat) (x : CanPort) (s : State) : canOf (setCan g x s) g = x :=
  tget_tset_self ..

theorem canOf_kernelOnly {a b : State} (h : kernelOnly a b) (g : Nat) : canOf b g = canOf a g := by
  unfold canOf
  rw [h]

theorem isCan_of_lt {g : Nat} (h : g < 24) : isCan g = true := decide_eq_true h

/-- An event of a CAN port does what its function does. -/
theorem next_can {t g : Nat} {f : State → State} {s y : State} (hrun : tsclkRuns s = true) (hg : g < 24)
    (hf : f (atTime t s) = y) :
    (Host.Outcome.next (whenRuns t (fun s => only (isCan g) f s) s) : Host.Outcome State Fault Refusal) =
      .next (holdBase (atTime t s) y) := by
  refine next_whenRuns hrun ?_
  rw [only_true (isCan_of_lt hg), hf]

theorem next_can_held {t g : Nat} {f : State → State} {s y : State} (hrun : tsclkRuns s = true) (hg : g < 24)
    (hf : f (atTime t s) = y) (hy : Held (atTime t s) y) :
    (Host.Outcome.next (whenRuns t (fun s => only (isCan g) f s) s) : Host.Outcome State Fault Refusal) = .next y :=
  (next_can hrun hg hf).trans (congrArg _ hy)

theorem withOper_congr {g r : Nat} {f f' : State → State} {s : State} (h : f s = f' s) :
    withOper g r f s = withOper g r f' s := by
  unfold withOper
  rw [h]

/-- A change that leaves the medium as it is drops no queue: beside it there is at most PORT_STATE. -/
theorem kernelOnly_withOper {g r : Nat} {f : State → State} {s : State}
    (h : downForEgress (f s) g = downForEgress s g) : kernelOnly (f s) (withOper g r f s) := by
  unfold withOper
  dsimp only
  rw [h, Bool.not_and_self, if_neg Bool.false_ne_true]
  exact kernelOnly_ite (kernelOnly_refl _) (kernelOnly_raiseEvent ..)

/-- The port after its counters were written: bus-off, and recovering where it does so by itself (R191). -/
def confined (y : CanPort) : CanPort :=
  let off := decide (255 < y.txErr) && !y.busOff
  { y with busOff := y.busOff || off, recovering := y.recovering || (off && y.config.getLsbD 4) }

section can
variable {g : Nat} (hg : g < 24) (s : State)
include hg

theorem downForEgress_can : downForEgress s g =
    !((common s g).admin && ((canOf s g).integrated && decide ((canOf s g).trxMode ≤ 1))) := by
  unfold downForEgress mediumUp
  rw [if_pos (by omega), isCan_of_lt hg]
  rfl

theorem operUp_can : operUp s g =
    ((common s g).admin && ((canOf s g).integrated && decide ((canOf s g).trxMode ≤ 1)) && !(canOf s g).busOff) := by
  unfold operUp mediumUp
  rw [if_pos (by omega), isCan_of_lt hg]
  rfl

/-- The medium stays where integration and the transceiver's mode do. -/
theorem downForEgress_setCan {x : CanPort} (hi : x.integrated = (canOf s g).integrated)
    (ht : x.trxMode = (canOf s g).trxMode) : downForEgress (setCan g x s) g = downForEgress s g := by
  rw [downForEgress_can hg, downForEgress_can hg, canOf_setCan_self, hi, ht]
  rfl

/-- Beside the port's error state, error confinement is what records it. -/
theorem kernelOnly_canConfine {f : CanPort → CanPort} (hi : (f (canOf s g)).integrated = (canOf s g).integrated)
    (ht : (f (canOf s g)).trxMode = (canOf s g).trxMode) :
    kernelOnly (setCan g (confined (f (canOf s g))) s) (canConfine g f s) := by
  have hdown : downForEgress (setCan g (confined (f (canOf s g))) s) g = downForEgress s g :=
    downForEgress_setCan hg s hi ht
  have hoper : kernelOnly (setCan g (confined (f (canOf s g))) s)
      (withOper g 3 (fun s' => setCan g (confined (f (canOf s g))) s') s) := kernelOnly_withOper hdown
  have herr : ∀ z, kernelOnly z (canErrEvent g z) := fun z => kernelOnly_raiseEvent ..
  have hrecord : ∀ (c : Prop) [Decidable c] z, kernelOnly z (if c then canErrEvent g z else z) := fun c _ z =>
    kernelOnly_ite (herr z) (kernelOnly_refl z)
  have hcount : ∀ (c : Prop) [Decidable c] z, kernelOnly z (if c then bump (portCtr g 0x0168) z else z) := fun c _ z =>
    kernelOnly_ite (kernelOnly_bump ..) (kernelOnly_refl z)
  exact kernelOnly_trans hoper (kernelOnly_trans (hrecord _ _) (hcount _ _))

theorem config_canConfine {f : CanPort → CanPort} (hi : (f (canOf s g)).integrated = (canOf s g).integrated)
    (ht : (f (canOf s g)).trxMode = (canOf s g).trxMode) :
    (canOf (canConfine g f s) g).config = (f (canOf s g)).config := by
  rw [canOf_kernelOnly (kernelOnly_canConfine hg s hi ht), canOf_setCan_self]
  rfl

/-- A start of frame marks the bus busy, and a frame of the port's own leaves its SOF. -/
theorem canHears_canTaken (hdeaf : (canOf s g).deaf = false) : canHears (canTaken g s) g = operUp s g := by
  unfold canHears canTaken
  rw [operUp_can hg, operUp_can hg, canOf_setCan_self]
  dsimp only
  rw [hdeaf]
  exact Bool.and_true _

omit hg in
theorem canMode_canTaken : canMode (canTaken g s) g = canMode s g := by
  have hmode : (canOf (canTaken g s) g).opmode = (canOf s g).opmode := by
    unfold canTaken
    rw [canOf_setCan_self]
  unfold canMode
  exact congrArg (fun m => if m = 0 ∧ standbyPort s g then 1 else m) hmode

omit hg in
theorem canRow_canTaken (c : CanFrame) (n : Nat) : canRow (canOf (canTaken g s) g) c n = canRow (canOf s g) c n := by
  unfold canTaken
  rw [canOf_setCan_self]
  rfl

omit hg in
theorem presenceSeen_off {stamp : Tick} (h : (canOf s g).config.getLsbD 2 = false) : presenceSeen g stamp s = s := by
  unfold presenceSeen
  dsimp only
  rw [h]
  rfl

/-- A frame received good goes on to classification (R193). -/
theorem canRx_good {c : CanFrame} {cap sof e : Nat} (hadmin : (common s g).admin = true) (hup : operUp s g = true)
    (hdeaf : (canOf s g).deaf = false) (hplain : (canOf s g).config.getLsbD 2 = false)
    (hrow : canRow (canOf s g) c 0 = none) :
    canRx g c 0 cap sof e s = (ingress { Frame.arrived (some c) [] g (ingressStamp s g cap false) with sofDelta := sof } g
      false (bump (portCtr g 0x0100) (if canMode s g = 0 then canConfine g (fun z =>
        { z with rxErr := if 127 < z.rxErr then 119 else z.rxErr - 1 }) (canTaken g s) else canTaken g s))).2.st := by
  have hconfig : (canOf (canTaken g s) g).config = (canOf s g).config := by
    unfold canTaken
    rw [canOf_setCan_self]
  have hpresence : ∀ stamp, presenceSeen g stamp (if canMode s g = 0 then canConfine g (fun z =>
      { z with rxErr := if 127 < z.rxErr then 119 else z.rxErr - 1 }) (canTaken g s) else canTaken g s) =
      (if canMode s g = 0 then canConfine g (fun z =>
      { z with rxErr := if 127 < z.rxErr then 119 else z.rxErr - 1 }) (canTaken g s) else canTaken g s) := by
    intro stamp
    apply presenceSeen_off
    split
    · rw [config_canConfine hg _ rfl rfl, hconfig, hplain]
    · rw [hconfig, hplain]
  unfold canRx
  simp only [hadmin, if_true, canHears_canTaken hg s hdeaf, hup, Bool.not_true, Bool.false_eq_true, if_false,
    canRow_canTaken, hrow, canMode_canTaken, hpresence, beq_iff_eq]
  rfl

/-- A frame that shows an error to a port that does not drive the bus makes it deaf (R189). -/
theorem canRx_stuff {c : CanFrame} {cap sof e : Nat} (hadmin : (common s g).admin = true) (hup : operUp s g = true)
    (hdeaf : (canOf s g).deaf = false) (hmode : canMode s g ≠ 0) :
    canRx g c 1 cap sof e s = setCan g { canOf (canTaken g s) g with deaf := true }
      (bump (portCtr g 0x0110) (canTaken g s)) := by
  have hrow : canRow (canOf s g) c 1 = some (0x0110, true) := rfl
  unfold canRx
  simp only [hadmin, if_true, canHears_canTaken hg s hdeaf, hup, Bool.not_true, Bool.false_eq_true, if_false,
    canRow_canTaken, hrow, canMode_canTaken, beq_iff_eq, hmode]
  rfl

theorem busOffRecovered_can (hadmin : (common s g).admin = true) (hoff : (canOf s g).busOff = true)
    (hrec : (canOf s g).recovering = true) :
    kernelOnly (setCan g { canOf s g with busOff := false, recovering := false, txErr := 0, rxErr := 0 } s)
      (busOffRecovered g s) := by
  have hoper : kernelOnly (setCan g { canOf s g with busOff := false, recovering := false, txErr := 0, rxErr := 0 } s)
      (withOper g 4 (fun s => setCan g
        { canOf s g with busOff := false, recovering := false, txErr := 0, rxErr := 0 } s) s) :=
    kernelOnly_withOper (downForEgress_setCan hg s rfl rfl)
  unfold busOffRecovered
  dsimp only
  rw [if_pos ⟨hadmin, hoff, hrec⟩]
  exact kernelOnly_trans hoper (kernelOnly_ite (kernelOnly_raiseEvent ..) (kernelOnly_refl _))

end can
/-- An arbitration lost keeps the frame for its next attempt. -/
theorem canTxEnd_lost {g cap tdc : Nat} {h : CanHeld} {s : State} (hheld : (canOf s g).held = some h)
    (hsof : h.sof.isSome = true) : canTxEnd g 1 cap tdc s =
      setCan g { canOf s g with held := some { h with sof := none } } (bump (portCtr g 0x0148) s) := by
  have hnone : ¬ h.sof.isNone = true := by
    rw [Option.isNone_iff_eq_none]
    exact Option.isSome_iff_ne_none.1 hsof
  unfold canTxEnd
  dsimp only
  rw [hheld]
  dsimp only
  rw [if_neg hnone]
  rfl

/-- A frame that left is no longer the port's, its error count falls, and its copies are released (R191). -/
theorem canTxEnd_sent {g cap tdc : Nat} {h : CanHeld} {f : HeldFrame} {s : State} (hheld : (canOf s g).held = some h)
    (hsof : h.sof.isSome = true) (hf : heldOf s h.fid = some f) :
    let y := measureTdc g h.frame tdc (bump (portCtr g 0x0140) s)
    let z := canConfine g (fun z => { z with txErr := z.txErr - 1 }) (setCan g { canOf y g with held := none } y)
    let stamp := egressStamp s g cap false
    heldOf z h.fid = some f → canTxEnd g 0 cap tdc s =
      releaseRef h.fid (txStampDone h.fid f.frame.txRing (some stamp) (frameLeft f.frame stamp z)) := by
  have hnone : ¬ h.sof.isNone = true := by
    rw [Option.isNone_iff_eq_none]
    exact Option.isSome_iff_ne_none.1 hsof
  intro y z stamp hz
  unfold canTxEnd
  dsimp only
  rw [hheld]
  dsimp only
  rw [if_neg hnone, if_pos rfl, hf]
  dsimp only
  rw [show heldOf (canConfine g (fun z => { z with txErr := z.txErr - 1 })
    (setCan g { canOf (measureTdc g h.frame tdc (bump (portCtr g 0x0140) s)) g with held := none }
      (measureTdc g h.frame tdc (bump (portCtr g 0x0140) s)))) h.fid = some f from hz]

theorem trailerExpiry_late {g v : Nat} {s : State} (ht : (canOf s g).trailer = true)
    (hv : (canOf s g).lastValid = some v) (hlate : v + ms ((canOf s g).config.toNat / 2 ^ 16) ≤ s.now) :
    trailerExpiry g s = raiseFull g 0x0103 (le 1 0) (v + ms ((canOf s g).config.toNat / 2 ^ 16)) false false
      (setCan g { canOf s g with trailer := false } s) := by
  have hend : presenceEnd (canOf s g) = some (v + ms ((canOf s g).config.toNat / 2 ^ 16)) := by
    rw [presenceEnd, hv]
    rfl
  unfold trailerExpiry
  dsimp only
  rw [ht, hend]
  exact if_pos hlate

theorem gtsHoldEnd_late {g e : Nat} {s : State} (he : (canOf s g).gtsEnd = some e) (hlate : e ≤ s.clk)
    (hmode : (canOf s g).trxMode = 3) :
    gtsHoldEnd g s = withOper g 5 (setCan g { canOf s g with trxMode := 2, gtsEnd := none }) s := by
  unfold gtsHoldEnd
  dsimp only
  rw [he]
  exact if_pos ⟨hlate, hmode⟩

theorem busIdle_can {g ovl : Nat} {s : State} (hg : g < 24) (hadmin : (common s g).admin = true)
    (hop : (canOf s g).opmodeNext = none) (htrx : (canOf s g).trxNext = none) :
    busIdle g ovl s = canDriveSof g (setCan g { canOf s g with busy := false, deaf := false }
      (bumpBy (portCtr g 0x0138) ovl s)) := by
  unfold busIdle
  rw [if_pos (isCan_of_lt hg), if_pos hadmin]
  dsimp only
  rw [show canOf (bumpBy (portCtr g 0x0138) ovl s) g = canOf s g from rfl, canOf_setCan_self]
  dsimp only
  rw [hop]
  dsimp only
  rw [canOf_setCan_self]
  dsimp only
  rw [htrx]

theorem wakeDetect_can {g n k : Nat} {s : State} (hg : g < 24) (hup : s.mainUp = true) (hmode : s.mode = .gale)
    (hsrc : bit (common s g).wakeSrc 0 = true) :
    wakeDetect g 0 n k s = portWake g (wakeSource g 0) s.now (setCan g { canOf s g with wflag := true } s) := by
  have hoff : ¬ (!decide (g < 50) || !bit (common s g).wakeSrc 0 || s.mode == .calm ||
      (!s.mainUp && s.mode != .zephyr)) = true := by
    rw [decide_eq_true (by omega : g < 50), hsrc, hmode, hup]
    decide
  have hcan : (isCan g && 0 == 0) = true := by
    rw [isCan_of_lt hg]
    rfl
  unfold wakeDetect
  rw [if_neg hoff, if_pos hcan]
  dsimp only
  rw [if_neg (by rw [setCan_mode, hmode]; decide)]
  rfl

theorem mainUp_of_runs {s : State} (h : tsclkRuns s = true) : s.mainUp = true := by
  unfold tsclkRuns at h
  simp only [Bool.and_eq_true] at h
  exact h.1.1

/-- Settles O40: each clause is one branch of a function of the CAN port. -/
theorem canEventsComplete : Obligations.CanEventsComplete := by
  intro t g s hrun hg s0 x
  refine ⟨fun hadmin hint => ?_, fun c cap sof e hadmin hup hdeaf hplain hrow => ?_,
    fun c cap sof e hadmin hup hdeaf hmode => ?_, fun h cap tdc hheld hsof => ?_,
    fun h cap tdc f hheld hsof hf hz => ?_, fun hadmin hoff hrec => ?_, fun v ht hv hlate => ?_,
    fun e he hlate hmode => ?_, fun hadmin hop htrx ovl => ?_, fun n k hsrc hmode => ?_⟩
  · refine next_can hrun hg ?_
    unfold canIntegrate
    exact if_pos ⟨hadmin, by rw [show (canOf (atTime t s) g).integrated = false from hint]; rfl⟩
  · exact next_can hrun hg (canRx_good hg s0 hadmin hup hdeaf hplain hrow)
  · exact next_can_held hrun hg (canRx_stuff hg s0 hadmin hup hdeaf hmode) rfl
  · exact next_can_held hrun hg (canTxEnd_lost (s := s0) hheld hsof) rfl
  · exact next_can hrun hg (canTxEnd_sent (s := s0) hheld hsof hf hz)
  · have hport := canOf_kernelOnly (busOffRecovered_can hg s0 hadmin hoff hrec) g
    rw [canOf_setCan_self] at hport
    refine ⟨_, next_can hrun hg rfl, ?_⟩
    rw [show canOf (holdBase s0 (busOffRecovered g s0)) g = canOf (busOffRecovered g s0) g from rfl, hport]
    exact ⟨rfl, rfl, rfl, rfl⟩
  · exact next_can_held hrun hg (trailerExpiry_late (s := s0) ht hv hlate)
      (held_kernel (b := setCan g { x with trailer := false } s0) rfl (kernelOnly_raiseFull ..))
  · exact next_can hrun hg (gtsHoldEnd_late (s := s0) he hlate hmode)
  · refine next_whenRuns hrun ?_
    rw [only_true (by rw [isCan_of_lt hg]; rfl), busIdle_can (s := atTime t s) hg hadmin hop htrx]
    rfl
  · exact congrArg (fun z => Host.Outcome.next (holdBase s0 z)) (wakeDetect_can (s := s0) hg (mainUp_of_runs hrun) hmode hsrc)

/-! ### Selection of the next frame (R191, R204, R327, R354, R357) -/

section select
variable {g c : Nat} {r : Replica} {h : HeldFrame} {k : CanFrame} {s y : State}

theorem canExpire_none (hheld : (canOf s g).held = none) : canExpire g s = s := by
  unfold canExpire
  rw [hheld]

/-- A CAN port without a held frame hands the head it picks to its controller. -/
theorem canSelect_handsOff (hy : sweepPort g s = y) (hserves : canServes y g = true) (hheld : (canOf y g).held = none)
    (hpick : pick y g (fun c h => decide (0 ≤ c) && (match h.frame.bus with
      | some k => gateFits y g c y.now (canTmax (canOf y g) k)
      | none => gateOpen y g c y.now)) = some (c, r, h))
    (hgood : h.faulted = false) (hbus : h.frame.bus = some k)
    (hprot : busProtected r.fid h g k y = (some k, y))
    (hsend : canSendable (canOf y g) k = true) :
    let z := bump (swCtr g 0x40) (dequeue g c r.fid y)
    canSelect g s = canDriveSof g (setCan g { canOf z g with
      held := some { fid := r.fid, tc := c, frame := k, sof := none } } z) := by
  unfold canSelect
  rw [hy, canExpire_none hheld]
  dsimp only
  rw [hserves, hheld]
  dsimp only
  generalize hp : pick y g _ = z
  obtain rfl : z = some (c, r, h) := hp.symm.trans hpick
  dsimp only
  rw [hgood, if_neg Bool.false_ne_true, hbus]
  dsimp only
  rw [hprot]
  dsimp only
  rw [if_pos hsend]

/-- A LIN port puts the head it picks into the response buffer of its identifier. -/
theorem linSelect_buffers (hy : sweepPort g s = y) (hup : downForEgress y g = false)
    (hpick : pick y g (fun _ _ => true) = some (c, r, h)) (hgood : h.faulted = false)
    (hbus : h.frame.bus = some k) (hprot : busProtected r.fid h g k y = (some k, y))
    (hring : h.frame.txRing = none) (hsend : linSendable (linOf y g) k = true)
    (htable : (linOf y g).commander = true → inActiveTable (linOf y g) k.id = true)
    (hempty : tget? (linOf y g).buffers k.id = none) :
    let b : LinBuffer := { frame := k, tc := c, updated := k.dlen != 0, subscribed := k.dlen == 0, ts := none }
    linSelect g s = releaseRef r.fid (bump (swCtr g 0x40) (dequeue g c r.fid
      (setLin g { linOf y g with buffers := tset (linOf y g).buffers k.id b } y))) := by
  have hlisted : ¬ ((linOf y g).commander && !inActiveTable (linOf y g) k.id) = true := by
    cases hc : (linOf y g).commander with
    | false => exact Bool.false_ne_true
    | true =>
      rw [htable hc]
      exact Bool.false_ne_true
  unfold linSelect
  dsimp only
  rw [hy, hup, hpick]
  dsimp only
  rw [hgood, if_neg Bool.false_ne_true, hbus]
  dsimp only
  rw [hprot]
  dsimp only
  rw [hsend, Bool.not_true, if_neg Bool.false_ne_true, if_neg hlisted, hring, hempty]
  rfl

/-- An Ethernet port without orders starts the head it picks. -/
theorem ethSelect_starts (hy : sweepPort g s = y) {stamp : Tick} (hup : downForEgress y g = false)
    (hsending : tget? y.switch.sending g = none)
    (horders : (ethOf (frameBoundary g y) g).orders = [])
    (hsusp : tget? (frameBoundary g y).switch.suspended g = none)
    (hpick : pick (frameBoundary g y) g (fun c h => ethReady (frameBoundary g y) g c h &&
      !paused (frameBoundary g y) g c (frameBoundary g y).now) = some (c, r, h)) :
    ethSelect g stamp s = ethStart g c r h stamp (heldTicks g false (frameBoundary g y)) := by
  have hfree : ¬ (downForEgress y g = true ∨ (tget? y.switch.sending g).isSome = true) := by
    rw [hup, hsending]
    decide
  unfold ethSelect
  dsimp only
  rw [hy, if_neg hfree, horders]
  dsimp only
  rw [hsusp, hpick]
  rfl

/-- A link port sends the head it picks as a packet. -/
theorem lnkSelect_sends {n : Nat} {cap : Tick} (hy : sweepPort (50 + n) s = y) (hup : downForEgress y (50 + n) = false)
    (hpick : pick y (50 + n) (fun c h => !h.receiving &&
      lnkMaySend y n (framePacket y n c h.frame (lnkEgress s cap))) = some (c, r, h))
    (hgood : h.faulted = false) :
    let z := txStampDone r.fid h.frame.txRing (some (lnkEgress s cap)) (lnkTransmit n
      (framePacket y n c h.frame (lnkEgress s cap)) (bump (swCtr (50 + n) 0x40) (dequeue (50 + n) c r.fid y)))
    lnkSelect n cap s = releaseRef r.fid (frameLeft h.frame z.now z) := by
  unfold lnkSelect
  dsimp only
  rw [hy, hup, if_neg Bool.false_ne_true, hpick]
  dsimp only
  rw [hgood, if_neg Bool.false_ne_true]

/-- A host port hands the head it picks to the ring its flow names. -/
theorem hostSelect_delivers (hy : sweepPort g s = y) {x : Ring} (hpick : pick y g (fun _ _ => true) = some (c, r, h))
    (hgood : h.faulted = false)
    (hring : ringOf y (h.frame.ring.getD (frameFlow y h.frame).ring) = some x)
    (hrx : x.rx = true) (hst : x.st ≠ 0) :
    let n := h.frame.ring.getD (frameFlow y h.frame).ring
    let z := bump (swCtr g 0x40) (dequeue g c r.fid y)
    hostSelect g s = { z with switch.ringIn := tset z.switch.ringIn n (tget z.switch.ringIn [] n ++ [r.fid]) } := by
  have hlive : (x.rx && x.st != 0) = true := by
    rw [hrx, Bool.true_and]
    exact bne_iff_ne.2 hst
  unfold hostSelect
  dsimp only
  rw [hy, hpick]
  dsimp only
  rw [hring]
  dsimp only
  rw [hgood, if_neg Bool.false_ne_true, if_pos hlive]

theorem cpuSelect_takes (hy : sweepPort gCpup s = y) (hpick : pick y gCpup (fun _ _ => true) = some (c, r, h))
    (hgood : h.faulted = false) :
    let z := bump (swCtr gCpup 0x40) (dequeue gCpup c r.fid y)
    cpuSelect s = releaseRef r.fid { z with switch.cpuIn := z.switch.cpuIn ++ [h.frame] } := by
  unfold cpuSelect
  dsimp only
  rw [hy, hpick]
  dsimp only
  rw [hgood, if_neg Bool.false_ne_true]

end select

/-- The kind of a port decides how it selects. -/
theorem egressSelect_kind (g : Nat) (cap : Tick) (lane4 : Bool) (s : State) :
    (g < 24 → egressSelect g cap lane4 s = canSelect g s) ∧
    (24 ≤ g → g < 32 → egressSelect g cap lane4 s = linSelect g s) ∧
    (32 ≤ g → g < 50 → egressSelect g cap lane4 s = ethSelect g (egressStamp s g cap lane4) s) ∧
    (∀ k, k < 2 → g = 50 + k → egressSelect g cap lane4 s = lnkSelect k cap s) ∧
    (g = 52 ∨ g = 53 → egressSelect g cap lane4 s = hostSelect g s) ∧
    (g = 54 → egressSelect g cap lane4 s = cpuSelect s) := by
  refine ⟨fun h => ?_, fun h h' => ?_, fun h h' => ?_, fun k hk h => ?_, fun h => ?_, fun h => ?_⟩
  · exact if_pos (isCan_of_lt h)
  · simp [egressSelect, isCan, isLin, h, h', Nat.not_lt.2 h]
  · simp [egressSelect, isCan, isLin, isEth, h, h', Nat.not_lt.2 h, show ¬ g < 24 by omega]
  · obtain rfl | rfl : k = 0 ∨ k = 1 := by omega
    all_goals simp [egressSelect, isCan, isLin, isEth, isLnk, h]
  · obtain rfl | rfl := h
    all_goals simp [egressSelect, isCan, isLin, isEth, isLnk, gHostp, gHosts]
  · simp [egressSelect, isCan, isLin, isEth, isLnk, gHostp, gHosts, gCpup, h]

/-- Settles O43: each kind of port selects by its own function, whose branch for a frame that may leave is the clause. -/
theorem egressSelectCompletes : Obligations.EgressSelectCompletes := by
  intro t g cap lane4 s hrun s0 y
  obtain ⟨hcan, hlin, heth, hlnk, hhost, hcpu⟩ := egressSelect_kind g cap lane4 s0
  refine ⟨fun c r h k hg hserves hheld hpick hgood hbus hprot hsend => ?_,
    fun c r h k hlow hhigh hup hpick hgood hbus hprot hring hsend htable hempty => ?_,
    fun c r h hlow hhigh hup hsending horders hsusp hpick => ?_, fun c r h k hk hg hup hpick hgood => ?_,
    fun c r h n x hg hpick hgood hn hring hrx hst => ?_, fun c r h hg hpick hgood => ?_⟩
  all_goals refine next_whenRuns hrun (congrArg (holdBase s0) ?_)
  · exact (hcan hg).trans (canSelect_handsOff (s := s0) (y := y) rfl hserves hheld hpick hgood hbus hprot hsend)
  · exact (hlin hlow hhigh).trans (linSelect_buffers (s := s0) (y := y) rfl hup hpick hgood hbus hprot hring hsend htable hempty)
  · exact (heth hlow hhigh).trans (ethSelect_starts (s := s0) (y := y) rfl hup hsending horders hsusp hpick)
  · refine (hlnk k hk hg).trans ?_
    subst hg
    exact lnkSelect_sends (s := s0) (y := y) rfl hup hpick hgood
  · subst hn
    exact (hhost hg).trans (hostSelect_delivers (s := s0) (y := y) rfl hpick hgood hring hrx hst)
  · refine (hcpu hg).trans ?_
    subst hg
    exact cpuSelect_takes (s := s0) (y := y) rfl hpick hgood

/-! ### Ends of transmissions, and gates (R212, R357 to R368, R499) -/

/-- A transmission of a whole frame ends with a good FCS. -/
theorem txComplete_good {g : Nat} {x : Sending} {h : HeldFrame} {s : State} (hx : tget? s.switch.sending g = some x)
    (hheld : heldOf s x.fid = some h) (hwhole : h.receiving = false) (hone : x.fragments = 0) (hslot : x.slot = none) :
    let y := bumpBy (portCtr g 0x0158) (x.bytes.length + 4) (bump (portCtr g 0x0150)
      { s with switch.sending := tdel s.switch.sending g })
    txComplete g s = releaseRef x.fid (egressLaneEnd g (frameLeft h.frame s.now y)) := by
  intro y
  have hy : heldOf y x.fid = some h := hheld
  have hslot' : ¬ x.slot.isSome = true := by rw [hslot]; exact Bool.false_ne_true
  unfold txComplete
  dsimp only
  rw [hx]
  dsimp only
  rw [hheld]
  dsimp only
  rw [if_neg (Bool.eq_false_iff.1 hwhole), if_neg hslot', if_pos hone]
  show releaseRef x.fid (egressLaneEnd g (match heldOf y x.fid with
    | some h => frameLeft h.frame y.now y
    | none => y)) = _
  rw [hy]
  rfl

theorem gateWithdraw_late {g : Nat} {h : CanHeld} {s : State} (hheld : (canOf s g).held = some h) (hsof : h.sof = none)
    (hfit : gateFits s g h.tc s.now (canTmax (canOf s g) h.frame) = false) :
    gateWithdraw g s = canReturn g (bump (swCtr g 0x70) s) := by
  unfold gateWithdraw
  dsimp only
  rw [hheld]
  dsimp only
  rw [if_pos ⟨by rw [hsof]; rfl, by rw [hfit]; rfl⟩]

theorem gateCycleStart_due {st : Bool} {n : Nat} {l : GateList} {s : State} (hl : (gateOf s st n).oper = some l)
    (hdue : (gateOf s st n).next ≤ s.now) :
    gateCycleStart st n s = beginCycle st n (gateOf s st n) l (gateOf s st n).next s := by
  unfold gateCycleStart
  dsimp only
  rw [hl]
  exact if_pos hdue

theorem gateApplied_due {st : Bool} {n : Nat} {l : GateList} {a : Tick} {s : State} (hl : (gateOf s st n).admin = some l)
    (ha : (gateOf s st n).waiting = some a) (hdue : applyDue s l a ≤ s.now) :
    let y := beginCycle st n { gateOf s st n with oper := some l, waiting := none } l (applyDue s l a) s
    gateApplied st n s = if st then y
      else raiseFull 0x0100 0x0105 (le 1 n ++ zeros 3 ++ le 4 l.cycleNs) (applyDue s l a) false false y := by
  unfold gateApplied
  dsimp only
  rw [hl, ha]
  exact if_pos hdue

theorem gateEntryChange_next {st : Bool} {n i : Nat} {e : GateEntry} {a : Tick} {s : State}
    (he : gateEntryAt (gateOf s st n) s.now = some (i, e, a)) (hi : i ≠ (gateOf s st n).entry) :
    gateEntryChange st n s = setGate st n { gateOf s st n with entry := i } s := by
  unfold gateEntryChange
  dsimp only
  rw [he]
  exact if_neg hi

theorem held_setGate (st : Bool) (n : Nat) (g : GateRun) (s : State) : Held s (setGate st n g s) :=
  held_ite rfl rfl

/-- A pre-emptable frame is fragmented for a control frame that waits. -/
theorem preemptFragment_control {g n : Nat} {x : Sending} {s : State} (hx : tget? s.switch.sending g = some x)
    (hfree : tget? s.switch.suspended g = none) (hclass : preemptable s g x.tc = true) (hmin : 60 ≤ n)
    (hrest : x.sent + n + 64 ≤ x.bytes.length + 4) (horders : (ethOf s g).orders ≠ []) :
    preemptFragment g n s = { s with
      switch.sending := tdel s.switch.sending g
      switch.suspended := tset s.switch.suspended g { x with fragments := x.fragments + 1, sent := x.sent + n } } := by
  have hwaits : (!(ethOf s g).orders.isEmpty) = true := by
    rw [Bool.not_eq_true', ← Bool.not_eq_true, List.isEmpty_iff]
    exact horders
  have hnone : (tget? s.switch.suspended g).isNone = true := by rw [hfree]; rfl
  unfold preemptFragment
  rw [hx]
  exact if_pos ⟨hclass, hmin, hrest, .inr (.inr hwaits), hnone⟩

/-- Settles O44: each clause is the branch of its function for a frame or a gate that is due. -/
theorem transmissionAndGateEventsComplete : Obligations.TransmissionAndGateEventsComplete := by
  intro t g s hrun s0
  refine ⟨fun x h coll hg hx hheld hwhole hone hslot => ?_, fun h hg hheld hsof hfit => ?_, fun st l hl hdue => ?_,
    fun st l a hl ha hdue => ?_, fun st i e a he hi => ?_, fun x n hlow hhigh hx hfree hclass hmin hrest horders => ?_⟩
  · have ht1s : isT1s g = false := by simp [isT1s, Nat.not_lt.2 hg]
    refine next_whenRuns hrun (congrArg (holdBase s0) ?_)
    rw [ht1s]
    exact txComplete_good (s := s0) hx hheld hwhole hone hslot
  · exact next_can hrun hg (gateWithdraw_late (s := s0) hheld hsof hfit)
  · exact next_whenRuns hrun (congrArg (holdBase s0) (gateCycleStart_due (s := s0) hl hdue))
  · exact next_whenRuns hrun (congrArg (holdBase s0) (gateApplied_due (s := s0) hl ha hdue))
  · exact next_held hrun (gateEntryChange_next (s := s0) he hi) (held_setGate ..)
  · have heth : isEth g = true := Bool.and_eq_true_iff.2 ⟨decide_eq_true hlow, decide_eq_true hhigh⟩
    refine next_held hrun ?_ rfl
    rw [heth]
    exact preemptFragment_control (s := s0) hx hfree hclass hmin hrest horders

end Sys2Proof.Machine
end

section
/-!
The buffer's events (R332 to R375), the tables' (R390 to R431) and policing's (R458, R463).
-/
namespace Sys2Proof.Machine

/-! ### The buffer (R332, R335, R337, R342, R344, R351, R375) -/

section buffer
variable {g c : Nat} {r : Replica} {h : HeldFrame} {s : State}

/-- A marked frame is spilled while the spill region has room. -/
theorem spillOut_room (hr : (queueOf s g c).find? (fun r => r.mark && !r.spilled) = some r) (hh : heldOf s r.fid = some h)
    (hon : s.switch.spillOn = true) (hroom : s.switch.spillUsed + cellsOf h.frame ≤ spillCells s) :
    let y := setQueue g c ((queueOf s g c).map fun y => if y.fid = r.fid then { r with mark := false, spilled := true } else y) s
    spillOut g c s = bump (swCtr g 0x80) (returnCells h { y with
      switch.held := tset y.switch.held r.fid { h with res := 0, shared := 0, segs := [] }
      switch.spillUsed := y.switch.spillUsed + cellsOf h.frame }) := by
  unfold spillOut
  rw [hr]
  dsimp only
  rw [hh]
  exact if_pos ⟨hon, hroom⟩

/-- A spilled frame is read back where its queue has drained and its charge fits. -/
theorem spillIn_fits {res sh : Nat} (hr : (queueOf s g c).find? (fun r => r.spilled) = some r) (hh : heldOf s r.fid = some h)
    (hlow : queueCells s g c ≤ (queueCfg s g c).lo) (hfree : cellsOf h.frame ≤ freeCells s)
    (hcharge : charge s h.src h.cls (cellsOf h.frame) h.driven = some (res, sh)) :
    let a := account s h.src h.cls
    let segs := takeFrom s segments (cellsOf h.frame)
    let y := useCells segs true (setAccount h.src h.cls
      { a with resUsed := a.resUsed + res, sharedUsed := a.sharedUsed + sh } s)
    let z : State := { y with switch.held := tset y.switch.held r.fid { h with res := res, shared := sh, segs := segs },
                              switch.spillUsed := y.switch.spillUsed - cellsOf h.frame }
    spillIn g c false s = bump (swCtr g 0x88) (setQueue g c
      ((queueOf z g c).map fun y => if y.fid = r.fid then { y with spilled := false } else y) z) := by
  unfold spillIn
  rw [hr]
  dsimp only
  rw [hh]
  dsimp only
  rw [if_neg (Nat.not_lt.2 hlow), if_neg Bool.false_ne_true, if_neg (Nat.not_lt.2 hfree), hcharge]

theorem lpddrLost_unused (hup : s.lpddrUp = true) (hq : s.switch.queues = []) (hoff : s.switch.spillOn = false) :
    lpddrLost s = { s with lpddrUp := false, switch.spillOn := false } := by
  unfold lpddrLost
  rw [if_neg (by rw [hup]; decide)]
  dsimp only
  rw [if_neg (Bool.eq_false_iff.1 hoff), hq]
  rfl

theorem pfcRefresh_due (hxoff : (account s g c).xoff = true) (hmode : fcMode s g ≠ 0)
    (hdue : (account s g c).ordered + bitTicks (256 * (fcOf s g).quanta) (speedRate (ethOf s g).speed) ≤ s.now) :
    pfcRefresh g c s = orderPause g c (fcOf s g).quanta false (setAccount g c { account s g c with ordered := s.now } s) :=
  if_pos ⟨hxoff, hmode, hdue⟩

theorem pauseWindowOver_answered {a l : Tick} {cl : Nat} (hp : (fcOf s g).probe = some (a, cl, some l, false))
    (hdue : a + nsTick (fcOf s g).rMax ≤ s.now) : pauseWindowOver g s = addSample g (2 * (l - a))
      { s with switch.fc := tset s.switch.fc g { fcOf s g with probe := some (a, cl, some l, true) } } := by
  unfold pauseWindowOver
  dsimp only
  rw [hp]
  exact if_pos hdue

/-- Beside the queues the sweep looks at a CAN port's held frame and at the frames that wait for a ring. -/
theorem residenceSweep_queues (hg : g ∉ [52, 53]) (hheld : g < 24 → (canOf (sweepPort g s) g).held = none) :
    residenceSweep g s = sweepPort g s := by
  have hhost : ¬ (g = gHostp ∨ g = gHosts) := by
    rintro (h | h)
    · exact hg (h ▸ by decide)
    · exact hg (h ▸ by decide)
  have hcan : (if isCan g then canExpire g (sweepPort g s) else sweepPort g s) = sweepPort g s := by
    split
    · next h => exact canExpire_none (hheld (of_decide_eq_true h))
    · rfl
  unfold residenceSweep
  dsimp only
  rw [hcan, if_neg hhost]

theorem frerTimer_due {b : Bytes} {e : Tick} (hb : curObj s .recovery g = some b)
    (he : recoveryDue b (tget s.switch.recoveries Recovery.fresh g) s.now = some e) :
    frerTimer g s = resetRecovery g 1 e s := by
  unfold frerTimer
  rw [hb]
  dsimp only
  rw [he]

end buffer

/-- Settles O45: each clause is the branch of its function for what is due. -/
theorem bufferEventsComplete : Obligations.BufferEventsComplete := by
  intro t g c s hrun s0
  refine ⟨fun r h hr hh hon hroom => ?_, fun r h res sh hr hh hlow hfree hcharge => ?_, fun hup hq hoff => ?_,
    fun cell fid un => ?_, fun hxoff hmode hdue => ?_, fun a cl l hp hdue => ?_, fun hg hheld => ?_, fun b e hb he => ?_⟩
  · exact next_whenRuns hrun (congrArg (holdBase s0) (spillOut_room (s := s0) hr hh hon hroom))
  · exact next_whenRuns hrun (congrArg (holdBase s0) (spillIn_fits (s := s0) hr hh hlow hfree hcharge))
  · exact next_held hrun (lpddrLost_unused (s := s0) hup hq hoff) rfl
  · exact next_held hrun (y := { s0 with switch.eccCorr := satAdd 0xFFFF s0.switch.eccCorr 1 }) rfl rfl
  · exact next_whenRuns hrun (congrArg (holdBase s0) (pfcRefresh_due (s := s0) hxoff hmode hdue))
  · exact next_whenRuns hrun (congrArg (holdBase s0) (pauseWindowOver_answered (s := s0) hp hdue))
  · exact next_whenRuns hrun (congrArg (holdBase s0) (residenceSweep_queues (s := s0) hg hheld))
  · exact next_whenRuns hrun (congrArg (holdBase s0) (frerTimer_due (s := s0) hb he))

/-! ### Tables (R390, R410, R416 to R422, R431) -/

section tables
variable {s : State}

theorem fdbLearn_head {l : Learn} {r : List Learn} (h : s.tables.learnQ = l :: r) :
    fdbLearn s = handleLearn l { s with tables.learnQ := r } := by
  unfold fdbLearn
  rw [h]

theorem patinaEpoch_due {e : Tick} (he : s.tables.epochStart = some e) (hdue : e + s.tables.tickS * ticksPerSec ≤ s.now)
    (hlee : leeRule s = false) : patinaEpoch s = { s with
      tables.epoch := (s.tables.epoch + 1) % 256
      tables.epochStart := some (e + s.tables.tickS * ticksPerSec) } := by
  unfold patinaEpoch
  rw [he]
  exact if_pos ⟨hdue, by rw [hlee]; rfl⟩

theorem fdbAgeVisit_aged {pos k : Nat} {e : Learned} (hslot : tget? s.tables.fdbSlots pos = some { key := k, use := .learned })
    (he : tget? s.tables.learned k = some e) (haged : aged s e = true) (hlee : leeRule s = false) :
    fdbAgeVisit pos s = bump (tblCtr 0x0138) (removeLearned (fun j _ => j == k) s) := by
  unfold fdbAgeVisit
  rw [hslot]
  dsimp only
  rw [he]
  exact if_pos (by rw [haged, hlee]; rfl)

section rehash
variable {r : Rehash} {a : AsyncCmd} {k : Kind} (hr : s.tables.rehash = some r)
  (ha : findAsync 0x0204 (fun _ => true) s = some a) (hk : (if r.table = 0 then Kind.fdb else .canExact) = k)
include hr ha hk

/-- A rehash that finds a place for every entry. -/
theorem rehashDone_placed {m : Tab Slot} (hm : migrate (shapeOf k) r.seed (slotsOf s k) r.placed = some m) :
    rehashDone s = cmdComplete a stDone (
      let z := setSlots k m { s with tables.rehash := none }
      if r.table = 0 then { z with tables.seedFdb := r.seed } else { z with tables.seedCan := r.seed }) := by
  unfold rehashDone
  rw [hr, ha]
  dsimp only
  rw [hk, hm]

/-- A rehash that does not: the entries that it placed return. -/
theorem rehashDone_refused (hm : migrate (shapeOf k) r.seed (slotsOf s k) r.placed = none) :
    rehashDone s = cmdComplete a stRehashNeeded
      (unplace (shapeOf k) (seedOf s k) r.placed { s with tables.rehash := none }) := by
  unfold rehashDone
  rw [hr, ha]
  dsimp only
  rw [hk, hm]

end rehash

theorem fdbFlushDone_found {a : AsyncCmd} (ha : findAsync 0x0235 (fun _ => true) s = some a) :
    fdbFlushDone s = cmdComplete a stDone (removeLearned (fun k e =>
      (byteAt a.params 0 == 0xFF || e.gport == byteAt a.params 0) &&
      (leAt a.params 2 2 == 0 || k / 2 ^ 48 == leAt a.params 2 2) &&
      (bit (byteAt a.params 1) 0 || !e.locked) && decide (e.hold < a.started)) s) := by
  unfold fdbFlushDone
  rw [ha]

/-- A Maquette scan begins when its period has passed. -/
theorem maquetteScan_due {head : Bytes} {y : State} (hon : s.tables.maqEnable = true) (hpos : 0 < s.tables.maqPeriodMs)
    (hdue : s.tables.maqStart + ms s.tables.maqPeriodMs ≤ s.now)
    {period : Tick} (hperiod : ms s.tables.maqPeriodMs = period)
    (hy : { s with tables.maqStart := s.tables.maqStart + (s.now - s.tables.maqStart) / period * period } = y)
    (hread : bulkRead y s.tables.maqContext s.tables.maqBase 136 = (head, none)) :
    (leAt head 0 4 ≠ currentNum s → maquetteScan s = { y with tables.maqStale := true }) ∧
    (leAt head 0 4 = currentNum s → leAt head 4 4 = 0 →
      maquetteScan s = bump (tblCtr 0x0198) { y with tables.maqStale := false }) := by
  have hwait : ¬ ((!s.tables.maqEnable) = true ∨ s.now < s.tables.maqStart + ms (max 1 s.tables.maqPeriodMs)) := by
    rw [hon, Nat.max_eq_right hpos]
    rintro (h | h)
    · exact Bool.false_ne_true h
    · exact absurd hdue (Nat.not_le.2 h)
  have hnum : currentNum y = currentNum s := by rw [← hy]; rfl
  unfold maquetteScan
  extract_lets u d s1 _ s2
  have hd : d = period := (congrArg ms (Nat.max_eq_right hpos)).trans hperiod
  have hs1 : s1 = y := by
    rw [← hy, ← hd]
  have hread' : bulkRead s1 u.maqContext u.maqBase 136 = (head, none) := by
    rw [hs1]
    exact hread
  rw [if_neg hwait, hread']
  refine ⟨fun h => ?_, fun h hnone => ?_⟩
  · have hstale : leAt head 0 4 ≠ currentNum s1 := by rwa [hs1, hnum]
    exact (if_pos hstale).trans (congrArg (fun z : State => { z with tables.maqStale := true }) hs1)
  · have hfresh : ¬ leAt head 0 4 ≠ currentNum s1 := by rw [hs1, hnum]; exact not_not_intro h
    have hregions : ((List.range 8).filter fun r => bit (leAt head 4 4) r) = [] := by rw [hnone]; rfl
    refine (if_neg hfresh).trans ?_
    rw [hregions]
    exact congrArg (fun z : State => bump (tblCtr 0x0198) { z with tables.maqStale := false }) hs1

end tables

/-- Settles O46: each clause is the branch of its function for what is due. -/
theorem tableEventsComplete : Obligations.TableEventsComplete := by
  intro t s hrun s0
  refine ⟨fun l r hl => ?_, fun e he hdue hlee => ?_, fun pos k e hslot he haged hlee => ?_, fun r a hr ha => ?_,
    fun n hn huse => ?_, fun a ha => ?_, fun head hon hpos hdue => ?_⟩
  · exact next_whenRuns hrun (congrArg (holdBase s0) (fdbLearn_head (s := s0) hl))
  · exact next_held hrun (patinaEpoch_due (s := s0) he hdue hlee) rfl
  · exact next_whenRuns hrun (congrArg (holdBase s0) (fdbAgeVisit_aged (s := s0) hslot he haged hlee))
  · intro k y
    exact ⟨fun m hm => next_whenRuns hrun (congrArg (holdBase s0) (rehashDone_placed (s := s0) (k := k) hr ha rfl hm)),
      fun hm => next_whenRuns hrun (congrArg (holdBase s0) (rehashDone_refused (s := s0) (k := k) hr ha rfl hm))⟩
  · have hfree : ¬ (currentNum s0 = n ∨ genInUse s0 n = true) := by
      rintro (h | h)
      · exact hn h
      · exact Bool.false_ne_true (huse.symm.trans h)
    exact next_whenRuns hrun (congrArg (holdBase s0) (if_neg hfree))
  · exact next_whenRuns hrun (congrArg (holdBase s0) (fdbFlushDone_found (s := s0) ha))
  · intro period y hread
    obtain ⟨hstale, hequal⟩ := maquetteScan_due (s := s0) (y := y) hon hpos hdue (period := period) rfl rfl hread
    exact ⟨fun h => next_held hrun (hstale h) rfl, fun h hnone => next_held hrun (hequal h hnone) rfl⟩

/-! ### Policing (R458, R463) -/

theorem containHoldEnd_due {k n : Nat} {q : Quarantine} {s : State} (hq : findQuarantine s k n = some q)
    (hdue : q.holdStart + ms q.holdMs ≤ s.now) : containHoldEnd k n s =
      if q.again then { s with policing.quarantines := s.policing.quarantines.map fun x =>
        if x = q then { q with holdStart := q.holdStart + ms q.holdMs, again := false } else x }
      else endQuarantine q 1 (targetSafety s k n) s := by
  unfold containHoldEnd
  rw [hq]
  exact if_neg (Nat.not_lt.2 hdue)

/-- Settles O47: each clause is the branch of its function for what is due. -/
theorem policingEventsComplete : Obligations.PolicingEventsComplete := by
  intro t s hrun s0
  refine ⟨fun f hst hdue hon => ?_, fun k n q hq hdue => ⟨fun hagain => ?_, fun hagain => ?_⟩⟩
  · exact next_whenRuns hrun (congrArg (holdBase s0) (if_pos ⟨hst, hdue, hon⟩))
  · exact next_held hrun ((containHoldEnd_due (s := s0) hq hdue).trans (if_pos hagain)) rfl
  · exact next_whenRuns hrun (congrArg (holdBase s0)
      ((containHoldEnd_due (s := s0) hq hdue).trans (if_neg (Bool.eq_false_iff.1 hagain))))

end Sys2Proof.Machine
end

section
/-!
The signal gateway's events (R244 to R320) and those of time: the time base (R487 to R515) and its pins (R517 to R526).
-/
namespace Sys2Proof.Machine

/-! ### The gateway engine and its timers (R244, R260 to R265, R271, R287 to R291, R315, R320) -/

section gateway
variable {n : Nat} {b : Bytes} {e : Tick} {s : State}

/-- The gateway takes the head that its account has room for, and works on it. -/
theorem gwTakeFrame_takes {c : Nat} {r : Replica} {h : HeldFrame} {y z : State}
    (hy : retryStalled s.gw.stalled (sweepPort gRecirc s) = y) (hstalled : y.gw.stalled = [])
    (hpick : pick y gRecirc (fun c _ => decide (drivenCharge y c + 32 ≤ (account y gRecirc c).share)) = some (c, r, h))
    (hgood : h.faulted = false)
    (hz : releaseRef r.fid { bump (gwCtr 0x0100) (bump (swCtr gRecirc 0x40) (dequeue gRecirc c r.fid y)) with
      gw.arb := arbNext 4 1 } = z)
    (hlee : leeRule z = false) : gwTakeFrame s = gwWork h.frame z := by
  have hwait : ¬ (!y.gw.stalled.isEmpty) = true := by rw [hstalled]; decide
  have hrule : ¬ (leeRule z = true ∧ (!(frameFlow z h.frame).safety) = true) := fun h =>
    Bool.false_ne_true (hlee.symm.trans h.1)
  unfold gwTakeFrame
  dsimp only
  rw [hy, if_neg hwait, hpick]
  dsimp only
  rw [if_neg (Bool.eq_false_iff.1 hgood)]
  exact (congrArg (fun z => if leeRule z ∧ !(frameFlow z h.frame).safety then z else gwWork h.frame z) hz).trans
    (if_neg hrule)

theorem cyclicDue_due (hb : pduOf s (currentNum s) n 1 = some b) (he : (builtOf s n b).due = some e) (hdue : e ≤ s.now)
    (hmode : byteAt b 3 ∈ [1, 2, 4]) :
    let y := setBuilt n { builtOf s n b with due := some (e + us (leAt b 0x10 4)) } s
    cyclicDue n s = emitPdu (ownCause y) n b e y := by
  have hgo : ¬ (s.now < e ∨ ¬ [1, 2, 4].contains (byteAt b 3) = true) := by
    rintro (h | h)
    · exact absurd hdue (Nat.not_le.2 h)
    · exact h (List.contains_iff_mem.2 hmode)
  unfold cyclicDue
  rw [hb]
  dsimp only
  rw [he]
  exact if_neg hgo

theorem minGapEnd_due (hb : pduOf s (currentNum s) n 1 = some b) (he : (builtOf s n b).deferred = some e)
    (hdue : e ≤ s.now) :
    minGapEnd n s = emitPdu (ownCause s) n b e (setBuilt n { builtOf s n b with deferred := none } s) := by
  unfold minGapEnd
  rw [hb]
  dsimp only
  rw [he]
  exact if_neg (Nat.not_lt.2 hdue)

/-- A source that had timed out before, and maps nothing then, begins a new window. -/
theorem sourceTimeout_again (hb : pduOf s (currentNum s) n 0 = some b) (he : sourceDue b (sourceOf s n) = some e)
    (hdue : e ≤ s.now) (hagain : (sourceOf s n).timedOut = true) (hact : bits (byteAt b 0x1A) 4 3 = 0) :
    sourceTimeout n s = setSource n { sourceOf s n with accepted := none, window := e, timedOut := true }
      (bump (gwCtr 0x0138) s) := by
  unfold sourceTimeout
  rw [hb]
  dsimp only
  rw [he]
  dsimp only
  rw [if_neg (Nat.not_lt.2 hdue), if_pos hagain, if_pos hact]

theorem tpTimer_late {x : TpSession} (hx : sessionOf s n = some x) (hwait : x.wait ≠ .release) (hlate : x.timer ≤ s.now)
    (hproto : tpProto x.raw ≠ 1) : tpTimer n s = tpEnd n 1 s := by
  have hgo : ¬ (x.wait = .release ∨ s.now < x.timer) := by
    rintro (h | h)
    · exact hwait h
    · exact absurd hlate (Nat.not_le.2 h)
  unfold tpTimer
  rw [hx]
  dsimp only
  rw [if_neg hgo, if_neg hproto]

theorem tpRelease_due {x : TpSession} (hx : sessionOf s n = some x) (hwait : x.wait = .release) (hdue : x.timer ≤ s.now)
    (hproto : tpProto x.raw ≠ 0) : tpRelease n s = isoNextCf (ownCause s) n x s := by
  have hgo : ¬ (x.wait ≠ .release ∨ s.now < x.timer) := by
    rintro (h | h)
    · exact h hwait
    · exact absurd hdue (Nat.not_le.2 h)
  unfold tpRelease
  rw [hx]
  dsimp only
  rw [if_neg hgo, if_neg hproto]

/-- A claim of an address that none holds is taken, and the name's older claims at the port end. -/
theorem j1939ClaimRx_free {sa name : Nat} {stamp : Tick} (hrun : pairBRuns s = true) (hn : n < 24)
    (hon : (canOf s n).config.getLsbD 3 = true) (hown : tget? s.gw.own n = none) (hsa : sa ≤ 253)
    (hfree : tget? s.gw.claims (256 * n + sa) = none) :
    j1939ClaimRx n sa name stamp s = followBindings n stamp { s with
      gw.claims := tset (tfilter s.gw.claims fun k m => !(k / 256 == n && m == name)) (256 * n + sa) name } := by
  have hgo : ¬ ((!pairBRuns s) = true ∨ (!isCan n) = true ∨ (!(canOf s n).config.getLsbD 3) = true) := by
    rw [hrun, isCan_of_lt hn, hon]
    decide
  unfold j1939ClaimRx
  rw [if_neg hgo]
  dsimp only
  rw [hown, hfree, if_neg (Nat.not_lt.2 hsa)]

theorem bindingCommit_now (hany : s.gw.follows ≠ []) (hrun : pairBRuns s = true) (hcan : canCommit s = true) :
    let y := s.gw.follows.foldl (fun s x => stageFollow x.binding x.new s) { s with gw.follows := [] }
    let y := if (stagingOf y 8).isEmpty then y else commitAll 8 y
    bindingCommit s = s.gw.follows.foldl (fun s x =>
      raiseFull 0x0300 0x0105 (le 1 x.gport ++ le 1 x.old ++ le 1 x.new ++ le 1 (b2n x.deferred) ++ le 8 x.name)
        x.stamp false false (bump (gwCtr 0x01D0) s)) y := by
  have hgo : ¬ (s.gw.follows.isEmpty = true ∨ (!pairBRuns s) = true) := by
    rw [hrun, List.isEmpty_iff]
    rintro (h | h)
    · exact hany h
    · exact Bool.false_ne_true h
  unfold bindingCommit
  rw [if_neg hgo, if_neg (by rw [hcan]; decide)]

theorem e2eCtrl_direct {v : Word} (hn : isDirect n = true) :
    let x := directOf s n
    let x := if v.getLsbD 8 then { x with fed := [], count := 0 } else x
    e2eCtrl n v s = keepE2e n 0 (v.toNat % 2 ^ 9)
      { s with gw.direct := tset s.gw.direct n { x with profile := v.toNat % 256 } } := by
  unfold e2eCtrl
  exact if_neg (by rw [hn]; decide)

/-- A direct check unit takes the bytes it is fed. -/
theorem e2eFeed_direct {size : Nat} {v : Word} (hn : isDirect n = true) :
    let x := directOf s n
    let k := if size = 4 then 4 else if size = 2 then 2 else 1
    e2eFeed n size v s = keepE2e n (if k = 4 then 0x0C else if k = 2 then 0x08 else 0x04) (v.toNat % 256 ^ k) { s with
      gw.direct := tset s.gw.direct n { x with
        fed := x.fed ++ le k v.toNat, count := x.count + BitVec.ofNat 32 k
        busyTill := max x.busyTill s.clk + (if k = 4 then 2 else 1) } } := by
  unfold e2eFeed
  exact if_neg (by rw [hn]; decide)

end gateway

/-- Settles O48: each clause is the branch of its function for what is due. -/
theorem gatewayEventsComplete : Obligations.GatewayEventsComplete := by
  intro t n s hrun s0
  refine ⟨fun c r h => ?_, fun hopen hdue => ?_, fun b e hb he hdue hmode => ?_, fun b e hb he hdue => ?_,
    fun b e hb he hdue hagain hact => ?_, fun x hx hwait hlate hproto => ?_, fun x hx hwait hdue hproto => ?_,
    fun sa name stamp hpair hn hon hown hsa hfree => ?_, fun hany hpair hcan => ?_, fun hn v => ?_, fun hn v => ?_⟩
  · intro y hstalled _ hpick hgood z z' hlee
    exact next_whenRuns hrun (congrArg (holdBase s0)
      (gwTakeFrame_takes (s := s0) (y := y) (z := z') rfl hstalled hpick hgood rfl hlee))
  · exact next_whenRuns hrun (congrArg (holdBase s0) (if_pos ⟨hopen, hdue⟩))
  · exact next_whenRuns hrun (congrArg (holdBase s0) (cyclicDue_due (s := s0) hb he hdue hmode))
  · exact next_whenRuns hrun (congrArg (holdBase s0) (minGapEnd_due (s := s0) hb he hdue))
  · exact next_held hrun (sourceTimeout_again (s := s0) hb he hdue hagain hact) rfl
  · exact next_whenRuns hrun (congrArg (holdBase s0) (tpTimer_late (s := s0) hx hwait hlate hproto))
  · exact next_whenRuns hrun (congrArg (holdBase s0) (tpRelease_due (s := s0) hx hwait hdue hproto))
  · exact next_whenRuns hrun (congrArg (holdBase s0) (j1939ClaimRx_free (s := s0) hpair hn hon hown hsa hfree))
  · exact next_whenRuns hrun (congrArg (holdBase s0) (bindingCommit_now (s := s0) hany hpair hcan))
  · exact next_held hrun (e2eCtrl_direct (s := s0) hn) rfl
  · exact ⟨next_held hrun (e2eFeed_direct (s := s0) hn) rfl, next_held hrun (e2eFeed_direct (s := s0) hn) rfl,
      next_held hrun (e2eFeed_direct (s := s0) hn) rfl⟩

/-! ### The time base (R487, R490, R493 to R495, R509, R514, R515) -/

/-- A service of Pair B that runs and is not paused by a hitless activation. -/
theorem next_whenPairB {t : Tick} {f : State → State} {s y : State} (hpair : pairBRuns (atTime t s) = true)
    (hact : s.power.activating = none) (hf : holdBase (atTime t s) (f (atTime t s)) = y) :
    (Host.Outcome.next (whenPairB t f s) : Host.Outcome State Fault Refusal) = .next y := by
  rw [whenPairB_on t f s hpair hact, hf]

section timeBase
variable {d : Nat} {s : State}

theorem syncTimeout_due (hlock : (domain s d).state = .locked) (hgm : (domain s d).grandmaster = false)
    (hdue : (domain s d).lastSync + ms (domain s d).timeoutMs ≤ s.now) :
    syncTimeout d s = setDomState d .holdover s := by
  unfold syncTimeout
  exact if_pos ⟨hlock, hgm, hdue⟩

/-- The announced removal of a second takes the last second of the source domain's day (R515). -/
theorem leapSecond_removes (hsrc : byteAt s.time.legalCfg 0 = d + 1) (hleap : (domain s d).leap = -1)
    (hlast : 86399000 ≤ legalMs s % 86400000) (hday : s.time.leapDay ≠ legalDay (legalMs s) + 1) :
    let y := setDomain d { domain s d with leap := 0 }
      { setLegal (legalFine s + 1000 * msFine) (slewLeft s) s with time.leapDay := legalDay (legalMs s) + 1 }
    leapSecond s = sealQueue 0x0030 (le 8 (legalMs s) ++ le 8 (legalMs s + 1000) ++ le 1 4 ++ le 1 (d + 1 + 7))
      (raiseEvent 0x0500 0x0104 (le 1 4 ++ le 1 (d + 1 + 7) ++ zeros 2 ++ leSigned 8 1000) y) := by
  have hadd : ¬ ((domain s d).leap = 1 ∧ legalMs s % 86400000 < 1000 ∧ s.time.leapDay ≠ legalDay (legalMs s)) := by
    rintro ⟨h, -⟩
    rw [hleap] at h
    exact absurd h (by decide)
  unfold leapSecond
  dsimp only
  rw [hsrc, if_neg (Nat.succ_ne_zero d), Nat.add_sub_cancel, if_neg hadd, if_pos ⟨hleap, hlast, hday⟩]

/-- Another clock becomes grandmaster of a domain whose grandmaster the 9460 was. -/
theorem grandmasterElected_other (hon : (domain s d).state ≠ .disabled) (hgm : (domain s d).grandmaster = true) :
    grandmasterElected d false s = setDomain d { domain s d with grandmaster := false, lastSync := s.now } s := by
  have hwas : (!false && (domain s d).grandmaster) = true := by rw [hgm]; rfl
  unfold grandmasterElected
  exact (if_neg hon).trans ((if_neg Bool.false_ne_true).trans (if_pos hwas))

/-- The 9460 becomes grandmaster: the domain takes its epoch, steps where that moves it too far, and locks. -/
theorem grandmasterElected_self (hon : (domain s d).state ≠ .disabled) (hcap : (domain s d).gmCapable = true) :
    let x := domain s d
    let v : Int := Int.ofNat (x.gmEpoch * 1000000000 * nsFine + s.it)
    let y := setDomain d { x with
      grandmaster := true, anchor := s.it, value := v, rr := 0, identity := false, offset := 0 } s
    grandmasterElected d true s = setDomState d .locked
      (if x.identity = true ∨ x.stepNs * nsFine < (v - x.at_ s.it).natAbs then domainStep d (v - x.at_ s.it) y else y) := by
  intro x v y
  have hself : (true && x.gmCapable) = true := hcap
  have hmoved : ((x.identity || decide (x.stepNs * nsFine < (v - x.at_ s.it).natAbs)) = true) =
      (x.identity = true ∨ x.stepNs * nsFine < (v - x.at_ s.it).natAbs) := by
    rw [Bool.or_eq_true, decide_eq_true_eq]
  unfold grandmasterElected
  refine (if_neg hon).trans ((if_pos hself).trans (congrArg (setDomState d .locked) ?_))
  exact ite_congr hmoved (fun _ => rfl) fun _ => rfl

theorem pathDelayMeasured_gptp {g ns : Nat} (hlo : 38 ≤ g) (hhi : g < 50) :
    pathDelayMeasured g ns s = { s with time.pathDelay := tset s.time.pathDelay g ns } := by
  have hport : (isXg g || isGe g) = true := by
    simp only [isXg, isGe, Bool.or_eq_true, Bool.and_eq_true, decide_eq_true_eq]
    omega
  unfold pathDelayMeasured
  exact if_pos hport

theorem syncTx_enabled {frames : List (Nat × Bytes)} (hon : (domain s d).state ≠ .disabled) :
    syncTx d frames s = frames.foldl (fun y e => if isEth e.1 && bit (domain s d).ports e.1
      then cpuEmit e.1 (Config.firmwareTc 0) none e.2 y else y) s := by
  unfold syncTx
  exact if_neg hon

/-- Pair B's check proposes the time of the source domain, which is locked and knows UTC (R510). -/
theorem legalCheck_proposes {off : Int} (hsrc : byteAt s.time.legalCfg 0 = d + 1)
    (hdue : s.time.lastCheck + legalCheckS s * ticksPerSec ≤ s.now) (hlock : (domain s d).state = .locked)
    (hutc : (domain s d).utc = some off) :
    legalCheck s = (proposeLegal ((domain s d).at_ s.it - off * 1000000000 * Int.ofNat nsFine).toNat (d + 1 + 7)
      { s with time.lastCheck := s.now }).2 := by
  have hgo : ¬ (d + 1 = 0 ∨ s.now < s.time.lastCheck + legalCheckS s * ticksPerSec) := by
    rintro (h | h)
    · exact Nat.succ_ne_zero d h
    · exact absurd hdue (Nat.not_le.2 h)
  unfold legalCheck
  dsimp only
  rw [hsrc, if_neg hgo, Nat.add_sub_cancel]
  change (match (domain s d).state, (domain s d).utc with
    | .locked, some off => _
    | _, _ => _) = _
  rw [hlock, hutc]
  rfl

end timeBase

/-- Settles O49: each clause is the branch of its function for what is due. -/
theorem timeBaseEventsComplete : Obligations.TimeBaseEventsComplete := by
  intro t d s hrun s0 x
  refine ⟨next_held hrun rfl rfl, next_held hrun rfl rfl, fun hlock hgm hdue => ?_, fun hdue => ?_,
    fun hslew hleft => ?_, fun hsrc hleap hlast hday => ?_, fun hpair hact => ⟨fun hon hgm => ?_, fun hon hcap => ?_,
      fun g ns hlo hhi => ?_, fun frames hon => ?_, fun u off hsrc hdue hlock hutc => ?_⟩⟩
  · exact next_whenRuns hrun (congrArg (holdBase s0) (syncTimeout_due (s := s0) hlock hgm hdue))
  · exact next_whenRuns hrun (congrArg (holdBase s0) (if_pos hdue))
  · exact next_held hrun (if_pos ⟨hslew, hleft⟩) rfl
  · exact next_whenRuns hrun (congrArg (holdBase s0) (leapSecond_removes (s := s0) hsrc hleap hlast hday))
  · exact next_whenPairB hpair hact (congrArg (holdBase s0) (grandmasterElected_other (s := s0) hon hgm))
  · exact next_whenPairB hpair hact (congrArg (holdBase s0) (grandmasterElected_self (s := s0) hon hcap))
  · exact next_whenPairB hpair hact (congrArg (holdBase s0) (pathDelayMeasured_gptp (s := s0) hlo hhi))
  · exact next_whenPairB hpair hact (congrArg (holdBase s0) (syncTx_enabled (s := s0) hon))
  · exact next_whenPairB hpair hact (congrArg (holdBase s0) (legalCheck_proposes (s := s0) hsrc hdue hlock hutc))

/-! ### Captures, compares, pulses and the motion window (R517 to R526) -/

section timePins
variable {n e : Nat} {s : State}

/-- The first edge of an input that captures it, and raises no event. -/
theorem tcapEdge_first (hn : n ≤ 15) (hedge : (captureOf s n).edge = 3 ∨ (captureOf s n).edge = e)
    (hfirst : (captureOf s n).history = []) (hquiet : (captureOf s n).event = false) :
    tcapEdge n e s = bump (timeCtr 0x0150) { s with
      time.captures := tset s.time.captures n { captureOf s n with
        count := (captureOf s n).count + 1, history := [(s.now, e)] } } := by
  have hgo : ¬ (15 < n ∨ (!((captureOf s n).edge == 3 || (captureOf s n).edge == e)) = true) := by
    rintro (h | h)
    · exact absurd hn (Nat.not_le.2 h)
    · rcases hedge with hedge | hedge <;> simp [hedge] at h
  unfold tcapEdge
  dsimp only
  rw [if_neg hgo, hfirst, if_neg Bool.false_ne_true, if_neg (Bool.eq_false_iff.1 hquiet)]
  rfl

theorem tcmpEdge_single_end {tk : Tick} (hnext : (tget s.time.compares Compare.off n).next = some (tk, false))
    (hmode : (tget s.time.compares Compare.off n).mode = 1) (hdue : tk ≤ s.now) :
    tcmpEdge n s = bump (timeCtr 0x0160) { s with
      time.compares := tset s.time.compares n { tget s.time.compares Compare.off n with
        next := none, active := false } } := by
  unfold tcmpEdge
  dsimp only
  rw [hnext, hmode]
  exact if_neg (Nat.not_lt.2 hdue)

theorem tcmpEdge_periodic_start {tk : Tick} (hnext : (tget s.time.compares Compare.off n).next = some (tk, true))
    (hmode : (tget s.time.compares Compare.off n).mode = 2) (hdue : tk ≤ s.now) :
    tcmpEdge n s = bump (timeCtr 0x0160) { s with
      time.compares := tset s.time.compares n { tget s.time.compares Compare.off n with
        next := some (tk + (tget s.time.compares Compare.off n).width, false), active := true, start := tk } } := by
  unfold tcmpEdge
  dsimp only
  rw [hnext, hmode]
  exact if_neg (Nat.not_lt.2 hdue)

theorem mpulEdge_counts (hn : n ≤ 1) (hsel : byteAt (tget s.time.pulses Pulse.off n).raw 1 = e) (he : e ≠ 0) :
    let x := tget s.time.pulses Pulse.off n
    mpulEdge n e s = { s with time.pulses := tset s.time.pulses n { x with
      edges := x.edges + 1, first := if x.edges = 0 then s.now else x.first, last := s.now
      prev := x.latest, latest := some s.now } } := by
  have hgo : ¬ (1 < n ∨ byteAt (tget s.time.pulses Pulse.off n).raw 1 ≠ e ∨ e = 0) := by
    rintro (h | h | h)
    · exact absurd hn (Nat.not_le.2 h)
    · exact h hsel
    · exact he h
  unfold mpulEdge
  exact if_neg hgo

/-- The end of a motion window takes the speeds and evaluates every pair for it (R525). -/
theorem motionWindow_end {fin : Tick} (hfin : fin = s.time.motionEnd + ms 100) (hdue : fin ≤ s.now) :
    motionWindow s = [0, 1, 2, 3].foldl (fun s p => evalPair p (fin - ms 100) s) { s with
      time.speeds := [(pulseSpeed (tget s.time.pulses Pulse.off 0) fin, true),
        (pulseSpeed (tget s.time.pulses Pulse.off 1) fin, true),
        fieldSpeed (tget s.time.fields FieldSource.off 2) fin, fieldSpeed (tget s.time.fields FieldSource.off 3) fin]
      time.motionEnd := fin, time.pulses := tmap s.time.pulses fun _ x => { x with edges := 0 } } := by
  subst hfin
  unfold motionWindow
  rw [Nat.add_sub_cancel]
  exact if_neg (Nat.not_lt.2 hdue)

end timePins

/-- Settles O51: each clause is the branch of its function for what is set and due. -/
theorem timePinEventsComplete : Obligations.TimePinEventsComplete := by
  intro t n s hrun s0
  refine ⟨fun e hn hedge hfirst hquiet => ?_, fun tk hnext hmode hdue => ?_, fun tk hnext hmode hdue => ?_,
    fun e hn hsel he => ?_, fun fin hfin hdue => ?_⟩
  · exact next_held hrun (tcapEdge_first (s := s0) hn hedge hfirst hquiet) rfl
  · exact next_held hrun (tcmpEdge_single_end (s := s0) hnext hmode hdue) rfl
  · exact next_held hrun (tcmpEdge_periodic_start (s := s0) hnext hmode hdue) rfl
  · exact next_held hrun (mpulEdge_counts (s := s0) hn hsel he) rfl
  · exact next_whenRuns hrun (congrArg (holdBase s0) (motionWindow_end (s := s0) hfin hdue))

end Sys2Proof.Machine
end

section
/-!
The events of Herax (R539 to R566) and of ciphering (R576 to R604).
-/
namespace Sys2Proof.Machine

/-! ### Sealed-ring reads, tampers, wipes, records and checkpoints (R539, R540, R562, R563, R566) -/

section herax
variable {n : Nat} {s : State}

theorem tamperDetect_runs (hn : n ≤ 4) (hrun : tsclkRuns s = true) : tamperDetect n s = tamperAct (2 ^ n) s := by
  unfold tamperDetect
  exact (if_neg (Nat.not_lt.2 hn)).trans (if_pos hrun)

theorem tamperDetect_sleeps (hn : n ≤ 4) (hrun : tsclkRuns s = false) :
    tamperDetect n s = { s with herax.tamperWaiting := s.herax.tamperWaiting ||| 2 ^ n } := by
  unfold tamperDetect
  exact (if_neg (Nat.not_lt.2 hn)).trans (if_neg (Bool.eq_false_iff.1 hrun))

theorem sealRecordWrite_due (hcp : checkpointDue s = false) (hroom : (recent s s.herax.sealTimes).length < 2000) :
    sealRecordWrite s = sealNext s := by
  unfold sealRecordWrite
  rw [hcp, Bool.false_or, decide_eq_false (Nat.not_le.2 hroom)]
  exact if_neg Bool.false_ne_true

end herax

/-- Settles O52: each clause is the branch of its function for what is due. -/
theorem heraxEventsComplete : Obligations.HeraxEventsComplete := by
  intro t s s0
  refine ⟨fun n hn => ⟨fun hrun => ?_, fun hrun => ?_⟩, fun hrun => ⟨?_, ?_, ?_, fun hcp hroom => ?_, fun hcp => ?_⟩⟩
  · exact congrArg (fun z => Host.Outcome.next (holdBase s0 z)) (tamperDetect_runs (s := s0) hn hrun)
  · exact next_whenAny (tamperDetect_sleeps (s := s0) hn hrun) rfl
  · exact next_held hrun rfl rfl
  · exact next_held hrun rfl rfl
  · exact next_held hrun rfl rfl
  · exact next_whenRuns hrun (congrArg (holdBase s0) (sealRecordWrite_due (s := s0) hcp hroom))
  · exact next_whenRuns hrun (congrArg (holdBase s0) (if_pos hcp))

/-! ### Lanes, jobs and in-band frames (R576, R578, R580, R596, R598 to R600, R602 to R604) -/

section cipher
variable {n p tag off : Nat} {s : State}

theorem cipherDispatch_frame {m : LaneMsg} (hm : mostUrgent s.cipher.waiting = some m)
    (hn : laneChoice s m.urgency = some n) (hjob : m.job = none) :
    cipherDispatch s = laneStart n m { s with cipher.waiting := s.cipher.waiting.erase m } := by
  unfold cipherDispatch
  rw [hm]
  dsimp only
  rw [hn]
  dsimp only
  rw [hjob]

theorem cipherMessageDone_job {m : LaneMsg} (hm : (laneOf s n).run = some m) (hjob : m.job = some (p, tag)) :
    cipherMessageDone n s = jobFinish p tag s := by
  unfold cipherMessageDone
  rw [hm]
  dsimp only
  rw [hjob]

/-- A fault ends the job's work at the last whole block before it. -/
theorem jobFault_works {m : LaneMsg} {j : Job} {key : Bytes} {upto : Nat} (hm : (laneOf s n).run = some m)
    (hjob : m.job = some (p, tag)) (hj : jobOf s p tag = some j) (hkey : j.key = some key)
    (hmore : j.offset < min j.len (upto / 16 * 16)) :
    jobFault n upto s = (jobWork j key (min j.len (upto / 16 * 16)) s).2 := by
  unfold jobFault
  rw [hm]
  dsimp only
  rw [hjob]
  dsimp only
  rw [hj]
  dsimp only
  rw [hkey]
  exact if_pos hmore

section job
variable {j : Job} (hj : jobOf s p tag = some j)
include hj

theorem jobComplete_done (hst : j.st = .finished) (hok : j.status = 0x0000) :
    jobComplete p tag s = jobEnd j 0x0000 s := by
  unfold jobComplete
  rw [hj]
  exact (if_neg (not_not_intro hst)).trans (if_pos hok)

theorem jobComplete_failed (hst : j.st = .finished) (hbad : j.status ≠ 0x0000) :
    jobComplete p tag s = setJob { j with st := .zeroing } s := by
  unfold jobComplete
  rw [hj]
  exact (if_neg (not_not_intro hst)).trans (if_neg hbad)

theorem jobZeroed_zeroing (hst : j.st = .zeroing) :
    jobZeroed p tag s = jobEnd j j.status (bulkWrite j.ctx j.dst (zeros j.written) s).2.2 := by
  unfold jobZeroed
  rw [hj]
  exact if_neg (not_not_intro hst)

/-- A stopped job that never had its key has no work to take back. -/
theorem cipherAbortJob_keyless (hst : j.st = .stopped) (hkey : j.key = none) (hgone : slotGone s j.slot = true) :
    cipherAbortJob p tag off s = jobAbort j s := by
  have hgo : ¬ ((!slotGone s j.slot) = true ∨ (j.st ≠ .working ∧ j.st ≠ .stopped)) := by
    rintro (h | ⟨-, h⟩)
    · rw [hgone] at h
      exact Bool.false_ne_true h
    · exact h hst
  unfold cipherAbortJob
  rw [hj]
  dsimp only
  rw [if_neg hgo, hkey]
  generalize List.any lanes _ = running
  cases running <;> rfl

end job

/-- A frame in transmission whose key is gone is stomped. -/
theorem cipherAbortSend_sending {x : Sending} {i : Nat} {f : HeldFrame} (hx : tget? s.switch.sending n = some x)
    (hslot : x.slot = some i) (hgone : slotGone s i = true) (hf : heldOf s x.fid = some f) :
    cipherAbortSend n off s = stomp n (some 2) (cipherAbortEvent i 2 n f.frame.flow off (refuse 0x0201 s)) := by
  unfold cipherAbortSend
  rw [hx]
  dsimp only
  rw [hslot]
  dsimp only
  rw [if_pos hgone, hf]
  rfl

section inband
variable {f : Frame} (hf : s.switch.cpuIn.find? (fun f => f.bus.isNone && beAt f.data 12 2 == 0x88B5) = some f)
include hf

theorem inbandFrame_unknown (hp : inbandPartner { s with switch.cpuIn := s.switch.cpuIn.erase f } f = none) :
    inbandFrame s = bump (ciphCtr 0x0978) { s with switch.cpuIn := s.switch.cpuIn.erase f } := by
  unfold inbandFrame
  rw [hf]
  dsimp only
  rw [hp]

theorem inbandFrame_packets (hp : inbandPartner { s with switch.cpuIn := s.switch.cpuIn.erase f } f = some p)
    (htype : byteAt f.data 14 = 1) :
    inbandFrame s = inbandPackets p f.data (leAt f.data 16 2) 18 { s with switch.cpuIn := s.switch.cpuIn.erase f } := by
  unfold inbandFrame
  rw [hf]
  dsimp only
  rw [hp]
  dsimp only
  rw [htype]
  rfl

theorem inbandFrame_operations (hp : inbandPartner { s with switch.cpuIn := s.switch.cpuIn.erase f } f = some p)
    (htype : byteAt f.data 14 = 5) :
    inbandFrame s = inbandOps p f.data (leAt f.data 16 2) { s with switch.cpuIn := s.switch.cpuIn.erase f } := by
  unfold inbandFrame
  rw [hf]
  dsimp only
  rw [hp]
  dsimp only
  rw [htype]
  rfl

end inband

/-- A service of Pair A that runs. -/
theorem next_whenPairA {t : Tick} {f : State → State} {y : State} (hpair : pairARuns (atTime t s) = true)
    (hf : holdBase (atTime t s) (f (atTime t s)) = y) :
    (Host.Outcome.next (whenPairA t f s) : Host.Outcome State Fault Refusal) = .next y := by
  rw [whenPairA_on t f s hpair, hf]

end cipher

/-- Settles O53: each clause is the branch of its function for what waits, runs or arrived. -/
theorem cipherEventsComplete : Obligations.CipherEventsComplete := by
  intro t n p tag s hrun s0
  refine ⟨fun m hm hn hjob => ?_, fun m hm hjob => ⟨?_, fun j key upto hj hkey hmore => ?_⟩,
    fun j hj => ⟨fun hst hok => ?_, fun hst hbad => ?_, fun hst => ?_, fun off hst hkey hgone => ?_⟩,
    fun x i f off hx hslot hgone hf => ?_, fun f hpair hf => ⟨fun hp => ?_, fun hp htype => ?_, fun hp htype => ?_⟩⟩
  · exact next_whenRuns hrun (congrArg (holdBase s0) (cipherDispatch_frame (s := s0) hm hn hjob))
  · exact next_whenRuns hrun (congrArg (holdBase s0) (cipherMessageDone_job (s := s0) hm hjob))
  · exact next_whenRuns hrun (congrArg (holdBase s0) (jobFault_works (s := s0) hm hjob hj hkey hmore))
  · exact next_whenRuns hrun (congrArg (holdBase s0) (jobComplete_done (s := s0) hj hst hok))
  · exact next_held hrun (jobComplete_failed (s := s0) hj hst hbad) rfl
  · exact next_whenRuns hrun (congrArg (holdBase s0) (jobZeroed_zeroing (s := s0) hj hst))
  · exact next_whenRuns hrun (congrArg (holdBase s0) (cipherAbortJob_keyless (s := s0) hj hst hkey hgone))
  · exact next_whenRuns hrun (congrArg (holdBase s0) (cipherAbortSend_sending (s := s0) hx hslot hgone hf))
  · exact next_whenPairA hpair (congrArg (holdBase s0) (inbandFrame_unknown (s := s0) hf hp))
  · exact next_whenPairA hpair (congrArg (holdBase s0) (inbandFrame_packets (s := s0) hf hp htype))
  · exact next_whenPairA hpair (congrArg (holdBase s0) (inbandFrame_operations (s := s0) hf hp htype))

end Sys2Proof.Machine
end

section
/-!
The power unit's events: pins and supplies (R611 to R613, R643, R765 to R768), and start-up, sleep entry, resume and
transitions (R622 to R639).
-/
namespace Sys2Proof.Machine

/-! ### Pins and supplies -/

section pins
variable {c : Nat} {s : State}

/-- A reset of a main domain that is up has its own cause. -/
theorem mainReset_up (hup : s.mainUp = true) :
    mainReset c s = { clearMain s with power.nextCause := c, power.resetAt := s.clk } := by
  unfold mainReset
  rw [hup]
  rfl

theorem sysRstPin_low (hen : s.power.mainEn = true) (hup : s.mainUp = true) :
    sysRstPin true s = { clearMain { s with power.sysRst := true } with power.nextCause := 4, power.resetAt := s.clk } :=
  (if_pos ⟨rfl, hen⟩).trans (mainReset_up (s := { s with power.sysRst := true }) hup)

theorem pwrGoodFall_up (hen : s.power.mainEn = true) (hup : s.mainUp = true) :
    pwrGoodFall s = { clearMain { s with power.pwrGood := false } with power.nextCause := 6, power.resetAt := s.clk } :=
  (if_pos hen).trans (mainReset_up (s := { s with power.pwrGood := false }) hup)

theorem pwrGoodTimeout_retries (hen : s.power.mainEn = true) (hbad : s.power.pwrGood = false)
    (hdue : s.power.enAt + ms 50 ≤ s.clk) (hfirst : s.power.retry = false) :
    pwrGoodTimeout s = { s with power.retry := true, power.enAt := s.clk + ms 10 } := by
  have hgo : ¬ ((!s.power.mainEn) = true ∨ s.power.pwrGood = true ∨ s.clk < s.power.enAt + ms 50) := by
    rw [hen, hbad]
    simpa using hdue
  have hretry : (!s.power.retry) = true := by rw [hfirst]; rfl
  unfold pwrGoodTimeout
  exact (if_neg hgo).trans (if_pos hretry)

theorem slowclkStable_starts (hporst : s.power.porst = false) (hen : s.power.mainEn = false) (hkept : s.power.kept = false)
    (hcause : s.power.nextCause = 1) (hmode : s.mode = .calm) :
    slowclkStable s = { s with power.mainEn := true, power.enAt := s.clk, power.retry := false } := by
  have hgo : ¬ (s.power.porst = true ∨ s.power.mainEn = true ∨ s.power.kept = true ∨ s.power.nextCause ≠ 1 ∨
      s.mode ≠ .calm) := by
    simp [hporst, hen, hkept, hcause, hmode]
  unfold slowclkStable
  exact if_neg hgo

end pins

/-- Settles O54: each clause reads the reset, or the supply's branch, that the row takes. -/
theorem resetEventsComplete : Obligations.ResetEventsComplete := by
  intro t s s0
  refine ⟨⟨_, rfl, rfl, rfl, rfl, rfl, rfl, rfl, rfl, rfl, rfl⟩, rfl, ⟨_, rfl, rfl, rfl, rfl, rfl, rfl, rfl⟩,
    fun hen hup => ⟨⟨_, congrArg Host.Outcome.next (sysRstPin_low (s := s0) hen hup), ?_⟩,
      ⟨_, congrArg Host.Outcome.next (pwrGoodFall_up (s := s0) hen hup), ?_⟩⟩, rfl, fun hen => ?_,
    fun hen hbad hdue hfirst => ?_, fun hporst hen hkept hcause hmode => ?_⟩
  · exact ⟨rfl, rfl, rfl, rfl, rfl, rfl, rfl⟩
  · exact ⟨rfl, rfl, rfl, rfl, rfl, rfl⟩
  · exact next_whenAny (if_pos hen) rfl
  · exact congrArg Host.Outcome.next (pwrGoodTimeout_retries (s := s0) hen hbad hdue hfirst)
  · exact next_whenAny (slowclkStable_starts (s := s0) hporst hen hkept hcause hmode) rfl

/-! ### Start-up, sleep entry, resume and transitions -/

section modes
variable {s : State} {x : Transition}

theorem startUp_starts {rst n : Nat} {rd : List Nat} {tr pc : Bool} (hdue : s.power.resetDue = none)
    (hmay : mayStart s = true) (hmode : s.mode = .calm) :
    let wake := if s.power.nextCause = 2 then s.power.transition else none
    let z := timeResumes rst n { s with power.transition := none }
    let y := bootSteps rd tr pc wake z
    startUp rst n none rd tr pc s =
      { holdBase z y with mainUp := true, mode := if y.power.recovery then .atelier else startMode wake } := by
  have hz : performReset s = s := by unfold performReset; rw [hdue]
  have hgo : ¬ (!mayStart s || s.mode != .calm) = true := by rw [hmay, hmode]; decide
  unfold startUp
  dsimp only
  rw [hz, if_neg hgo]

theorem startUp_lbistFails {rst n k : Nat} {rd : List Nat} {tr pc : Bool} (hdue : s.power.resetDue = none)
    (hmay : mayStart s = true) (hmode : s.mode = .calm) :
    startUp rst n (some k) rd tr pc s = { s with power.held := true, power.lbistFail := some k } := by
  have hz : performReset s = s := by unfold performReset; rw [hdue]
  have hgo : ¬ (!mayStart s || s.mode != .calm) = true := by rw [hmay, hmode]; decide
  unfold startUp
  dsimp only
  rw [hz, if_neg hgo]

section resume
variable {rst n : Nat} (hx : s.power.transition = some x) (hmay : mayStart s = true) (hmode : s.mode = .zephyr)
include hx hmay hmode

theorem zephyrResume_resumes : (zephyrResume rst n s.power.tcmHash none s).mainUp = true ∧
    (zephyrResume rst n s.power.tcmHash none s).mode = startMode (some x) := by
  have hgo : ¬ (!mayStart s || s.mode != .zephyr) = true := by rw [hmay, hmode]; decide
  unfold zephyrResume
  rw [hx]
  dsimp only
  rw [if_neg hgo, if_neg (not_not_intro rfl)]
  exact ⟨rfl, rfl⟩

/-- A hash that does not show what was written before leaves Calm, for a start-up. -/
theorem zephyrResume_lost {h : Bytes} (hh : h ≠ s.power.tcmHash) :
    zephyrResume rst n h none s = { clearMain s with power.nextCause := 9 } := by
  have hgo : ¬ (!mayStart s || s.mode != .zephyr) = true := by rw [hmay, hmode]; decide
  unfold zephyrResume
  rw [hx]
  dsimp only
  rw [if_neg hgo, if_pos hh]

end resume

theorem sleepEntry_sleeps (hx : s.power.transition = some x) (hsleep : enteringSleep s = true)
    (hmode : s.mode = .gale ∨ s.mode = .breeze) :
    (sleepEntry s).mainUp = false ∧ (sleepEntry s).mode = (if x.target = .zephyr then .zephyr else .calm) ∧
      (sleepEntry s).power.nextCause = (if x.target = .zephyr then 3 else 2) := by
  have hgo : ¬ ((!enteringSleep s) = true ∨ (!decide (s.mode = .gale ∨ s.mode = .breeze)) = true) := by
    rw [hsleep, decide_eq_true hmode]
    decide
  unfold sleepEntry
  rw [hx]
  dsimp only
  rw [if_neg hgo]
  split
  · exact ⟨rfl, rfl, rfl⟩
  · exact ⟨rfl, rfl, rfl⟩

theorem transitionDone_turns (hx : s.power.transition = some x) (hturn : mayTurn s.mode x.target = true) :
    (transitionDone s).mode = x.target ∧ (transitionDone s).mainUp = true := by
  have hgo : ¬ (!mayTurn s.mode x.target) = true := by rw [hturn]; decide
  unfold transitionDone
  rw [hx]
  dsimp only
  rw [if_neg hgo]
  exact ⟨rfl, rfl⟩

theorem atelierExpiry_due {e : Tick} (hmode : s.mode = .atelier) (he : s.power.atelierEnd = some e) (hdue : e ≤ s.now)
    (hfree : s.power.transition = none) : atelierExpiry s = beginTransition .gale 6 0xFF 0 s := by
  unfold atelierExpiry
  rw [he]
  exact if_pos ⟨hmode, hdue, hfree⟩

end modes

theorem whenModes_on (t : Tick) (f : State → State) (s : State) (hrun : tsclkRuns s = true) :
    let y := f (atTime t s)
    whenModes t f s = { holdBase (atTime t s) y with mode := y.mode, mainUp := y.mainUp } :=
  if_pos hrun

/-- Settles O55: each clause is the branch of its function that the state allows. -/
theorem modeEventsComplete : Obligations.ModeEventsComplete := by
  intro t s s0
  refine ⟨fun rst n rd tr pc hdue hmay hmode => ?_, fun rst n rd tr pc k hdue hmay hmode => ?_,
    fun rst n x hx hmay hmode => ⟨?_, fun h hh => ?_⟩, fun x hrun hx hsleep hmode => ?_, fun x hrun hx hturn => ?_,
    fun hmode hx hcfg hdue => ?_, fun e hrun hmode he hdue hfree => ?_⟩
  · exact ⟨_, congrArg Host.Outcome.next (startUp_starts (s := s0) hdue hmay hmode), rfl, rfl, rfl⟩
  · exact congrArg Host.Outcome.next (startUp_lbistFails (s := s0) hdue hmay hmode)
  · exact ⟨_, rfl, zephyrResume_resumes (s := s0) hx hmay hmode⟩
  · exact ⟨_, congrArg Host.Outcome.next (zephyrResume_lost (s := s0) hx hmay hmode hh), rfl, rfl, rfl⟩
  · exact ⟨_, congrArg Host.Outcome.next (whenModes_on t _ s hrun), sleepEntry_sleeps (s := s0) hx hsleep hmode⟩
  · obtain ⟨hto, hup⟩ := transitionDone_turns (s := s0) hx hturn
    exact ⟨_, congrArg Host.Outcome.next (whenModes_on t _ s hrun), hto, hup, rfl⟩
  · exact ⟨_, congrArg Host.Outcome.next (if_pos ⟨hmode, hx, hcfg, hdue⟩), rfl, rfl, rfl, rfl⟩
  · exact next_held hrun (atelierExpiry_due (s := s0) hmode he hdue hfree) rfl

end Sys2Proof.Machine
end

section
/-!
The power unit's services (R333, R614 to R616, R636, R642, R646, R653, R745), and network sleep (R663 to R688).
-/
namespace Sys2Proof.Machine

/-! ### Segments, images, comparators, counters and the ledger's journal -/

section power
variable {i : Nat} {s : State}

theorem segmentOff_empty (hon : s.switch.segOn.testBit i = true) (hwant : s.switch.segWanted.testBit i = false)
    (hused : tget s.switch.segUsed 0 i = 0) : segmentOff i s = { s with switch.segOn := s.switch.segOn - 2 ^ i } := by
  have hgo : (s.switch.segOn.testBit i && !s.switch.segWanted.testBit i && tget s.switch.segUsed 0 i == 0) = true := by
    rw [hon, hwant, hused]
    rfl
  unfold segmentOff
  exact if_pos hgo

section erase
variable {a : AsyncCmd} (ha : findAsync 0x0710 (fun a => byteAt a.params 0 == i) s = some a)
include ha

theorem eraseDone_ok : eraseDone i true s = cmdComplete a 0x0000 (let y := setImage i 0 0 false s
    { y with power.images := tset y.power.images i { imageSlot y i with bytes := [] } }) := by
  unfold eraseDone
  rw [ha]
  rfl

theorem eraseDone_failed : eraseDone i false s = cmdComplete a 0x0304 s := by
  unfold eraseDone
  rw [ha]
  rfl

end erase

theorem verifyDone_checks {a : AsyncCmd} {e : Bool} (ha : findAsync 0x0712 (fun a => byteAt a.params 0 == i) s = some a) :
    verifyDone i e s = (match imageCheck s i e with
      | none => cmdComplete a 0x0000 (setImage i 2 0 false s)
      | some r => cmdComplete a 0x0109 (imageInvalid i r s)) := by
  unfold verifyDone
  rw [ha]
  rfl

theorem hitlessDone_ready {a : AsyncCmd} {t0 : Tick} (hact : s.power.activating = some (i, t0))
    (ha : findAsync 0x0713 (fun _ => true) s = some a) (hin : s.now ≤ t0 + ms 40) :
    hitlessDone true s = cmdComplete a 0x0000 (bump (pwrCtr 0x0120) (sealFwActivate i true a.partner
      (runFirmware i (makeTrial i true { s with power.activating := none })))) := by
  unfold hitlessDone
  rw [hact, ha]
  exact if_pos ⟨rfl, hin⟩

section comparator
variable (hi : i ≤ 7) (hset : byteAt (comparatorOf s i).raw 1 = 1)
include hi hset

theorem comparator_watched : ¬ (7 < i ∨ byteAt (comparatorOf s i).raw 1 ≠ 1) := by
  rintro (h | h)
  · exact absurd hi (Nat.not_le.2 h)
  · exact h hset

theorem comparatorDetect_leaves :
    comparatorDetect i false s = setComparator i { comparatorOf s i with level := false } s := by
  unfold comparatorDetect
  exact if_neg (comparator_watched hi hset)

/-- A comparator whose only action is its event, in a mode in which TSCLK runs. -/
theorem comparatorDetect_event (hrun : tsclkRuns s = true) (hact : byteAt (comparatorOf s i).raw 3 = 2) :
    let y : Comparator := { comparatorOf s i with level := true }
    comparatorDetect i true s =
      comparatorEvent i y (bump (pwrCtr 0x0138) (setW1c 0x0700 0x0030 (8 + i) i (setComparator i y s))) := by
  unfold comparatorDetect
  dsimp only
  rw [if_neg (comparator_watched hi hset), if_neg (by decide), if_pos hrun, hact]
  rfl

end comparator

theorem monoStep_due {v : Nat} (hv : tget? s.power.monoWait i = some v)
    (hroom : (recent s s.power.monoTimes).length < 1000) : monoStep i s = monoPerform i v s := by
  unfold monoStep
  rw [hv]
  exact if_pos hroom

/-- The first change journalled in a second. -/
theorem ledgerPersist_first {e : LedgerEntry} (he : nextPersist s.kernel.ledger = some e)
    (hnew : s.kernel.ledger.writeWindow ≠ s.now / ticksPerSec) :
    let l := s.kernel.ledger
    ledgerPersist s = { s with kernel.ledger := { l with
      entries := l.entries.map fun x => if x.id = e.id then { e with persisted := true } else x
      unpersisted := l.unpersisted.filter fun i => i != e.id
      journal := (l.journal.filter fun x => x.id != e.id) ++ [{ e with persisted := true }]
      writeWindow := s.now / ticksPerSec, writes := 1 } } := by
  unfold ledgerPersist
  dsimp only
  rw [he, if_neg hnew]
  rfl

end power

/-- Settles O56: each clause is the branch of its function for what is due. -/
theorem powerServiceEventsComplete : Obligations.PowerServiceEventsComplete := by
  intro t i s hrun s0
  refine ⟨fun hon hwant hused => ?_, fun a ha => ?_, fun a ha => ?_, fun a e ha => ?_, fun a t0 hact ha hin => ?_,
    fun hi hset => ?_, fun hi hset hact => ?_, fun v hv hroom => ?_, fun e he hnew => ?_⟩
  · exact next_held hrun (segmentOff_empty (s := s0) hon hwant hused) rfl
  · exact next_whenRuns hrun (congrArg (holdBase s0) (eraseDone_ok (s := s0) ha))
  · exact next_held hrun (eraseDone_failed (s := s0) ha) (held_kernel (b := s0) rfl (kernelOnly_cmdComplete a _ s0))
  · exact next_whenRuns hrun (congrArg (holdBase s0) (verifyDone_checks (s := s0) ha))
  · exact next_whenRuns hrun (congrArg (holdBase s0) (hitlessDone_ready (s := s0) hact ha hin))
  · exact next_whenAny (comparatorDetect_leaves (s := s0) hi hset) rfl
  · exact congrArg (fun z => Host.Outcome.next (holdBase s0 z)) (comparatorDetect_event (s := s0) hi hset hrun hact)
  · exact next_held hrun (monoStep_due (s := s0) hv hroom) rfl
  · refine ⟨_, next_held hrun (ledgerPersist_first (s := s0) he hnew) rfl, rfl, rfl, ?_, ?_⟩
    · exact List.mem_append_right _ (List.mem_singleton_self _)
    · exact fun h => by simpa using (List.mem_filter.1 h).2

/-! ### The consent ring, the awake and false-wake windows, and TC10 (R663 to R669, R672, R673, R684, R686 to R688) -/

theorem held_setEth {g : Nat} {x : EthPort} {a b : State} (h : Held a b) : Held a (setEth g x b) :=
  congrArg (setEth g x) h

section sleep
variable {g : Nat} {s : State}

theorem ringRuns_on (hrun : tsclkRuns s = true) (hon : s.sleep.st ≠ .off) : ringRuns s = true := by
  unfold ringRuns
  rw [hrun]
  simpa using hon

section message
variable {m : Bytes} {stamp : Tick} (hrun : ringRuns s = true) (hport : ringPort s g = true)
include hrun hport

theorem ringMessage_taken : ¬ (!ringRuns s || !ringPort s g) = true := by
  rw [hrun, hport]
  decide

theorem ringRx_malformed (hbad : ringMsgOk m = false) : ringRx g m stamp s = bump (slpCtr 0x0150) s := by
  have hbad' : (!ringMsgOk m) = true := by rw [hbad]; rfl
  unfold ringRx
  exact (if_neg (ringMessage_taken hrun hport)).trans (if_pos hbad')

/-- The first JOIN seen is passed on, and its node enters the presence set. -/
theorem ringRx_join (hok : ringMsgOk m = true) (hfirst : s.sleep.recent = []) (htype : byteAt m 0 % 16 = 1) :
    let y := ringSendBut (some g) m (bump (slpCtr 0x0148) { s with sleep.recent := [(m, stamp)] })
    ringRx g m stamp s =
      addNode (msgSrc m) { y with sleep.falseWakes := y.sleep.falseWakes.map fun w => (w.1, w.2.1, true) } := by
  unfold ringRx
  dsimp only
  rw [if_neg (ringMessage_taken hrun hport), if_neg (by rw [hok]; decide), hfirst]
  refine (if_neg Bool.false_ne_true).trans ?_
  rw [htype]
  rfl

end message

theorem tokenPass_passes {h : Nat × Tick} (hhold : s.sleep.holding = some h) (hrun : ringRuns s = true)
    (hmaster : isMaster s = false) : tokenPass s = sendToken (ringNode s) s := by
  unfold tokenPass
  rw [hhold]
  exact (if_neg (by rw [hrun]; decide)).trans (if_neg (Bool.eq_false_iff.1 hmaster))

/-- The master that saw no token in the joining window begins the first round. -/
theorem joinTimeout_master {e : Tick} (hend : s.sleep.joinEnd = some e) (hdue : e ≤ s.now) (hrun : ringRuns s = true)
    (hst : s.sleep.st = .joining) (hmaster : isMaster s = true) (hnone : s.sleep.tokenAt = none)
    (hrole : standbyRole s = false) :
    joinTimeout s = sendToken (ringNode s) (setSleepSt .ring
      { s with sleep.joinEnd := none, sleep.round := 0, sleep.tokenAt := some s.now }) := by
  have hgo : (ringRuns s && decide (e ≤ s.now) && s.sleep.st == .joining) = true := by
    rw [hrun, decide_eq_true hdue, hst]
    rfl
  have hbegin : (isMaster s && s.sleep.tokenAt.isNone && !standbyRole s) = true := by
    rw [hmaster, hnone, hrole]
    rfl
  unfold joinTimeout
  rw [hend]
  exact (if_pos hgo).trans (if_pos hbegin)

theorem tokenTimeoutEnd_due {n : Nat} {a : Tick} (hsent : s.sleep.sent = some (n, a)) (hrun : ringRuns s = true)
    (hdue : a + tokenTimeout s ≤ s.now) :
    tokenTimeoutEnd s = sendToken n (bump (slpCtr 0x0130) (removeNode n { s with sleep.sent := none })) := by
  have hgo : (ringRuns s && decide (a + tokenTimeout s ≤ s.now)) = true := by
    rw [hrun, decide_eq_true hdue]
    rfl
  unfold tokenTimeoutEnd
  rw [hsent]
  exact if_pos hgo

theorem tokenLost_due {r : Tick} (hlast : s.sleep.tokenAt = some r) (hrun : ringRuns s = true)
    (hst : s.sleep.st = .ring) (hrole : standbyRole s = false) (hdue : r + (2 + ownRank s) * tokenTimeout s ≤ s.now) :
    tokenLost s = sendToken (ringNode s) (bump (slpCtr 0x0128) { s with
      sleep.round := (s.sleep.round + 1) % 256, sleep.tokenAt := some s.now, sleep.seen := []
      sleep.quiet := 0, sleep.noReq := 0 }) := by
  have hgo : (ringRuns s && !standbyRole s && s.sleep.st == .ring &&
      decide (r + (2 + ownRank s) * tokenTimeout s ≤ s.now)) = true := by
    rw [hrun, hrole, hst, decide_eq_true hdue]
    rfl
  unfold tokenLost
  rw [hlast]
  exact if_pos hgo

section objection
variable {i : Tick} (hobj : s.sleep.objection = some i) (hrun : ringRuns s = true) (hdue : i + objectTicks s ≤ s.now)
include hobj hrun hdue

theorem objectionEnd_other (hmaster : isMaster s = false) :
    objectionEnd s = { s with sleep.objection := none } := by
  have hgo : (ringRuns s && decide (i + objectTicks s ≤ s.now)) = true := by
    rw [hrun, decide_eq_true hdue]
    rfl
  have hnot : (!isMaster s || s.sleep.st != .proposed) = true := by
    rw [hmaster]
    rfl
  unfold objectionEnd
  rw [hobj]
  exact (if_pos hgo).trans (if_pos hnot)

/-- Without objection the master sends AGREED and is at its agreement instant. -/
theorem objectionEnd_agrees (hst : s.sleep.st = .proposed) (hmaster : isMaster s = true) (hnone : s.sleep.objected = false) :
    objectionEnd s = agree s.now (ringSend 4 false 0xFFFF { s with sleep.objection := none }) := by
  have hgo : (ringRuns s && decide (i + objectTicks s ≤ s.now)) = true := by
    rw [hrun, decide_eq_true hdue]
    rfl
  have hnot : ¬ (!isMaster s || s.sleep.st != .proposed) = true := by
    rw [hmaster, hst]
    decide
  unfold objectionEnd
  rw [hobj]
  exact (if_pos hgo).trans ((if_neg hnot).trans (if_neg (Bool.eq_false_iff.1 hnone)))

end objection

/-- The master overrules a node that alone kept the ring awake. -/
theorem awakeEnd_overrules {n : Nat} {a : Tick} (hwake : s.sleep.awake = some (n, a))
    (hdue : a + awakeMaxS s * ticksPerSec ≤ s.now) (hmaster : isMaster s = true) (hset : awakeMaxS s ≠ 0)
    (hother : n ≠ ringNode s) :
    awakeEnd s = ledgerAdd 0x0005 0x0800 n 1 false (le 2 n)
      (raiseEvent 0x0800 0x0104 (le 2 n ++ zeros 2 ++ le 4 (awakeMaxS s)) (bump (slpCtr 0x0138)
        { s with sleep.awake := none, sleep.overruled := some n, sleep.ovrNode := n })) := by
  unfold awakeEnd
  rw [hwake]
  exact (if_pos ⟨hdue, hmaster, hset⟩).trans (if_neg fun h => hother h.1)

section falseWake
variable {w : Nat × Tick × Bool} (hw : s.sleep.falseWakes = [w]) (hg : w.1 = g) (hdue : w.2.1 + ms (falseWakeMs s) ≤ s.now)
include hw hg hdue

/-- The window of a port that ends leaves the list. -/
theorem falseWakeEnd_found :
    (s.sleep.falseWakes.find? fun w => w.1 == g && decide (w.2.1 + ms (falseWakeMs s) ≤ s.now)) = some w ∧
      (s.sleep.falseWakes.filter fun x => x != w) = [] := by
  have hmatch : (w.1 == g && decide (w.2.1 + ms (falseWakeMs s) ≤ s.now)) = true := by
    rw [hg, decide_eq_true hdue, beq_self_eq_true]
    rfl
  rw [hw]
  exact ⟨List.find?_cons_of_pos hmatch, by simp⟩

theorem falseWakeEnd_valid (hcomm : w.2.2 = true) : falseWakeEnd g s = { s with sleep.falseWakes := [] } := by
  obtain ⟨hfind, hrest⟩ := falseWakeEnd_found hw hg hdue
  unfold falseWakeEnd
  rw [hfind]
  dsimp only
  rw [hrest, hcomm]
  rfl

theorem falseWakeEnd_off (hcomm : w.2.2 = false) (hrun : tsclkRuns s = true) (hoff : s.sleep.st = .off) :
    falseWakeEnd g s = raiseEvent 0x0800 0x0103 (le 1 g ++ zeros 3 ++ le 4 (falseWakeMs s))
      (bump (slpCtr 0x0110) { s with sleep.falseWakes := [] }) := by
  obtain ⟨hfind, hrest⟩ := falseWakeEnd_found hw hg hdue
  have hgo : ¬ (w.2.2 || !tsclkRuns s) = true := by
    rw [hcomm, hrun]
    decide
  have hst (b : Bytes) (y : State) (hy : y.sleep.st = .off) : (raiseEvent 0x0800 0x0103 b y).sleep.st = .off :=
    (congrArg (fun z : State => z.sleep.st) (kernelOnly_raiseEvent 0x0800 0x0103 b y)).trans hy
  unfold falseWakeEnd
  rw [hfind]
  dsimp only
  rw [hrest]
  refine (if_neg hgo).trans (if_pos ?_)
  exact Bool.or_eq_true_iff.2 (.inr (beq_iff_eq.2 (hst _ _ hoff)))

end falseWake

section tc10
variable {x : Tc10} (hx : tget? s.sleep.tc10 g = some x)
include hx

theorem tc10Poll_acknowledged {stat : Nat} (hin : s.now < x.written + ms 16)
    (hack : stat &&& leAt (wakePortRaw s g) 12 2 = leAt (wakePortRaw s g) 12 2) :
    tc10Poll g stat s = { s with sleep.tc10 := tdel s.sleep.tc10 g } := by
  unfold tc10Poll
  rw [hx]
  exact if_pos ⟨hin, hack⟩

omit hx in
/-- An event that follows a change of an Ethernet port leaves that port, network sleep and the status bits. -/
theorem raiseEvent_setEth (u ty : Nat) (d : Bytes) (y : EthPort) (b : State) :
    let z := raiseEvent u ty d (setEth g y b)
    z.sleep = b.sleep ∧ ethOf z g = y ∧ z.kernel.w1c = b.kernel.w1c := by
  have hz := kernelOnly_raiseEvent u ty d (setEth g y b)
  have hsleep := (congrArg State.sleep hz).trans (setEth_sleep g y b)
  have hports : (raiseEvent u ty d (setEth g y b)).ports = (setEth g y b).ports := (congrArg State.ports hz).trans rfl
  refine ⟨hsleep, ?_, ?_⟩
  · unfold ethOf
    rw [hports]
    exact tget_tset_self ..
  · unfold raiseEvent
    rw [w1c_raiseFull, setEth_kernel]

/-- A window that ends without acknowledgement holds the PHY in reset, and shows its status bit. -/
theorem tc10End_due (hdue : x.written + ms 16 ≤ s.now) :
    let a := bump (slpCtr 0x0158) { s with sleep.tc10 := tdel s.sleep.tc10 g }
    tc10End g s = raiseEvent 0x0800 0x0105 (le 1 g ++ zeros 1 ++ le 2 x.status)
      (setEth g { ethOf a g with prst := true, prstSince := a.clk } (setW1c 0x0800 0x0000 5 g a)) := by
  unfold tc10End
  rw [hx]
  exact if_neg (Nat.not_lt.2 hdue)

theorem tc10End_resets (hdue : x.written + ms 16 ≤ s.now) : let z := tc10End g s
    tget? z.sleep.tc10 g = none ∧ (ethOf z g).prst = true ∧ (ethOf z g).prstSince = s.clk ∧
      w1cIs z 0x0800 0x0000 5 = true := by
  let a := bump (slpCtr 0x0158) { s with sleep.tc10 := tdel s.sleep.tc10 g }
  have htc10 : tget? a.sleep.tc10 g = none := tget?_tdel_self ..
  have hclk : a.clk = s.clk := rfl
  have hz := tc10End_due hx hdue
  change tc10End g s = raiseEvent _ _ _ (setEth g { ethOf a g with prst := true, prstSince := a.clk } (setW1c _ _ _ _ a)) at hz
  clear_value a
  obtain ⟨hsleep, hport, hbits⟩ := raiseEvent_setEth (g := g) 0x0800 0x0105 (le 1 g ++ zeros 1 ++ le 2 x.status)
    { ethOf a g with prst := true, prstSince := a.clk } (setW1c 0x0800 0x0000 5 g a)
  dsimp only
  rw [hz, hport, hsleep]
  refine ⟨?_, rfl, hclk, ?_⟩
  · have hsame : (setW1c 0x0800 0x0000 5 g a).sleep = a.sleep :=
      (congrArg State.sleep (kernelOnly_setW1c 0x0800 0x0000 5 g a)).trans rfl
    rw [hsame]
    exact htc10
  · unfold w1cIs
    rw [hbits]
    exact w1cIs_setW1c 0x0800 0x0000 5 g a

theorem held_tc10End (hdue : x.written + ms 16 ≤ s.now) : Held s (tc10End g s) := by
  have hover : Held s (bump (slpCtr 0x0158) { s with sleep.tc10 := tdel s.sleep.tc10 g }) := rfl
  have hbit := held_kernel hover (kernelOnly_setW1c 0x0800 0x0000 5 g _)
  rw [tc10End_due hx hdue]
  exact held_kernel (held_setEth hbit) (kernelOnly_raiseEvent ..)

end tc10

end sleep

/-- Settles O57: each clause is the branch of its function that the state of the ring gives. -/
theorem sleepEventsComplete : Obligations.SleepEventsComplete := by
  intro t g s hrun s0
  have hon (h : s.sleep.st ≠ .off) : ringRuns s0 = true := ringRuns_on (s := s0) hrun h
  have hst {st : SleepSt} (h : s.sleep.st = st) (hne : st ≠ .off) : ringRuns s0 = true := hon (h ▸ hne)
  refine ⟨fun m stamp hst hport hbad => ?_, fun m stamp hst hport hok hfirst htype => ?_,
    fun h hhold hst hmaster => ?_, fun e hend hdue hjoin hmaster hnone hrole => ?_, fun n a hsent hst hdue => ?_,
    fun r hlast hring hrole hdue => ?_, fun i hobj hst hdue hmaster => ?_,
    fun i hobj hprop hdue hmaster hnone => ?_, fun n a hwake hdue hmaster hset hother => ?_,
    fun w hw hg hdue hcomm => ?_, fun w hw hg hdue hcomm hoff => ?_, fun x stat hx hin hack => ?_, fun x hx hdue => ?_⟩
  · exact next_held hrun (ringRx_malformed (s := s0) (hon hst) hport hbad) rfl
  · exact next_whenRuns hrun (congrArg (holdBase s0) (ringRx_join (s := s0) (hon hst) hport hok hfirst htype))
  · exact next_whenRuns hrun (congrArg (holdBase s0) (tokenPass_passes (s := s0) hhold (hon hst) hmaster))
  · exact next_whenRuns hrun (congrArg (holdBase s0)
      (joinTimeout_master (s := s0) hend hdue (hst hjoin (by decide)) hjoin hmaster hnone hrole))
  · exact next_whenRuns hrun (congrArg (holdBase s0) (tokenTimeoutEnd_due (s := s0) hsent (hon hst) hdue))
  · exact next_whenRuns hrun (congrArg (holdBase s0)
      (tokenLost_due (s := s0) hlast (hst hring (by decide)) hring hrole hdue))
  · exact next_held hrun (objectionEnd_other (s := s0) hobj (hon hst) hdue hmaster) rfl
  · exact next_whenRuns hrun (congrArg (holdBase s0)
      (objectionEnd_agrees (s := s0) hobj (hst hprop (by decide)) hdue hprop hmaster hnone))
  · exact next_whenRuns hrun (congrArg (holdBase s0) (awakeEnd_overrules (s := s0) hwake hdue hmaster hset hother))
  · exact next_held hrun (falseWakeEnd_valid (s := s0) hw hg hdue hcomm) rfl
  · exact next_whenRuns hrun (congrArg (holdBase s0) (falseWakeEnd_off (s := s0) hw hg hdue hcomm hrun hoff))
  · exact next_held hrun (tc10Poll_acknowledged (s := s0) hx hin hack) rfl
  · exact ⟨_, next_held hrun rfl (held_tc10End (s := s0) hx hdue), tc10End_resets (s := s0) hx hdue⟩

end Sys2Proof.Machine
end

section
/-!
The events of the links (R695, R700, R710 to R714), of pairing (R713 to R727) and of functional safety (R33, R734 to
R743).
-/
namespace Sys2Proof.Machine

/-! ### Links -/

section links
variable {k : Nat} {s : State}

section packet
variable {pk : LinkPacket} {bus : Option CanFrame} {recs : List MirrorRec} {cap : Nat} (hk : k < 2)
  (hup : operUp s (50 + k) = true)
include hk hup

theorem linkPacket_arrives : ¬ (decide (1 < k) || !operUp s (50 + k)) = true := by
  rw [hup, decide_eq_false (Nat.not_lt.2 (Nat.le_of_lt_succ hk))]
  decide

theorem lnkReceive_bad (hbad : pk.good = false) :
    lnkReceive k pk bus recs cap s = lnkGrant k true (bump (lnkCtr k 0x0110) s) := by
  have hdrop : (!pk.good || (pktReplayable pk && pk.lseq != ((linkOf s k).rxSeq + 1) % 65536)) = true := by
    rw [hbad]
    rfl
  unfold lnkReceive
  exact (if_neg (linkPacket_arrives hk hup)).trans (if_pos hdrop)

section accepted
variable (hgood : pk.good = true) (hseq : pktReplayable pk = true → pk.lseq = ((linkOf s k).rxSeq + 1) % 65536)
include hgood hseq

omit hk hup in
theorem linkPacket_accepted : ¬ (!pk.good || (pktReplayable pk && pk.lseq != ((linkOf s k).rxSeq + 1) % 65536)) = true := by
  rw [hgood, Bool.not_true, Bool.false_or, Bool.and_eq_true, bne_iff_ne]
  exact fun h => h.2 (hseq h.1)

theorem lnkReceive_service (htype : pk.typ ≠ 1) : lnkReceive k pk bus recs cap s =
    lnkPump k (mirrorPump (lnkGrant k false (lnkServe k pk recs cap (lnkAccept k pk s)))) := by
  unfold lnkReceive
  exact (if_neg (linkPacket_arrives hk hup)).trans ((if_neg (linkPacket_accepted hgood hseq)).trans (if_neg htype))

/-- A FRAME packet that need not wait for room is taken in, and its credit returned. -/
theorem lnkReceive_frame (htype : pk.typ = 1) {a : Admission}
    (ha : (ingress (lnkFrame s k pk bus cap) (50 + k) false (lnkAccept k pk s)).2 = a) (hwait : a.wait = false) :
    lnkReceive k pk bus recs cap s = lnkPump k (lnkGrant k false a.st) := by
  unfold lnkReceive
  refine (if_neg (linkPacket_arrives hk hup)).trans ((if_neg (linkPacket_accepted hgood hseq)).trans
    ((if_pos htype).trans ?_))
  subst ha
  exact if_neg (Bool.eq_false_iff.1 hwait)

end accepted

end packet

theorem lnkReplayTimeout_due (hup : operUp s (50 + k) = true) (hany : (linkOf s k).unacked ≠ [])
    (hdue : (linkOf s k).ackAt + us 2 ≤ s.now) : lnkReplayTimeout k s = lnkReplay k s := by
  have hgo : ¬ ((!operUp s (50 + k)) = true ∨ (linkOf s k).unacked.isEmpty = true ∨ s.now < (linkOf s k).ackAt + us 2) := by
    rw [hup, List.isEmpty_iff]
    rintro (h | h | h)
    · exact Bool.false_ne_true h
    · exact hany h
    · exact absurd hdue (Nat.not_le.2 h)
  unfold lnkReplayTimeout
  exact if_neg hgo

theorem relayTimeout_one {e : LinkPacket × Tick} (hone : (linkOf s k).relays = [e]) (hdue : e.2 + us 10 ≤ s.now) :
    relayTimeout k s = lnkComplete (1 - k) e.1 1 [] (bump (lnkCtr (1 - k) 0x0148)
      (setLink k { linkOf s k with relays := [] } s)) := by
  have hout : [e].filter (fun e => decide (e.2 + us 10 ≤ s.now)) = [e] := by simp [hdue]
  have hstay : [e].filter (fun e => !decide (e.2 + us 10 ≤ s.now)) = [] := by simp [hdue]
  unfold relayTimeout
  dsimp only
  rw [hone, hout, hstay]
  rfl

theorem remoteTimeout_due {r : Remote} (hr : s.pair.remote = some r) (hdue : r.started + ms 1 ≤ s.now) :
    remoteTimeout s = remoteFinish r { status := if r.retried then 0x0107 else 0x0204 } s := by
  unfold remoteTimeout
  rw [hr]
  exact if_neg (Nat.not_lt.2 hdue)

/-- What R727's window keeps of an unpaired unit: its state and its links. -/
theorem reclaimTrack_st (s : State) : (reclaimTrack s).pair.st = s.pair.st := by
  unfold reclaimTrack
  split <;> rfl

theorem linkOf_reclaimTrack (s : State) (k : Nat) : linkOf (reclaimTrack s) k = linkOf s k := by
  unfold reclaimTrack
  split <;> rfl

theorem operUp_reclaimTrack (s : State) (g : Nat) : operUp (reclaimTrack s) g = operUp s g := by
  unfold reclaimTrack
  split <;> rfl

/-- An unpaired unit whose link 0 alone is up sends one heartbeat there in a window. -/
theorem heartbeatTx_link0 {x : Link} {y z : State} (hx : linkOf s 0 = x) (hy : reclaimTrack s = y)
    (hup : operUp s 50 = true) (hnew : x.hbWindow ≠ some (s.now / us 10)) (hst : s.pair.st = .unpaired)
    (hz : lnkGrant 0 false (lnkSend 0
      { mkPacket y 6 12 0xFF 31 0 0 (hbPayload y x (lnkEgress y y.clk)) with lack := x.rxSeq }
      (setLink 0 { x with
        hbSeq := (x.hbSeq + 1) % 2 ^ 32, hbWindow := some (s.now / us 10)
        hbSent := (((x.hbSeq + 1) % 2 ^ 32, lnkEgress y y.clk) :: x.hbSent).take 64 } y)) = z)
    (hdown : operUp z 51 = false) : heartbeatTx s = mirrorPump z := by
  have hover : ¬ (y.pair.st = .active ∧ bit y.pair.peerFlags 3 ∧ peerReady y ∧ !y.pair.hold ∧ hbValid y) := by
    rw [← hy, reclaimTrack_st, hst]
    exact fun h => absurd h.1 (by decide)
  have hlink : linkOf y 0 = x := by rw [← hy, linkOf_reclaimTrack, hx]
  have hsend : ¬ ((!operUp y (50 + 0)) = true ∨ x.hbWindow = some (s.now / us 10)) := by
    rw [← hy, operUp_reclaimTrack, hup]
    rintro (h | h)
    · exact Bool.false_ne_true h
    · exact hnew h
  have hskip : (!operUp z (50 + 1)) = true ∨ (linkOf z 1).hbWindow = some (s.now / us 10) := .inl (by rw [hdown]; rfl)
  unfold heartbeatTx
  dsimp only
  rw [hy, if_neg hover, hlink, if_neg hsend, hz, if_pos hskip]

end links

/-- Settles O58: each clause is the branch of its function for what arrived or is due. -/
theorem linkEventsComplete : Obligations.LinkEventsComplete := by
  intro t k s hrun hk s0
  refine ⟨fun l0 l1 al => ?_, fun pk bus recs cap hup hbad => ?_,
    fun pk bus recs cap hup hgood hseq => ⟨fun htype => ?_, fun htype => ?_⟩, fun hup hany hdue => ?_,
    fun e hone hdue => ?_, fun r hr hdue => ?_, ?_⟩
  · exact next_whenRuns hrun (congrArg (holdBase s0) (only_true (decide_eq_true hk)))
  · exact next_whenRuns hrun (congrArg (holdBase s0) (lnkReceive_bad (s := s0) hk hup hbad))
  · exact next_whenRuns hrun (congrArg (holdBase s0) (lnkReceive_service (s := s0) hk hup hgood hseq htype))
  · intro a hwait
    exact next_whenRuns hrun (congrArg (holdBase s0)
      (lnkReceive_frame (s := s0) hk hup hgood hseq htype (a := a) rfl hwait))
  · exact next_whenRuns hrun (congrArg (holdBase s0) (lnkReplayTimeout_due (s := s0) hup hany hdue))
  · exact next_whenRuns hrun (congrArg (holdBase s0) (relayTimeout_one (s := s0) hone hdue))
  · exact next_whenRuns hrun (congrArg (holdBase s0) (remoteTimeout_due (s := s0) hr hdue))
  · intro y x stamp p z hup hnew hst hdown
    exact next_whenRuns hrun (congrArg (holdBase s0)
      (heartbeatTx_link0 (s := s0) (x := x) (y := y) (z := z) rfl rfl hup hnew hst rfl hdown))

/-! ### Pairing -/

section pairing
variable {s : State}

section silence
variable (hst : s.pair.st = .standby) (hwait : s.pair.waitEnd = none) (hlost : hbValid s = false)
  (hlast : s.pair.hbLast = none)
include hst hwait hlost hlast

/-- A standby without a heartbeat takes over where the pin is silent too, and else is isolated (R714). -/
theorem heartbeatLost_standby :
    heartbeatLost s = if pinSilent s then takeOver 1 s else toIsolated false s := by
  have hgo : ¬ (s.pair.st = .unpaired ∨ s.pair.waitEnd.isSome = true) := by
    rw [hst, hwait]
    decide
  unfold heartbeatLost
  dsimp only
  rw [if_neg hgo, hlast, hlost, hst]
  cases pinSilent s <;> rfl

end silence

section startWait
variable {e : Tick} (hwait : s.pair.waitEnd = some e) (hdue : e ≤ s.now)
include hwait hdue

theorem startWaitExpiry_peerActive (hpeer : hbValid s = true) (hstate : s.pair.peerState = 3) :
    startWaitExpiry s = toSyncing 1 s := by
  unfold startWaitExpiry
  rw [hwait]
  exact (if_neg (Nat.not_lt.2 hdue)).trans ((if_pos hpeer).trans (if_pos hstate))

theorem startWaitExpiry_alone (hpeer : hbValid s = false) (hpin : pinSilent s = true) :
    startWaitExpiry s = toActive 1 s := by
  unfold startWaitExpiry
  rw [hwait]
  exact (if_neg (Nat.not_lt.2 hdue)).trans ((if_neg (Bool.eq_false_iff.1 hpeer)).trans (if_pos (.inl hpin)))

theorem startWaitExpiry_isolated (hpeer : hbValid s = false) (hpin : pinSilent s = false) (hpref : preferred s = false) :
    startWaitExpiry s = toIsolated false s := by
  have hnot : ¬ (pinSilent s = true ∨ preferred s = true) := by
    rw [hpin, hpref]
    decide
  unfold startWaitExpiry
  rw [hwait]
  exact (if_neg (Nat.not_lt.2 hdue)).trans ((if_neg (Bool.eq_false_iff.1 hpeer)).trans (if_neg hnot))

end startWait

theorem syncComplete_agrees (hst : s.pair.st = .syncing) (hcopied : s.pair.copied = true) (hwait : s.pair.waitEnd = none) :
    syncComplete true s = setPairState .standby 3 { s with pair.keysAgree := true } := by
  have hgo : ¬ (s.pair.st ≠ .syncing ∨ (!s.pair.copied) = true ∨ s.pair.waitEnd.isSome = true) := by
    rw [hst, hcopied, hwait]
    decide
  unfold syncComplete
  exact (if_neg hgo).trans (if_pos rfl)

theorem holdOffExpiry_due {r : Tick} {y : State} (hy : reclaimTrack s = y) (hr : y.pair.reclaimFrom = some r)
    (hdue : r + holdOffS y * ticksPerSec ≤ y.now) : holdOffExpiry s = { y with pair.reclaim := true } := by
  unfold holdOffExpiry
  dsimp only
  rw [hy, hr]
  exact if_pos hdue

end pairing

/-- Settles O59: each clause is the branch of its function that heartbeat, pin and windows give. -/
theorem pairEventsComplete : Obligations.PairEventsComplete := by
  intro t s hrun s0
  refine ⟨fun hdue => ?_, ?_, fun hst hwait hlost hpin hlast => ?_, fun hst hwait hlost hpin hlast => ?_,
    fun e hwait hdue => ⟨fun hpeer hstate => ?_, fun hpeer hpin => ?_, fun hpeer hpin hpref => ?_⟩, fun hst => ?_,
    fun hst hcopied hwait => ?_, ?_⟩
  · exact next_held hrun (if_pos hdue) rfl
  · exact next_held hrun rfl rfl
  · exact next_whenRuns hrun (congrArg (holdBase s0)
      ((heartbeatLost_standby (s := s0) hst hwait hlost hlast).trans (if_pos hpin)))
  · exact next_whenRuns hrun (congrArg (holdBase s0)
      ((heartbeatLost_standby (s := s0) hst hwait hlost hlast).trans (if_neg (Bool.eq_false_iff.1 hpin))))
  · exact next_whenRuns hrun (congrArg (holdBase s0) (startWaitExpiry_peerActive (s := s0) hwait hdue hpeer hstate))
  · exact next_whenRuns hrun (congrArg (holdBase s0) (startWaitExpiry_alone (s := s0) hwait hdue hpeer hpin))
  · exact next_whenRuns hrun (congrArg (holdBase s0) (startWaitExpiry_isolated (s := s0) hwait hdue hpeer hpin hpref))
  · exact next_whenRuns hrun (congrArg (holdBase s0) (if_pos hst))
  · exact next_whenRuns hrun (congrArg (holdBase s0) (syncComplete_agrees (s := s0) hst hcopied hwait))
  · intro r y hr hdue
    exact next_whenRuns hrun (congrArg (holdBase s0) (holdOffExpiry_due (s := s0) (y := y) rfl hr hdue))

/-! ### Functional safety -/

section safety
variable {n : Nat} {s : State}

theorem watchdogExpiry_due (hdue : s.safety.kicked + ms 10 ≤ s.now) (hact : s.power.activating = none)
    (hlbist : lbistRuns 0 s = false) : watchdogExpiry s = safetyRst 3 0 7 s := by
  have hgo : ¬ (s.now < s.safety.kicked + ms 10 ∨ s.power.activating.isSome = true ∨ lbistRuns 0 s = true) := by
    rw [hact, hlbist]
    rintro (h | h | h)
    · exact absurd hdue (Nat.not_le.2 h)
    · exact Bool.false_ne_true h
    · exact Bool.false_ne_true h
  unfold watchdogExpiry
  exact if_neg hgo

section clock
variable (hlo : 3 ≤ n) (hhi : n ≤ 13) (hclock : clockRuns s n = true)
include hlo hhi hclock

theorem clock_measured : ¬ (!(within n 3 13 && clockRuns s n)) = true := by
  rw [hclock, within, decide_eq_true hlo, decide_eq_true hhi]
  decide

theorem clockMonitor_back (hbit : s.safety.freqFault.testBit (n - 1) = true) :
    clockMonitor n true s = { s with safety.freqFault := s.safety.freqFault - 2 ^ (n - 1) } := by
  unfold clockMonitor
  dsimp only
  rw [if_neg (clock_measured hlo hhi hclock), if_pos rfl, if_pos hbit]

/-- The clocks from 11 on have the reaction E alone. -/
theorem clockMonitor_out (hrow : 10 < n) : clockMonitor n false s = safetyE 8 n (setW1c 0x0700 0x0040 (15 + n) n
    { s with safety.freqFault := s.safety.freqFault ||| 2 ^ (n - 1) }) := by
  have hthree : n ≠ 3 := by omega
  have hlee : ¬ (5 ≤ n ∧ n ≤ 10) := by omega
  unfold clockMonitor
  dsimp only
  rw [if_neg (clock_measured hlo hhi hclock), if_neg Bool.false_ne_true, if_neg hthree, if_neg hlee]

end clock

theorem lbistRuns_idle (hidle : s.safety.lbistEnd = none) (n : Nat) : lbistRuns n s = false := by
  unfold lbistRuns
  rw [hidle]

theorem lbistSlot_passes {len : Tick} (hidle : s.safety.lbistEnd = none) (hlen : len ≤ ms 2)
    (hmode : s.mode = .gale ∨ s.mode = .lee ∨ s.mode = .atelier) :
    lbistSlot len true s = bump (safetyCounter 0x0128) { s with
      safety.lbistEnd := some (s.now + len), safety.lbistNext := (s.safety.lbistNext + 1) % 3
      safety.rotStart := if s.safety.lbistNext = 0 then s.now else s.safety.rotStart } := by
  have hgo : ¬ ((lbistRuns 0 s || lbistRuns 1 s || lbistRuns 2 s) = true ∨ ms 2 < len ∨
      (!decide (s.mode = .gale ∨ s.mode = .lee ∨ s.mode = .atelier)) = true) := by
    rw [lbistRuns_idle hidle, lbistRuns_idle hidle, lbistRuns_idle hidle, decide_eq_true hmode]
    rintro (h | h | h)
    · exact Bool.false_ne_true h
    · exact absurd hlen (Nat.not_le.2 h)
    · exact Bool.false_ne_true h
  unfold lbistSlot
  exact (if_neg hgo).trans (if_pos rfl)

/-- The one frame watched is late: its flow is named, and it is watched no longer. -/
theorem forwardingMonitor_late {i : Nat} {a : Tick} {h : HeldFrame} (hone : s.switch.watched = [(i, a)])
    (hdue : a + ms 1 ≤ s.now) (hheld : heldOf s i = some h) :
    forwardingMonitor s = safetyLee 4 h.frame.flow { s with switch.watched := tdel s.switch.watched i } := by
  have hlate : s.switch.watched.filter (fun e => decide (e.2 + ms 1 ≤ s.now)) = [(i, a)] := by
    rw [hone]
    simp [hdue]
  unfold forwardingMonitor
  dsimp only
  rw [hlate, List.foldl_cons, List.foldl_nil]
  dsimp only
  rw [hheld]

/-- One divergence that begins, with none before it in the comparison. -/
theorem stateCompare_started (a b : Nat) (s : State) :
    stateCompare [] [(a, b)] s = raiseSafety 0x0A00 0x0103 (le 2 a ++ le 2 b ++ le 1 0 ++ le 1 1)
      (safetyLee 10 b { s with safety.diverging := [] }) := by
  unfold stateCompare
  dsimp only
  rw [List.foldl_cons, List.foldl_nil, List.foldl_nil]

end safety

theorem performReset_none {s : State} (h : s.power.resetDue = none) : performReset s = s := by
  unfold performReset
  rw [h]

/-- An event that may make a reset due, whose function leaves `y`. -/
theorem next_thenReset {t : Tick} {f : State → State} {s y : State} (hf : f (atTime t s) = y) :
    (Host.Outcome.next (thenReset t f s) : Host.Outcome State Fault Refusal) =
      .next (performReset (holdBase (atTime t s) y)) := by
  subst hf
  rfl

/-- Settles O60: each clause is the reaction of its row. -/
theorem safetyEventsComplete : Obligations.SafetyEventsComplete := by
  intro t n s hrun s0
  refine ⟨fun hdue hact hlbist => ?_, ?_, ?_, ?_, fun hlo hhi hclock => ⟨fun hbit hquiet => ?_, fun hrow => ?_⟩, ?_, ?_,
    fun len hidle hlen hmode => ?_, fun i a h hone hdue hheld => ?_, ?_, fun a b => ?_⟩
  · exact next_thenReset ((only_true hrun).trans (watchdogExpiry_due (s := s0) hdue hact hlbist))
  · exact next_thenReset (only_true hrun)
  · exact next_thenReset (only_true hrun)
  · exact next_thenReset (only_true hrun)
  · exact (next_thenReset (clockMonitor_back (s := s0) hlo hhi hclock hbit)).trans
      (congrArg Host.Outcome.next (performReset_none hquiet))
  · exact next_thenReset (clockMonitor_out (s := s0) hlo hhi hclock hrow)
  · exact next_whenRuns hrun (congrArg (holdBase s0) (if_pos rfl))
  · exact next_held hrun (if_neg Bool.false_ne_true) rfl
  · exact next_held hrun (lbistSlot_passes (s := s0) hidle hlen hmode) rfl
  · exact next_whenRuns hrun (congrArg (holdBase s0) (forwardingMonitor_late (s := s0) hone hdue hheld))
  · exact next_held hrun rfl rfl
  · exact next_whenRuns hrun (congrArg (holdBase s0) (stateCompare_started a b s0))

end Sys2Proof.Machine
end
